-- ==== Sys2Proof/Word.lean ====
section
/-! DEFINITION. The plain words of the part: ids, classes, windows, links, positions (spec/00 section 7, R1, R39, R173). -/

namespace Sys2Proof

/-- One byte of a frame. -/
abbrev Byte := BitVec 8

/-- One settings word (R153, R157). -/
abbrev SWord := BitVec 16

/-- A 32-bit tote id (R1); 0 names no tote. -/
abbrev ToteId := BitVec 32

/-- A 32-bit order tote id (R60); a separate number space from tote ids. -/
abbrev OrderToteId := BitVec 32

/-- A 16-bit task id (R39); 0 names no task. -/
abbrev TaskId := BitVec 16

/-- A 24-bit stock-keeping number (R39); 0 means absent. -/
abbrev Sku := BitVec 24

/-- A 3-byte reply tag (R166). -/
abbrev Tag := BitVec 24

/-- A duration in milliseconds. -/
abbrev Ms := Nat

/-- The temperature classes, in rising order (00 section 7). -/
inductive TempClass where
  | ambient | chilled | frozen
  deriving DecidableEq, Repr

/-- The rank of a class in the order AMBIENT < CHILLED < FROZEN, and its code (R173). -/
def TempClass.rank : TempClass → Nat
  | .ambient => 0
  | .chilled => 1
  | .frozen => 2

/-- `a.exceeds b`: class `a` is above class `b` (R51). -/
def TempClass.exceeds (a b : TempClass) : Bool := b.rank < a.rank

/-- The two presentation windows. -/
inductive Win where
  | w0 | w1
  deriving DecidableEq, Repr

/-- The other window. -/
def Win.other : Win → Win
  | .w0 => .w1
  | .w1 => .w0

/-- The number of a window, its code (R173). -/
def Win.num : Win → Nat
  | .w0 => 0
  | .w1 => 1

/-- The three links (R163). -/
inductive Link where
  | order | transport | bench
  deriving DecidableEq, Repr

/-- The two links that carry notices (R168). -/
inductive NoticeLink where
  | order | bench
  deriving DecidableEq, Repr

/-- One value for each window. -/
structure PerWin (α : Type) where
  w0 : α
  w1 : α
  deriving DecidableEq, Repr

/-- The value of window `w`. -/
def PerWin.get {α : Type} (p : PerWin α) : Win → α
  | .w0 => p.w0
  | .w1 => p.w1

/-- `p` with the value of window `w` replaced. -/
def PerWin.set {α : Type} (p : PerWin α) (w : Win) (a : α) : PerWin α :=
  match w with
  | .w0 => { p with w0 := a }
  | .w1 => { p with w1 := a }

/-- One value for each link. -/
structure PerLink (α : Type) where
  order : α
  transport : α
  bench : α
  deriving DecidableEq, Repr

/-- The value of link `l`. -/
def PerLink.get {α : Type} (p : PerLink α) : Link → α
  | .order => p.order
  | .transport => p.transport
  | .bench => p.bench

/-- `p` with the value of link `l` replaced. -/
def PerLink.set {α : Type} (p : PerLink α) (l : Link) (a : α) : PerLink α :=
  match l with
  | .order => { p with order := a }
  | .transport => { p with transport := a }
  | .bench => { p with bench := a }

/-- A lane slot, L0 to L7. -/
abbrev Slot := Fin 8

/-- An order-tote position, P0 to P5. -/
abbrev Pos := Fin 6

/-- The six positions in ascending number. -/
def allPos : List Pos := [0, 1, 2, 3, 4, 5]

end Sys2Proof
end

