-- ==== Sys2Proof/Config.lean ====
section
/-! DEFINITION. What the part fixes (table sizes, queue depths, fixed durations) and the free values the spec leaves open. -/

namespace Sys2Proof.Config

/-- Tote records (R1). -/
def toteRecords : Nat := 16

/-- Task records (R39). -/
def taskRecords : Nat := 64

/-- Places of a notice queue (R168). -/
def noticePlaces : Nat := 16

/-- Places of the direction queue (R169). -/
def directionPlaces : Nat := 24

/-- The greatest account (R28). -/
def accountMax : Nat := 16777215

/-- The accrual interval, 1 s (R19). -/
def accrualMs : Ms := 1000

/-- The settle timer, 2 s (R78). -/
def settleMs : Ms := 2000

/-- The qualification of RSTn, 2 ms (R144). -/
def resetMs : Ms := 2

/-- The greatest body length of a frame (R164). -/
def bodyMax : Nat := 48

/-- The all-ones reply tag: no reply is asked for (R166). -/
def noReply : Tag := 0xFFFFFF

/-- FREE VALUE (DESIGN CHOICE, log entry 3): the outcome of the `n`-th choice that the spec leaves open
('in either order'): R109, R119, R142 step 7, R169, 12.1. Nothing says which way it falls. -/
opaque freeBit : Nat → Bool

/-- FREE VALUE (DESIGN CHOICE, log entry 12): the byte of TASK_LIT that carries a guard of `ms` milliseconds
when that is no whole number of seconds (R130). -/
opaque guardByte : Nat → Byte

/-- FREE VALUE (DESIGN CHOICE, log entry 2): which of several timers due in one millisecond expires first. -/
opaque duePick : Nat → Nat

/-- FREE VALUE (DESIGN CHOICE, log entry 8): how far a store had gone when a reset that the tick itself qualifies, or a
POWER_ON without a LOSS_OF_SUPPLY before it, cuts it short (R160). -/
opaque cutStage : Nat → Nat

/-- FREE VALUE (DESIGN CHOICE, log entry 8): how many of words 0 to 28 were written before that cut (R158, R160). -/
opaque cutDone : Nat → Nat

/-- FREE VALUE (DESIGN CHOICE, log entry 8): what the word reads that was being written at that cut (R160). -/
opaque cutWord : Nat → SWord

end Sys2Proof.Config
end

