-- ==== Sys2Proof/Syntax.lean ====
section
/-! DEFINITION. The commands of the part: one constructor for each row of spec/opcode_table.json.

The table gives its rows no operands; each operand below is what the rule of the row lets the outside supply.
A request command stands for one whole frame with a good CRC, start byte to CRC (R164), carrying its body fields at
their wire widths (section 11.7); the owning block checks their ranges (R173). -/

namespace Sys2Proof

/-- The levels of the lines at a moment of start-up (R76, R101, R131, R134, R161): true is the asserted level. -/
structure Pins where
  pres : PerWin Bool
  ppos : Vector Bool 6
  btn : Vector Bool 6
  holdLow : Bool
  service : Bool
  deriving DecidableEq, Repr

/-- How far a store in flight had gone when it was cut short (R160). -/
inductive StoreCut where
  /-- Cut during the erase or the writing of words 0 to 28 (R158, steps 1 and 2): the words below `done` are written,
  word `done` reads `word`, every later one is erased. -/
  | inWords (done : Fin 29) (word : BitVec 16)
  /-- Cut after words 0 to 28, before word 30 (R158, step 3): whether word 29 was written. -/
  | afterWords (checkWritten : Bool)
  /-- Cut while word 30 was being written, and whether that write took. -/
  | atMark (took : Bool)
  /-- Cut during the read-back. -/
  | inReadBack
  deriving DecidableEq, Repr

/-- What every request frame carries beside its kind and body: its link and its reply tag (R166). -/
structure Req where
  link : Link
  tag : Tag
  deriving DecidableEq, Repr

/-- The commands: one constructor per row of the opcode table. -/
inductive Instr where
  -- start-up, supply and reset (R144, R145, R160, R161)
  | powerOn (pins : Pins)
  | rstnFall
  | resetQualified (cut : StoreCut)
  | rstnRise (pins : Pins)
  | settingsLoadEnd
  | frameIgnoredDuringLoad (l : Link)
  -- the receivers and transmitters (R163 to R167)
  | byteStopBitAbort (l : Link)
  | frameLengthAbandon (l : Link) (length : Byte)
  | frameCrcDiscard (l : Link) (content : List Byte) (crc : BitVec 16)
  | formatRefusal (r : Req) (kind : Byte) (body : List Byte)
  | frameSent (l : Link)
  -- order link requests
  | post (r : Req) (task : TaskId) (tote : ToteId) (orderTote : OrderToteId) (sku : Sku)
      (cls quantity unitVolume crushClass : Byte)
  | withdraw (r : Req) (task : TaskId)
  | rush (r : Req) (tote : ToteId)
  | bind (r : Req) (pos : Byte) (orderTote : OrderToteId) (cls capacity : Byte)
  | close (r : Req) (pos : Byte)
  | mode (r : Req) (mode : Byte)
  | clear (r : Req)
  | setItem (r : Req) (item : Byte) (value : BitVec 16)
  | store (r : Req)
  | storeCompletion (readBack : Vector SWord 31)
  | lock (r : Req)
  -- transport link requests
  | toteIn (r : Req) (tote : ToteId) (slot cls : Byte) (brought : BitVec 24)
  | toteOut (r : Req) (tote : ToteId)
  | atWin (r : Req) (tote : ToteId) (window : Byte)
  | gone (r : Req) (tote : ToteId)
  | swapped (r : Req) (pos : Byte)
  -- bench link requests
  | picked (r : Req) (task : TaskId) (count : Byte)
  | short (r : Req) (task : TaskId)
  | toteBad (r : Req) (tote : ToteId)
  -- requests of several links
  | hold (r : Req) (windows : Byte)
  | resume (r : Req) (windows : Byte)
  | read (r : Req) (item : Byte) (index : BitVec 32)
  | list (r : Req)
  | cursor (r : Req) (kind index : Byte)
  | watch (r : Req) (entry enabled subject : Byte) (low high : BitVec 32) (combine events windows : Byte)
  -- timers, reads and lines
  | accrualIntervalExpiry
  | accrualEvent (reading : Option (BitVec 16))
  | orphanExpiry (tote : ToteId)
  | laneReturnTimeout (tote : ToteId)
  | presRise (w : Win)
  | presFall (w : Win)
  | settleExpiry (w : Win)
  | fetchTimeout (w : Win)
  | windowReturnTimeout (w : Win)
  | blockTimerExpiry (w : Win)
  | swapTimeout (p : Pos)
  | pposFall (p : Pos)
  | pposRise (p : Pos)
  | btnPress (p : Pos)
  | btnRelease (p : Pos)
  | guardExpiry (w : Win)
  | confirmPeriodExpiry (w : Win)
  | awaitExpiry (task : TaskId)
  | holdLineAsserted
  | holdLineReleased
  | lossOfSupply (cut : StoreCut)
  | startByte (l : Link)
  deriving DecidableEq, Repr

end Sys2Proof
end

