-- ==== Sys2Proof/Machine/State.lean ====
section
/-! DEFINITION. The state of the part as plain data: every record, table, queue, timer, flag and line the spec names,
and the part right after power-on (R145). A timer is `some` remaining milliseconds while it runs. -/

namespace Sys2Proof.Machine

/-! ## Tote table (chapter 1) -/

/-- State and place of a tote (R2). The level of a tote on a lift is its place in that window's lift stack (R78). -/
inductive ToteState where
  | inLane (slot : Slot)
  | fetching (w : Win)
  | onLift (w : Win)
  | leavingLane (slot : Slot)
  | leavingWin (w : Win)
  deriving DecidableEq, Repr

/-- A tote record in use (R1), with its record number (R172). -/
structure Tote where
  recNo : Nat
  id : ToteId
  cls : TempClass
  state : ToteState
  account : Nat
  carry : Nat
  urgent : Bool
  expired : Bool
  rush : Bool
  finished : Bool
  orphanTimer : Option Ms
  laneReturnTimer : Option Ms
  deriving DecidableEq, Repr

/-! ## Exposure unit (chapter 2) -/

/-- Why the sensor is in fault (R19). -/
inductive SensorCause where
  | start | noAnswer | outOfRange
  deriving DecidableEq, Repr

/-- The sensor state with its fault cause (R19). -/
inductive Sensor where
  | valid
  | fault (cause : SensorCause)
  deriving DecidableEq, Repr

/-- The exposure unit's own state (R19). -/
structure Exposure where
  sensor : Sensor
  lastRaw : Option Int
  corrected : Option Int
  band : Fin 4
  interval : Option Ms
  readInFlight : Bool
  deriving DecidableEq, Repr

/-! ## Task table (chapter 3) -/

/-- The live states of a task (R40). -/
inductive TaskState where
  | waiting | ready | active | lit
  deriving DecidableEq, Repr

/-- Why a task FAILED (R41). -/
inductive FailReason where
  | cls | expired | notDelivered | orderToteLeft | toteBad
  deriving DecidableEq, Repr

/-- The terminal outcomes (R41). -/
inductive TaskOutcome where
  | done | short | failed (reason : FailReason) | cancelled
  deriving DecidableEq, Repr

/-- A live task record (R39), with its record number (R172). -/
structure Task where
  recNo : Nat
  id : TaskId
  tote : ToteId
  orderTote : OrderToteId
  sku : Sku
  cls : TempClass
  quantity : Nat
  confirmed : Nat
  unitVolume : Nat
  crushClass : Nat
  state : TaskState
  awaitTimer : Option Ms
  crush : Bool
  overdue : Bool
  overcount : Bool
  deriving DecidableEq, Repr

/-! ## Positions (chapter 4) and lights (chapter 7) -/

/-- The states of a position (R61). -/
inductive PosState where
  | empty | bound | closing | swapping | pulled
  deriving DecidableEq, Repr

/-- The state a position left when its order tote was pulled (R60). -/
inductive PrePull where
  | bound | closing
  deriving DecidableEq, Repr

/-- What a BIND gives a position (R60, R65): present in every state but EMPTY. -/
structure Binding where
  orderTote : OrderToteId
  cls : TempClass
  capacity : Nat
  deriving DecidableEq, Repr

/-- The light modes (R115), in the order R75 lists them. -/
inductive LightMode where
  | off | steady | flash | fast
  deriving DecidableEq, Repr

/-- A put light: its mode and the milliseconds since its pattern began (R115). -/
structure Light where
  mode : LightMode
  phase : Ms
  deriving DecidableEq, Repr

/-- A position record (R60) with the put controller's state for the position (R114, R115). -/
structure Position where
  state : PosState
  binding : Option Binding
  fill : Nat
  floor : Nat
  lock : Option Win
  present : Bool
  beforePull : Option PrePull
  swapTimer : Option Ms
  lastHolder : Option Win
  pressed : Bool
  armed : Bool
  light : Light
  deriving DecidableEq, Repr

/-! ## Windows (chapter 5) -/

/-- The kinds of fetch (R78). -/
inductive FetchKind where
  | plain | preempting
  deriving DecidableEq, Repr

/-- A fetch in flight (R78). -/
structure Fetch where
  tote : ToteId
  kind : FetchKind
  fetchTimer : Option Ms
  atwinSeen : Bool
  presRisen : Bool
  settleTimer : Option Ms
  deriving DecidableEq, Repr

/-- A return in flight (R78). -/
structure Return where
  tote : ToteId
  timer : Ms
  deriving DecidableEq, Repr

/-- The hold sources of a window (R78, 08 section 8.3). -/
structure Holds where
  order : Bool
  transport : Bool
  bench : Bool
  line : Bool
  fault : Bool
  deriving DecidableEq, Repr

/-- Why a window took a FAULT hold (R78, R89). -/
inductive WinFault where
  | sensor | pulled | fetch
  deriving DecidableEq, Repr

/-- A window record (R78) with the put controller's state for the window (R114). -/
structure Window where
  lift : List ToteId
  fetch : Option Fetch
  ret : Option Return
  confirms : Nat
  holds : Holds
  faultCause : Option WinFault
  blockTimer : Option Ms
  present : Bool
  lit : Option TaskId
  confirmTimer : Option Ms
  guardTimer : Option Ms
  lastEnded : Option TaskId
  deriving DecidableEq, Repr

/-! ## Bench control, counters and watches (chapters 8 and 9) -/

/-- The bench modes (R134). -/
inductive Mode where
  | run | drain | service
  deriving DecidableEq, Repr

/-- Where the part is between supply and running (R144, R145, R160). -/
inductive Phase where
  /-- Without supply. -/
  | off
  /-- In a qualified reset, RSTn low. -/
  | inReset
  /-- Start-up: the settings load runs. -/
  | loading
  /-- The load has ended: the part runs. -/
  | running
  deriving DecidableEq, Repr

/-- The qualification of RSTn (R134, R144): idle, or low with so much of the 2 ms left. -/
inductive RstLine where
  | idle
  | low (left : Ms)
  deriving DecidableEq, Repr

/-- The four free-running counters (R151). -/
structure Counters where
  presentations : BitVec 32
  units : BitVec 32
  shorts : BitVec 32
  expiries : BitVec 32
  deriving DecidableEq, Repr

/-- What a watch entry matches on (R146). -/
inductive Subject where
  | tote | sku
  deriving DecidableEq, Repr

/-- How a watch entry combines its bounds (R146). -/
inductive Combine where
  | both | either
  deriving DecidableEq, Repr

/-- The kinds of event offered to the watch unit (R148). -/
inductive EventKind where
  | totePresented | toteReturned | toteUrgent | toteExpired | taskDone | taskShort | taskFailed
  deriving DecidableEq, Repr

/-- A set of windows (R173). -/
structure WinSet where
  w0 : Bool
  w1 : Bool
  deriving DecidableEq, Repr

/-- A watch entry (R146); it is enabled while it has an owner. `events` holds the sum of R173. -/
structure WatchEntry where
  owner : Option NoticeLink
  subject : Subject
  low : BitVec 32
  high : BitVec 32
  combine : Combine
  events : Byte
  windows : WinSet
  deriving DecidableEq, Repr

/-! ## Frames the part sends (chapter 11) -/

/-- The request kinds (section 11.7). -/
inductive ReqKind where
  | post | withdraw | rush | bind | close | mode | clear | setItem | store | lock
  | toteIn | toteOut | atWin | gone | swapped
  | picked | short | toteBad
  | hold | resume | read | list | cursor | watch
  deriving DecidableEq, Repr

/-- The reason codes of replies (section 11.7). -/
inductive Reason where
  | ok | clamped | mode | busy | range | full | duplicate | unknown | state | notLit | early | already | locked
  | order | cls | expired | noTote | slotBusy | owned | authority | format | storeFail
  deriving DecidableEq, Repr

/-- A reply frame (R166): TAKEN or REFUSED, the request's tag, the request kind's code, the reason and a result. -/
structure Reply where
  taken : Bool
  tag : Tag
  kind : Byte
  reason : Reason
  result : List Byte
  deriving DecidableEq, Repr

/-- Where a tote left from (R2). -/
inductive Origin where
  | lane (slot : Slot)
  | window (w : Win)
  deriving DecidableEq, Repr

/-- A direction on the transport link (R169, section 11.7). -/
inductive Direction where
  | fetch (tote : ToteId) (slot : Slot) (w : Win)
  | sendBack (tote : ToteId) (origin : Origin)
  | swapOut (p : Pos) (orderTote : OrderToteId)
  deriving DecidableEq, Repr

/-- The causes of TASK_UNLIT (R126). -/
inductive UnlitCause where
  | ended (outcome : TaskOutcome)
  | expired
  | hold
  | preempt
  | windowPulled
  | positionPulled
  deriving DecidableEq, Repr

/-- What EXPOSURE_WARN and TOTE_EXPIRED carry (R34). -/
structure ExposureInfo where
  tote : ToteId
  cls : TempClass
  account : Nat
  warn : Nat
  limit : Nat
  state : ToteState
  level : Option Nat
  deriving DecidableEq, Repr

/-- What is carried of an event beside its kind, value and window (R149). -/
inductive EventDetail where
  | tote (cls : TempClass) (account : Nat)
  | task (id : TaskId) (reason : Option FailReason)
  deriving DecidableEq, Repr

/-- An event offered to the watch unit (R148, R149). -/
structure WatchEvent where
  kind : EventKind
  value : BitVec 32
  window : Option Win
  tote : ToteId
  detail : EventDetail
  deriving DecidableEq, Repr

/-- The notices (section 11.7, notice event codes), each with what its rule says it carries. -/
inductive Notice where
  | exposureWarn (info : ExposureInfo)
  | toteExpired (info : ExposureInfo)
  | sensorFault (cause : SensorCause) (raw : Option Int)
  | sensorRestored (temp : Int) (band : Fin 4)
  /-- A terminal notice (R55): the task as it stood, its state that before the end. -/
  | taskEnded (outcome : TaskOutcome) (task : Task) (position : Option Pos)
  | taskLit (task : Task) (w : Win) (p : Pos) (mode : LightMode) (periodMs guardMs : Ms)
  | taskUnlit (task : TaskId) (w : Win) (p : Option Pos) (confirmed : Nat) (cause : UnlitCause)
  | overdue (task : TaskId) (w : Win) (p : Option Pos) (confirmed quantity : Nat)
  | toteLost (tote : ToteId) (cls : TempClass) (account : Nat) (w : Win)
  | returnUnconfirmed (tote : ToteId) (origin : Origin)
  | swapUnconfirmed (p : Pos) (orderTote : OrderToteId)
  | windowFault (w : Win) (cause : WinFault) (tote : ToteId)
  | benchCleared
  | watch (entry : Fin 4) (event : WatchEvent)
  deriving DecidableEq, Repr

/-- A frame on a transmitter (R167, R168): a notice carries LOST as it stood when it was taken. -/
inductive OutFrame where
  | reply (r : Reply)
  | notice (n : Notice) (lost : Bool)
  | direction (d : Direction)
  deriving DecidableEq, Repr

/-- The receiver of a link (R163). -/
inductive Receiver where
  | hunting
  | inFrame (received : List Byte)
  deriving DecidableEq, Repr

/-- The kind of a list cursor (R163). -/
inductive CursorKind where
  | tasks | totes
  deriving DecidableEq, Repr

/-- A list cursor (R163, R172). -/
structure Cursor where
  kind : CursorKind
  index : Nat
  deriving DecidableEq, Repr

/-- What each of the three link ports holds beside its outbound queue (R163). -/
structure Port where
  speed : Fin 4
  receiver : Receiver
  replySlot : Option Reply
  transmitter : Option OutFrame
  cursor : Cursor
  deriving DecidableEq, Repr

/-- A notice queue and its LOST flag (R168). -/
structure NoticeQueue where
  entries : List Notice
  lost : Bool
  deriving DecidableEq, Repr

/-! ## Settings store (chapter 10) -/

/-- The result of the last load (R162). -/
inductive LoadCause where
  | loaded | noMark | badCheck | badValue
  deriving DecidableEq, Repr

/-- The last store outcome (R162). -/
inductive StoreOutcome where
  | none | good | failed
  deriving DecidableEq, Repr

/-- A store in flight (R158): the words it writes (items, check word, complete mark) and the kept reply tag. -/
structure StoreJob where
  words : Vector SWord 31
  tag : Tag
  deriving DecidableEq, Repr

/-- The settings store (R153, R157 to R162). `work` holds the words of items 0 to 28. -/
structure SettingsStore where
  work : Vector SWord 29
  image : Vector SWord 31
  job : Option StoreJob
  waitingReply : Option Reply
  defaulted : Bool
  faultAsserted : Bool
  loadCause : LoadCause
  serviceSampled : Bool
  lastStore : StoreOutcome
  deriving DecidableEq, Repr

/-! ## The whole part -/

/-- The state of the part. `free` counts the free choices taken and `pending` is the queue of commands that wait:
both are the model's own (log entries 1 and 3). -/
structure State where
  phase : Phase
  rstLine : RstLine
  totes : List Tote
  lane : Vector (Option ToteId) 8
  arrival : List ToteId
  exposure : Exposure
  tasks : List Task
  positions : Vector Position 6
  windows : PerWin Window
  mode : Mode
  holdLine : Bool
  counters : Counters
  watches : Vector WatchEntry 4
  settings : SettingsStore
  ports : PerLink Port
  orderQueue : NoticeQueue
  benchQueue : NoticeQueue
  directions : List Direction
  free : Nat
  pending : List Instr
  deriving DecidableEq, Repr

/-- Nothing stops the part with a fault: every fault the spec describes is state (R22, R89, R162). No constructor. -/
inductive Fault where
  deriving DecidableEq, Repr

/-- Why a command has no meaning. -/
inductive Refusal where
  /-- Raised only by a refused arm of `exec`, for a command not modelled yet; no arm does so. Safe. -/
  | notModelled (mnemonic : String)
  deriving DecidableEq, Repr

/-! ## Values at the beginning of start-up -/

/-- The defaults of items 0 to 28, as words (R153). -/
def defaultWords : Vector SWord 29 :=
  #v[32, 128, 288, 8, 0, 2, 6, 14, 30, 8, 20, 37, 80, 4, 64, 24, 12, 2, 1, 30, 45, 120, 90, 20, 1, 1, 1, 1, 0]

/-- An erased image (R157): every word reads 65,535. -/
def erasedImage : Vector SWord 31 := Vector.replicate 31 0xFFFF

/-- The exposure unit at power-on and RST (R19). -/
def exposureReset : Exposure :=
  { sensor := .fault .start, lastRaw := none, corrected := none, band := 3, interval := none, readInFlight := false }

/-- A position at power-on and RST (R76, R131), with the levels of its PPOS and BTN lines. -/
def positionReset (present pressed : Bool) : Position :=
  { state := .empty, binding := none, fill := 0, floor := 0, lock := none, present := present, beforePull := none,
    swapTimer := none, lastHolder := none, pressed := pressed, armed := !pressed, light := ⟨.off, 0⟩ }

/-- A window at power-on and RST (R101, R131), with the level of its PRES line and the hold line. -/
def windowReset (present holdLine : Bool) : Window :=
  { lift := [], fetch := none, ret := none, confirms := 0, holds := ⟨false, false, false, holdLine, false⟩,
    faultCause := none, blockTimer := none, present := present, lit := none, confirmTimer := none,
    guardTimer := none, lastEnded := none }

/-- A watch entry at power-on and RST (R146). -/
def watchReset : WatchEntry :=
  { owner := none, subject := .tote, low := 0, high := 0, combine := .both, events := 0, windows := ⟨false, false⟩ }

/-- A link port at power-on and RST (R163). The speed stands until the load gives one (log entry 6). -/
def portReset : Port :=
  { speed := 1, receiver := .hunting, replySlot := none, transmitter := none, cursor := ⟨.tasks, 0⟩ }

/-- The settings store at the beginning of start-up: the image is kept and SERVICE sampled (R161); the values before
the load ends, the last store outcome NONE among them, are those of log entry 6 (DESIGN CHOICE). -/
def settingsReset (image : Vector SWord 31) (service : Bool) : SettingsStore :=
  { work := defaultWords, image := image, job := none, waitingReply := none, defaulted := false,
    faultAsserted := false, loadCause := .loaded, serviceSampled := service, lastStore := .none }

/-- The lines at rest: no tote, no order tote, no button, no pedal, no key (log entry 5). -/
def restPins : Pins :=
  { pres := ⟨false, false⟩, ppos := Vector.replicate 6 false, btn := Vector.replicate 6 false,
    holdLow := false, service := false }

/-- Every block at the beginning of start-up (R145), with the levels of the lines, the image and the counters kept. -/
def startUp (pins : Pins) (image : Vector SWord 31) (counters : Counters) (free : Nat) (pending : List Instr) : State :=
  { phase := .loading
    rstLine := .idle
    totes := []
    lane := Vector.replicate 8 none
    arrival := []
    exposure := exposureReset
    tasks := []
    positions := #v[positionReset pins.ppos[0] pins.btn[0], positionReset pins.ppos[1] pins.btn[1],
      positionReset pins.ppos[2] pins.btn[2], positionReset pins.ppos[3] pins.btn[3],
      positionReset pins.ppos[4] pins.btn[4], positionReset pins.ppos[5] pins.btn[5]]
    windows := ⟨windowReset pins.pres.w0 pins.holdLow, windowReset pins.pres.w1 pins.holdLow⟩
    mode := .service
    holdLine := pins.holdLow
    counters := counters
    watches := Vector.replicate 4 watchReset
    settings := settingsReset image pins.service
    ports := ⟨portReset, portReset, portReset⟩
    orderQueue := ⟨[], false⟩
    benchQueue := ⟨[], false⟩
    directions := []
    free := free
    pending := pending }

/-- The part right after power-on (R145, R152), its image erased and its lines at rest (log entries 5 and 7). -/
def State.reset : State := startUp restPins erasedImage ⟨0, 0, 0, 0⟩ 0 []

end Sys2Proof.Machine
end

