-- ==== Sys2Proof/Machine/Operands.lean ====
section
/-! DEFINITION. The codes of the body fields of requests (R173), and lists and times used all over: a value outside
the codes reads as `none`, and the owner refuses it RANGE. -/

namespace Sys2Proof.Machine

/-- Class code: 0 AMBIENT, 1 CHILLED, 2 FROZEN (R173). -/
def classOf (b : Byte) : Option TempClass :=
  match b.toNat with
  | 0 => some .ambient
  | 1 => some .chilled
  | 2 => some .frozen
  | _ => none

/-- Mode code: 0 RUN, 1 DRAIN, 2 SERVICE (R173). -/
def modeOf (b : Byte) : Option Mode :=
  match b.toNat with
  | 0 => some .run
  | 1 => some .drain
  | 2 => some .service
  | _ => none

/-- Window code: 0 or 1 (R173). -/
def winOf (b : Byte) : Option Win :=
  match b.toNat with
  | 0 => some .w0
  | 1 => some .w1
  | _ => none

/-- Window set code: 1 W0, 2 W1, 3 both (R173). -/
def winSetOf (b : Byte) : Option WinSet :=
  match b.toNat with
  | 1 => some ⟨true, false⟩
  | 2 => some ⟨false, true⟩
  | 3 => some ⟨true, true⟩
  | _ => none

/-- A lane slot number, 0 to 7 (R6). -/
def slotOf (b : Byte) : Option Slot :=
  if h : b.toNat < 8 then some ⟨b.toNat, h⟩ else none

/-- A position number, 0 to 5 (R64). -/
def posOf (b : Byte) : Option Pos :=
  if h : b.toNat < 6 then some ⟨b.toNat, h⟩ else none

/-- A watch entry number, 0 to 3 (R147). -/
def entryOf (b : Byte) : Option (Fin 4) :=
  if h : b.toNat < 4 then some ⟨b.toNat, h⟩ else none

/-- A yes-or-no code of WATCH: 0 no, 1 yes (R173). -/
def yesNoOf (b : Byte) : Option Bool :=
  match b.toNat with
  | 0 => some false
  | 1 => some true
  | _ => none

/-- Subject code of WATCH: 0 TOTE, 1 SKU (R173). -/
def subjectOf (b : Byte) : Option Subject :=
  match b.toNat with
  | 0 => some .tote
  | 1 => some .sku
  | _ => none

/-- Combine code of WATCH: 0 BOTH, 1 EITHER (R173). -/
def combineOf (b : Byte) : Option Combine :=
  match b.toNat with
  | 0 => some .both
  | 1 => some .either
  | _ => none

/-- Cursor kind code: 0 TASKS, 1 TOTES (R173). -/
def cursorKindOf (b : Byte) : Option CursorKind :=
  match b.toNat with
  | 0 => some .tasks
  | 1 => some .totes
  | _ => none

/-- Is window `w` in the set? -/
def WinSet.has (ws : WinSet) : Win → Bool
  | .w0 => ws.w0
  | .w1 => ws.w1

/-- Both windows (R141, R142). -/
def bothWindows : WinSet := ⟨true, true⟩

/-- Lexicographic order on keys taken in turn (R105, R117): a later key decides only where every earlier one is equal. -/
def keyLt : List Nat → List Nat → Bool
  | [], _ => false
  | _ :: _, [] => false
  | a :: as, b :: bs => a < b || (a == b && keyLt as bs)

/-- The first member in the order of its key; of two with equal keys, the earlier in the list. -/
def firstBy {α : Type} (key : α → List Nat) : List α → Option α
  | [] => none
  | a :: as =>
    match firstBy key as with
    | none => some a
    | some b => if keyLt (key b) (key a) then some b else some a

/-- Insert a number into an ascending list. -/
def insertAsc (n : Nat) : List Nat → List Nat
  | [] => [n]
  | m :: ms => if n ≤ m then n :: m :: ms else m :: insertAsc n ms

/-- A list of numbers in ascending order. -/
def sortAsc : List Nat → List Nat
  | [] => []
  | n :: ns => insertAsc n (sortAsc ns)

/-- The lowest record number not in use (R172). -/
def lowestFree (used : List Nat) : Nat :=
  ((List.range (used.length + 1)).find? fun i => !used.contains i).getD 0

/-- Remaining whole seconds, rounded up (R11, R56, R75, R100, R130). DESIGN CHOICE, log entry 27: the return and block timers of
R100, where it does not say how a fraction is shown, are rounded up as well. -/
def wholeSeconds (ms : Ms) : Nat := (ms + 999) / 1000

/-- A timer one millisecond later. -/
def tickTimer : Option Ms → Option Ms := Option.map (· - 1)

/-- Has a timer run out? -/
def timerDue (t : Option Ms) : Bool := t == some 0

end Sys2Proof.Machine
end

