-- ==== Sys2Proof/Machine/Items.lean ====
section
/-! DEFINITION. The settings items, their words and ranges, the check word and the tests of a load
(R153, R154, R157, R161). -/

namespace Sys2Proof.Machine

/-- The units in which a setting is read (R155), in the order the table of R153 first lists them. DESIGN CHOICE, log entry
27: items whose 'Unit or meaning' names the same unit share one (item 4 with items 0 to 3, item 20 with the other
seconds, the three speed codes). -/
inductive SettingUnit where
  | sixteenthDegree | epPerSecond | eighths | times256Ep | sixteenthsOfLimit | periodCode | guardCode
  | seconds | tenSeconds | rushFlag | speedCode | lockFlag
  deriving DecidableEq, Repr

/-- A row of the table of R153: range, check modulus and unit. -/
structure Item where
  lo : Int
  hi : Int
  modulus : Nat
  unit : SettingUnit
  deriving DecidableEq, Repr

/-- Items 0 to 16, the cold-chain policy (R153). -/
def policyItems : List Item :=
  [⟨-640, 1360, 65536, .sixteenthDegree⟩, ⟨-640, 1360, 65536, .sixteenthDegree⟩, ⟨-640, 1360, 65536, .sixteenthDegree⟩,
   ⟨0, 32, 64, .sixteenthDegree⟩, ⟨-255, 255, 512, .sixteenthDegree⟩,
   ⟨0, 1023, 1024, .epPerSecond⟩, ⟨0, 1023, 1024, .epPerSecond⟩, ⟨0, 1023, 1024, .epPerSecond⟩, ⟨0, 1023, 1024, .epPerSecond⟩,
   ⟨0, 1023, 1024, .epPerSecond⟩, ⟨0, 1023, 1024, .epPerSecond⟩, ⟨0, 1023, 1024, .epPerSecond⟩, ⟨0, 1023, 1024, .epPerSecond⟩,
   ⟨0, 8, 16, .eighths⟩, ⟨1, 65535, 65536, .times256Ep⟩, ⟨1, 65535, 65536, .times256Ep⟩, ⟨1, 15, 16, .sixteenthsOfLimit⟩]

/-- Items 17 to 28 (R153). -/
def otherItems : List Item :=
  [⟨0, 7, 8, .periodCode⟩, ⟨0, 3, 4, .guardCode⟩, ⟨5, 120, 128, .seconds⟩, ⟨5, 120, 128, .seconds⟩,
   ⟨10, 600, 1024, .seconds⟩, ⟨6, 360, 512, .tenSeconds⟩, ⟨0, 255, 256, .seconds⟩, ⟨0, 1, 2, .rushFlag⟩,
   ⟨0, 3, 4, .speedCode⟩, ⟨0, 3, 4, .speedCode⟩, ⟨0, 3, 4, .speedCode⟩, ⟨0, 1, 2, .lockFlag⟩]

/-- The 29 rows of R153. -/
def items : List Item := policyItems ++ otherItems

/-- The row of item `n`. -/
def itemRow (n : Fin 29) : Item := items.getD n.val ⟨0, 0, 1, .lockFlag⟩

/-- The value a word of item `n` stands for (R153, R161): items 0 to 2 two's complement, item 4 sign and magnitude,
every other item the word itself. -/
def itemValue (n : Fin 29) (w : SWord) : Int :=
  if n.val ≤ 2 then w.toInt
  else if n.val = 4 then (if w.toNat / 256 % 2 = 1 then -((w.toNat % 256 : Nat) : Int) else ((w.toNat % 256 : Nat) : Int))
  else (w.toNat : Int)

/-- The word of a value of item `n` (R153). -/
def itemWord (n : Fin 29) (v : Int) : SWord :=
  if n.val = 4 then (if v < 0 then BitVec.ofNat 16 (v.natAbs + 256) else BitVec.ofInt 16 v)
  else BitVec.ofInt 16 v

/-- Is the word within its item's range (R161, test 3)? A word of item 4 above 511 fails. -/
def wordInRange (n : Fin 29) (w : SWord) : Bool :=
  if n.val = 4 then w.toNat ≤ 511
  else decide ((itemRow n).lo ≤ itemValue n w ∧ itemValue n w ≤ (itemRow n).hi)

/-- How SETITEM reads its 2-byte value (R154): signed for items 0, 1, 2 and 4, unsigned for the others. -/
def requestValue (n : Fin 29) (v : BitVec 16) : Int :=
  if n.val ≤ 2 ∨ n.val = 4 then v.toInt else (v.toNat : Int)

/-- A value clamped to the nearer bound of its item's range (R154). -/
def clampItem (n : Fin 29) (v : Int) : Int :=
  if v < (itemRow n).lo then (itemRow n).lo else if (itemRow n).hi < v then (itemRow n).hi else v

/-- All item numbers, ascending. -/
def allItems : List (Fin 29) :=
  [0, 1, 2, 3, 4, 5, 6, 7, 8, 9, 10, 11, 12, 13, 14] ++ [15, 16, 17, 18, 19, 20, 21, 22, 23, 24, 25, 26, 27, 28]

/-- BAND_A < BAND_B < BAND_C (R154, R161). -/
def bandsRise (ws : Vector SWord 29) : Bool :=
  decide (itemValue 0 ws[0] < itemValue 1 ws[1] ∧ itemValue 1 ws[1] < itemValue 2 ws[2])

/-- The check word of items 0 to 28 (R157): 65,535 less the sum of the masked values modulo 65,536. -/
def checkWord (ws : Vector SWord 29) : SWord :=
  BitVec.ofNat 16 (65535 - (allItems.map fun n => ws[n].toNat % (itemRow n).modulus).sum % 65536)

/-- Words 0 to 28 of an image (R157). -/
def imageItems (im : Vector SWord 31) : Vector SWord 29 := ⟨⟨im.toList.take 29⟩, by simp⟩

/-- An image from the words of the items, word 29 and word 30. -/
def imageOf (ws : Vector SWord 29) (check mark : SWord) : Vector SWord 31 := ⟨⟨ws.toList ++ [check, mark]⟩, by simp⟩

/-- The 31 words a store writes (R158): the snapshot, its check word and the complete mark. -/
def storeWords (ws : Vector SWord 29) : Vector SWord 31 := imageOf ws (checkWord ws) 1

/-- The tests of a load, in order (R161). -/
def loadTest (im : Vector SWord 31) : LoadCause :=
  if im[30] ≠ 1 then .noMark
  else if im[29] ≠ checkWord (imageItems im) then .badCheck
  else if allItems.all (fun n => wordInRange n (imageItems im)[n]) && bandsRise (imageItems im) then .loaded
  else .badValue

/-- Words 0 to 28 when the writing stopped at word `done` (R158, R160): written below it, erased above it. -/
def partWritten (words : Vector SWord 29) (done : Fin 29) (word : SWord) : Vector SWord 29 :=
  Vector.ofFn fun n => if n < done then words[n] else if n = done then word else 0xFFFF

/-- What the image holds after a store was cut short (R160), in the order in which it writes (R158). -/
def cutImage (job : StoreJob) : StoreCut → Vector SWord 31
  | .inWords done word => imageOf (partWritten (imageItems job.words) done word) 0xFFFF 0xFFFF
  | .afterWords checkWritten => imageOf (imageItems job.words) (if checkWritten then job.words[29] else 0xFFFF) 0xFFFF
  | .atMark took => imageOf (imageItems job.words) job.words[29] (if took then 1 else 0xFFFF)
  | .inReadBack => job.words

/-- The word of item `n` in the working copy (R153). -/
def State.item (s : State) (n : Fin 29) : SWord := s.settings.work[n]

/-- The value of item `n` in the working copy, as a number that is never negative (items other than 0, 1, 2 and 4). -/
def State.setting (s : State) (n : Fin 29) : Nat := (s.item n).toNat

/-- The signed value of item `n` in the working copy. -/
def State.signedSetting (s : State) (n : Fin 29) : Int := itemValue n (s.item n)

/-- FETCH_TIMEOUT in milliseconds (item 19, R81). -/
def State.fetchMs (s : State) : Ms := s.setting 19 * 1000

/-- RETURN_TIMEOUT in milliseconds (item 20, R13, R69, R94). -/
def State.returnMs (s : State) : Ms := s.setting 20 * 1000

/-- ORPHAN_HOLD in milliseconds (item 21, R11). -/
def State.orphanMs (s : State) : Ms := s.setting 21 * 1000

/-- AWAIT_DEADLINE × 10 s in milliseconds (item 22, R48). -/
def State.awaitMs (s : State) : Ms := s.setting 22 * 10000

/-- BLOCK_HOLD in milliseconds (item 23, R93). -/
def State.blockMs (s : State) : Ms := s.setting 23 * 1000

/-- The confirm period P in milliseconds: 4 s × 2^code (item 17, R120). -/
def State.periodMs (s : State) : Ms := 4000 * 2 ^ s.setting 17

/-- The guard G in milliseconds: P × code / 8 (item 18, R120). -/
def State.guardMs (s : State) : Ms := s.periodMs * s.setting 18 / 8

end Sys2Proof.Machine
end

