-- ==== Sys2Proof/Machine/Ops.lean ====
section
/-! DEFINITION. The named operations over the records, queues and ports: looking a record up, changing one, queueing a
notice or a direction, offering an event to the watch unit, replying, driving the lights, starting the transmitters. -/

namespace Sys2Proof.Machine

/-! ## Records -/

/-- The tote record that names `id` (R1). -/
def State.tote? (s : State) (id : ToteId) : Option Tote := s.totes.find? fun t => t.id == id

/-- Change the record of tote `id`. -/
def State.updTote (s : State) (id : ToteId) (f : Tote → Tote) : State :=
  { s with totes := s.totes.map fun t => if t.id = id then f t else t }

/-- Remove the record of tote `id`, with its timers (R1). -/
def State.dropTote (s : State) (id : ToteId) : State :=
  { s with totes := s.totes.filter fun t => t.id != id }

/-- Put a record into a table in ascending record number. -/
def insertByNo {α : Type} (no : α → Nat) (a : α) : List α → List α
  | [] => [a]
  | b :: bs => if no a < no b then a :: b :: bs else b :: insertByNo no a bs

/-- The live task record with this id (R39). -/
def State.task? (s : State) (id : TaskId) : Option Task := s.tasks.find? fun t => t.id == id

/-- Change the record of task `id`. -/
def State.updTask (s : State) (id : TaskId) (f : Task → Task) : State :=
  { s with tasks := s.tasks.map fun t => if t.id = id then f t else t }

/-- Free the record of task `id` (R54, step 5). -/
def State.dropTask (s : State) (id : TaskId) : State :=
  { s with tasks := s.tasks.filter fun t => t.id != id }

/-- The live tasks naming a tote. -/
def State.tasksOf (s : State) (tote : ToteId) : List Task := s.tasks.filter fun t => t.tote == tote

/-- Does a live task name the tote? -/
def State.named (s : State) (tote : ToteId) : Bool := s.tasks.any fun t => t.tote == tote

/-- The ids of a list of tasks in ascending order (R53). -/
def ascendingIds (ts : List Task) : List TaskId := (sortAsc (ts.map fun t => t.id.toNat)).map (BitVec.ofNat 16)

/-- Window `w`'s record. -/
def State.win (s : State) (w : Win) : Window := s.windows.get w

/-- Change window `w`'s record. -/
def State.updWin (s : State) (w : Win) (f : Window → Window) : State :=
  { s with windows := s.windows.set w (f (s.windows.get w)) }

/-- Position `p`'s record. -/
def State.pos (s : State) (p : Pos) : Position := s.positions[p]

/-- Change position `p`'s record. -/
def State.updPos (s : State) (p : Pos) (f : Position → Position) : State :=
  { s with positions := s.positions.set p (f s.positions[p]) }

/-- The position whose record names the order tote (R60): looked up each time it is needed. -/
def State.positionOf (s : State) (k : OrderToteId) : Option Pos :=
  allPos.find? fun p => (s.pos p).binding.any fun b => b.orderTote == k

/-- Link `l`'s port. -/
def State.port (s : State) (l : Link) : Port := s.ports.get l

/-- Change link `l`'s port. -/
def State.updPort (s : State) (l : Link) (f : Port → Port) : State :=
  { s with ports := s.ports.set l (f (s.ports.get l)) }

/-- Change the settings store. -/
def State.updSettings (s : State) (f : SettingsStore → SettingsStore) : State :=
  { s with settings := f s.settings }

/-- Empty or fill a lane slot (R4). -/
def State.setSlot (s : State) (slot : Slot) (t : Option ToteId) : State :=
  { s with lane := s.lane.set slot t }

/-- Remove a tote from the arrival order list; the gap closes (R5). -/
def State.leaveArrival (s : State) (id : ToteId) : State :=
  { s with arrival := s.arrival.filter fun a => a != id }

/-! ## Free choices -/

/-- Take two actions one after the other, in an order that the spec leaves open (log entry 3). -/
def State.eitherOrder (f g : State → State) (s : State) : State :=
  if Config.freeBit s.free then g (f { s with free := s.free + 1 }) else f (g { s with free := s.free + 1 })

/-- The two windows one after the other, in an order that the spec leaves open (R109). -/
def State.bothWays (f : Win → State → State) (s : State) : State := s.eitherOrder (f .w0) (f .w1)

/-! ## Notices and directions (R168, R169) -/

/-- A notice joins the end of its queue, or is discarded with LOST set when the queue is full (R168). -/
def NoticeQueue.push (q : NoticeQueue) (n : Notice) : NoticeQueue :=
  if q.entries.length < Config.noticePlaces then { q with entries := q.entries ++ [n] } else { q with lost := true }

/-- Queue a notice on the order link. -/
def State.noteOrder (s : State) (n : Notice) : State := { s with orderQueue := s.orderQueue.push n }

/-- Queue a notice on the bench link. -/
def State.noteBench (s : State) (n : Notice) : State := { s with benchQueue := s.benchQueue.push n }

/-- A notice to the order and bench links: one copy on each, each queue on its own terms (00 section 8). -/
def State.noteBoth (s : State) (n : Notice) : State := (s.noteOrder n).noteBench n

/-- Queue a notice on the link of a watch entry's owner (R149). -/
def State.noteOwner (s : State) (l : NoticeLink) (n : Notice) : State :=
  match l with
  | .order => s.noteOrder n
  | .bench => s.noteBench n

/-- A direction joins the direction queue, or is discarded when it is full (R169). -/
def State.direct (s : State) (d : Direction) : State :=
  if s.directions.length < Config.directionPlaces then { s with directions := s.directions ++ [d] } else s

/-! ## Watches (chapter 9) -/

/-- The event set member of an event: the subject it belongs to and its bit (R148, R173). -/
def EventKind.member : EventKind → Subject × Nat
  | .totePresented => (.tote, 0)
  | .toteReturned => (.tote, 1)
  | .toteUrgent => (.tote, 2)
  | .toteExpired => (.tote, 3)
  | .taskDone => (.sku, 0)
  | .taskShort => (.sku, 1)
  | .taskFailed => (.sku, 2)

/-- The bounds test of a watch entry (R146). -/
def WatchEntry.inBounds (e : WatchEntry) (x : BitVec 32) : Bool :=
  match e.combine with
  | .both => e.low.toNat ≤ x.toNat && x.toNat ≤ e.high.toNat
  | .either => e.low.toNat ≤ x.toNat || x.toNat ≤ e.high.toNat

/-- The window condition (R149): at a window, that window is in the set; at no window, the set is both. -/
def WatchEntry.hears (e : WatchEntry) : Option Win → Bool
  | some w => e.windows.has w
  | none => e.windows.w0 && e.windows.w1

/-- Does an entry match an offered event (R149)? -/
def WatchEntry.accepts (e : WatchEntry) (ev : WatchEvent) : Bool :=
  e.owner.isSome && e.subject == ev.kind.member.1 && e.events.getLsbD ev.kind.member.2 && e.inBounds ev.value &&
    e.hears ev.window

/-- Test one entry against an offered event and queue its WATCH notice (R149). -/
def State.offerTo (ev : WatchEvent) (n : Fin 4) (s : State) : State :=
  if s.watches[n].accepts ev then
    match s.watches[n].owner with
    | some l => s.noteOwner l (.watch n ev)
    | none => s
  else s

/-- Offer an event to the watch unit: the entries are tested in entry number order (R149). -/
def State.offer (s : State) (ev : WatchEvent) : State :=
  State.offerTo ev 3 (State.offerTo ev 2 (State.offerTo ev 1 (State.offerTo ev 0 s)))

/-! ## What a window or a position shows (R40, R62, R79) -/

/-- A window is held while its set of hold sources is not empty (R78). -/
def Holds.any (h : Holds) : Bool := h.order || h.transport || h.bench || h.line || h.fault

/-- Is window `w` held? -/
def State.held (s : State) (w : Win) : Bool := (s.win w).holds.any

/-- The top tote of window `w` (R78). -/
def State.top? (s : State) (w : Win) : Option ToteId := (s.win w).lift.head?

/-- The effective lift limit (R79). -/
def Window.liftLimit (w : Window) : Nat := if w.ret.isSome then 3 else 4

/-- The record of the top tote of window `w`. -/
def State.topTote? (s : State) (w : Win) : Option Tote := (s.top? w).bind s.tote?

/-- Is the top tote of window `w` FINISHED (R92)? -/
def State.topFinished (s : State) (w : Win) : Bool := (s.topTote? w).any fun t => t.finished

/-- The window a tote is at, for the watch unit (R34, R148): its target while FETCHING, its window ON_LIFT. -/
def ToteState.atWindow : ToteState → Option Win
  | .fetching w => some w
  | .onLift w => some w
  | _ => none

/-- The window at which a task event is taken (R54, step 4). -/
def State.taskWindow (s : State) (tote : ToteId) : Option Win := (s.tote? tote).bind fun t => t.state.atWindow

/-- The lift level of a tote on the lift of window `w` (R78): its place in the stack. -/
def State.levelIn (s : State) (w : Win) (id : ToteId) : Option Nat := (s.win w).lift.findIdx? fun t => t == id

/-- The lift level of a tote, when it stands on a lift. -/
def State.levelOf (s : State) (t : Tote) : Option Nat :=
  match t.state with
  | .onLift w => s.levelIn w t.id
  | _ => none

/-! ## Timers of the tables -/

/-- Each live task naming the tote goes WAITING with a fresh await timer (R46, R48). -/
def State.tasksToWaiting (s : State) (tote : ToteId) : State :=
  { s with tasks := s.tasks.map fun t =>
      if t.tote = tote then { t with state := .waiting, awaitTimer := some s.awaitMs } else t }

/-- Each live task naming the tote goes from READY to ACTIVE (R45). -/
def State.tasksToActive (s : State) (tote : ToteId) : State :=
  { s with tasks := s.tasks.map fun t =>
      if t.tote = tote ∧ t.state = .ready then { t with state := .active } else t }

/-- Each live task naming the tote goes from WAITING to READY, and its await timer stops (R45). -/
def State.tasksToReady (s : State) (tote : ToteId) : State :=
  { s with tasks := s.tasks.map fun t =>
      if t.tote = tote ∧ t.state = .waiting then { t with state := .ready, awaitTimer := none } else t }

/-- Start the orphan timer of an IN_LANE tote that no live task names (R11). -/
def State.startOrphan (s : State) (id : ToteId) : State :=
  match s.tote? id with
  | some t =>
    match t.state with
    | .inLane _ => if s.named id then s else s.updTote id fun t => { t with orphanTimer := some s.orphanMs }
    | _ => s
  | none => s

/-! ## Lights (R115) -/

/-- The task lit to a position: the lit task of the window that holds its lock (R62, R114). -/
def State.litTo (s : State) (p : Pos) : Option (Win × Task) :=
  match (s.pos p).lock with
  | some w => ((s.win w).lit.bind s.task?).map fun t => (w, t)
  | none => none

/-- The light mode of a position as it stands (R115). -/
def State.lightMode (s : State) (p : Pos) : LightMode :=
  match s.litTo p with
  | some (_, t) => if t.crush || t.overdue then .flash else .steady
  | none => if (s.pos p).state = .closing then .fast else .off

/-- Drive the light of one position; a new mode starts its pattern afresh (R115). DESIGN CHOICE, log entry 25: the mode
is taken once, at the end of the event, so that a light that leaves FLASH and comes back to it within one event runs on. -/
def State.driveLight (p : Pos) (s : State) : State :=
  if (s.pos p).light.mode = s.lightMode p then s
  else s.updPos p fun q => { q with light := ⟨s.lightMode p, 0⟩ }

/-- Drive the six lights as the records stand after an event (R115). -/
def State.driveLights (s : State) : State := allPos.foldl (fun s p => s.driveLight p) s

/-- The level of a LITE drive (R115): FLASH is 250 ms on and 250 ms off, FAST 100 ms on and 100 ms off. -/
def Light.on (l : Light) : Bool :=
  match l.mode with
  | .off => false
  | .steady => true
  | .flash => l.phase % 500 < 250
  | .fast => l.phase % 200 < 100

/-! ## Ports (R165 to R167) -/

/-- The code of a request kind (section 11.7). -/
def ReqKind.code : ReqKind → Byte
  | .post => 0x20 | .withdraw => 0x21 | .rush => 0x22 | .bind => 0x23 | .close => 0x24 | .mode => 0x25
  | .clear => 0x26 | .setItem => 0x27 | .store => 0x28 | .lock => 0x29
  | .toteIn => 0x30 | .toteOut => 0x31 | .atWin => 0x32 | .gone => 0x33 | .swapped => 0x34
  | .picked => 0x40 | .short => 0x41 | .toteBad => 0x42
  | .hold => 0x50 | .resume => 0x51 | .read => 0x52 | .list => 0x53 | .cursor => 0x54 | .watch => 0x55

/-- The body length of a request kind (section 11.7). -/
def ReqKind.bodyLength : ReqKind → Nat
  | .post => 17 | .withdraw => 2 | .rush => 4 | .bind => 7 | .close => 1 | .mode => 1
  | .clear => 0 | .setItem => 3 | .store => 0 | .lock => 0
  | .toteIn => 9 | .toteOut => 4 | .atWin => 5 | .gone => 4 | .swapped => 1
  | .picked => 3 | .short => 2 | .toteBad => 4
  | .hold => 1 | .resume => 1 | .read => 5 | .list => 0 | .cursor => 2 | .watch => 14

/-- The request kinds in ascending code. -/
def allReqKinds : List ReqKind :=
  [.post, .withdraw, .rush, .bind, .close, .mode, .clear, .setItem, .store, .lock] ++
  [.toteIn, .toteOut, .atWin, .gone, .swapped, .picked, .short, .toteBad] ++
  [.hold, .resume, .read, .list, .cursor, .watch]

/-- The request kind of a code (section 11.7). -/
def kindOf (b : Byte) : Option ReqKind := allReqKinds.find? fun k => k.code == b

/-- Check 2 of R165: the code is a request kind's and the body has that kind's length. -/
def goodFormat (kind : Byte) (length : Nat) : Bool := (kindOf kind).any fun k => k.bodyLength == length

/-- The links a request kind is allowed on (R170). WATCH passes every port: the watch unit refuses it on the transport link. -/
def ReqKind.allowed : ReqKind → Link → Bool
  | .post, l | .withdraw, l | .rush, l | .bind, l | .close, l | .mode, l | .clear, l | .setItem, l | .store, l
  | .lock, l => l == .order
  | .toteIn, l | .toteOut, l | .atWin, l | .gone, l | .swapped, l => l == .transport
  | .picked, l | .short, l | .toteBad, l => l == .bench
  | .hold, _ | .resume, _ | .read, _ | .list, _ | .cursor, _ | .watch, _ => true

/-- Check 1 of R165: is the reply slot full, or, on the order link, a STORE reply waiting for it? -/
def State.slotBusy (s : State) (l : Link) : Bool :=
  (s.port l).replySlot.isSome || (l == .order && s.settings.waitingReply.isSome)

/-- Place a reply in the slot of its link, unless the tag asks for none (R166). -/
def State.reply (s : State) (l : Link) (r : Reply) : State :=
  if r.tag = Config.noReply then s else s.updPort l fun p => { p with replySlot := some r }

/-- A STORE reply that waits enters the order link's slot once the slot is empty (R159, R166). -/
def State.fillSlot (s : State) : State :=
  match s.settings.waitingReply, (s.port .order).replySlot with
  | some r, none => (s.updPort .order fun p => { p with replySlot := some r }).updSettings fun st =>
      { st with waitingReply := none }
  | _, _ => s

/-- Take the head of a link's outbound queue (R168): a notice carries LOST, which clears. -/
def State.takeQueued (s : State) : Link → Option (OutFrame × State)
  | .order =>
    match s.orderQueue.entries with
    | n :: ns => some (.notice n s.orderQueue.lost, { s with orderQueue := ⟨ns, false⟩ })
    | [] => none
  | .bench =>
    match s.benchQueue.entries with
    | n :: ns => some (.notice n s.benchQueue.lost, { s with benchQueue := ⟨ns, false⟩ })
    | [] => none
  | .transport =>
    match s.directions with
    | d :: ds => some (.direction d, { s with directions := ds })
    | [] => none

/-- An idle transmitter takes the reply in the slot, or else the head of the outbound queue (R167). A STORE reply that
waits enters the slot as soon as it is empty, before the take and after it (R159). -/
def State.pump (s : State) (l : Link) : State :=
  let s := s.fillSlot
  match (s.port l).transmitter with
  | some _ => s
  | none =>
    match (s.port l).replySlot with
    | some r => (s.updPort l fun p => { p with transmitter := some (.reply r), replySlot := none }).fillSlot
    | none =>
      match s.takeQueued l with
      | some (f, t) => t.updPort l fun p => { p with transmitter := some f }
      | none => s

/-- Every transmitter that is idle takes its next frame, at the end of an event (log entry 4). -/
def State.pumpAll (s : State) : State := ((s.pump .order).pump .transport).pump .bench

/-- The end of an event: the lights take their modes and idle transmitters take their next frame. -/
def State.conclude (s : State) : State := s.driveLights.pumpAll

/-- What an owning block answers to a request (R165). -/
inductive Answer where
  /-- Refused with a reason: no state changes. -/
  | refused (r : Reason)
  /-- Taken, with a reason and a result, where nothing but this link's port has a frame to send. -/
  | portOnly (s : State) (r : Reason) (result : List Byte)
  /-- Taken, with OK or CLAMPED. -/
  | taken (s : State) (r : Reason)
  /-- Taken, to be answered later (R158). -/
  | deferred (s : State)

/-- The reply to request `r` of kind `k` (R166). -/
def mkReply (r : Req) (k : Byte) (taken : Bool) (reason : Reason) (result : List Byte) : Reply :=
  { taken := taken, tag := r.tag, kind := k, reason := reason, result := result }

/-- Answer REFUSED: the reply alone (R166). -/
def State.refuse (s : State) (r : Req) (k : Byte) (reason : Reason) : State :=
  (s.reply r.link (mkReply r k false reason [])).pump r.link

/-- The frame of a link is complete: its receiver returns to HUNTING (R164). -/
def State.heard (s : State) (l : Link) : State := s.updPort l fun p => { p with receiver := .hunting }

/-- Answer TAKEN with a reason, at the end of the request's event (R166). -/
def State.answer (s : State) (r : Req) (k : ReqKind) (c : Reason) : State :=
  (s.reply r.link (mkReply r k.code true c [])).conclude

/-- Answer TAKEN with a result, where no other port has a frame to send (R166). -/
def State.answerPort (s : State) (r : Req) (k : ReqKind) (c : Reason) (result : List Byte) : State :=
  (s.reply r.link (mkReply r k.code true c result)).pump r.link

/-- A complete frame with a good CRC at a link port (R164, R165): the receiver returns to HUNTING; with the slot busy
the frame is discarded; a kind not allowed on the link is refused AUTHORITY; otherwise the owner answers. Frames are
taken only while the part runs (R144, R145). -/
def State.serve (k : ReqKind) (r : Req) (owner : State → Answer) (s : State) : State :=
  if s.phase ≠ .running then s
  else if s.slotBusy r.link then s.heard r.link
  else if !k.allowed r.link then (s.heard r.link).refuse r k.code .authority
  else
    match owner (s.heard r.link) with
    | .refused c => (s.heard r.link).refuse r k.code c
    | .portOnly t c result => t.answerPort r k c result
    | .taken t c => t.answer r k c
    | .deferred t => t

end Sys2Proof.Machine
end

