-- ==== Sys2Proof/Machine/Flags.lean ====
section
/-! DEFINITION. The thresholds of a tote, its headroom and weight, the sensor and the band
(R22 to R29, R35): what the cold-chain flags are computed from. -/

namespace Sys2Proof.Machine

/-- The limit of a class, in EP (R29): none for AMBIENT. -/
def State.limit (s : State) : TempClass → Option Nat
  | .ambient => none
  | .chilled => some (s.setting 14 * 256)
  | .frozen => some (s.setting 15 * 256)

/-- The warn threshold under a limit (R29). -/
def State.warnOf (s : State) (limit : Nat) : Nat := limit * s.setting 16 / 16

/-- The headroom of a tote, with the limit in force (R35). -/
def State.headroom (s : State) (t : Tote) : Nat :=
  match s.limit t.cls with
  | none => Config.accountMax
  | some limit => limit - t.account

/-- The weight of a record at the accrual pass, in eighths (R27): none for AMBIENT and LEAVING totes. -/
def State.weight (s : State) (t : Tote) : Option Nat :=
  match t.cls with
  | .ambient => none
  | _ =>
    match t.state with
    | .inLane _ => some (s.setting 13)
    | .fetching _ => some 8
    | .onLift _ => some 8
    | .leavingLane _ => none
    | .leavingWin _ => none

/-- The settings item of the rate in band `b` (R28, R153). -/
def rateItem (c : TempClass) (b : Fin 4) : Fin 29 :=
  match c with
  | .frozen => ⟨9 + b.val, by omega⟩
  | _ => ⟨5 + b.val, by omega⟩

/-- The rate of a class in the current band (R28). -/
def State.rate (s : State) (c : TempClass) : Nat := s.setting (rateItem c s.exposure.band)

/-- A record charged with rate `r` and weight `w` for one second (R28). -/
def Tote.charge (t : Tote) (r w : Nat) : Tote :=
  { t with account := min (t.account + (r * w + t.carry) / 8) Config.accountMax, carry := (r * w + t.carry) % 8 }

/-- The outcome of a sensor read judged on the raw reading (R22): in range, out of range, or none. -/
inductive ReadOutcome where
  | inRange (raw : Int)
  | outOfRange (raw : Int)
  | noReading
  deriving DecidableEq, Repr

/-- Sort the outcome of a read (R21, R22). -/
def readOutcome : Option (BitVec 16) → ReadOutcome
  | none => .noReading
  | some w => if -640 ≤ w.toInt ∧ w.toInt ≤ 1360 then .inRange w.toInt else .outOfRange w.toInt

/-- A valid raw reading with the trim applied and clamped (R23). -/
def State.correct (s : State) (raw : Int) : Int :=
  if 1360 < raw + s.signedSetting 4 then 1360
  else if raw + s.signedSetting 4 < -640 then -640 else raw + s.signedSetting 4

/-- The threshold into the band above `b` (R24): BAND_A, BAND_B, BAND_C. -/
def State.threshold (s : State) (b : Nat) : Int :=
  match b with
  | 0 => s.signedSetting 0
  | 1 => s.signedSetting 1
  | _ => s.signedSetting 2

/-- Rising: while `b` is below 3 and `t` is at or above T(b), `b` rises by 1 (R24). -/
def State.riseBand (s : State) (t : Int) : Nat → Nat → Nat
  | 0, b => b
  | n + 1, b => if b < 3 ∧ s.threshold b ≤ t then s.riseBand t n (b + 1) else b

/-- Falling: while `b` is above 0 and `t` is below T(b−1) − H, `b` falls by 1 (R24). -/
def State.fallBand (s : State) (t : Int) : Nat → Nat
  | 0 => 0
  | b + 1 => if t < s.threshold b - (s.setting 3 : Int) then s.fallBand t b else b + 1

/-- The band re-evaluated for the corrected temperature `t` (R24): it falls only where it did not rise. -/
def State.nextBand (s : State) (t : Int) (b : Nat) : Nat :=
  if b < s.riseBand t 3 b then s.riseBand t 3 b else s.fallBand t b

/-- A number cut to a band. -/
def bandOf (n : Nat) : Fin 4 := ⟨n % 4, Nat.mod_lt _ (by decide)⟩

/-- The accrual event's first part (R22 to R25): the sensor state, its notices, the corrected temperature and the band. -/
def State.settleSensor (s : State) (reading : Option (BitVec 16)) : State :=
  match readOutcome reading with
  | .inRange raw =>
    let t := s.correct raw
    let b := bandOf (s.nextBand t s.exposure.band.val)
    let u := { s with exposure := { s.exposure with
      sensor := .valid, lastRaw := some raw, corrected := some t, band := b } }
    match s.exposure.sensor with
    | .fault .noAnswer => u.noteBoth (.sensorRestored t b)
    | .fault .outOfRange => u.noteBoth (.sensorRestored t b)
    | _ => u
  | .outOfRange raw =>
    let u := { s with exposure := { s.exposure with
      sensor := .fault .outOfRange, lastRaw := some raw, corrected := none, band := 3 } }
    if s.exposure.sensor = .valid then u.noteBoth (.sensorFault .outOfRange (some raw)) else u
  | .noReading =>
    let u := { s with exposure := { s.exposure with
      sensor := .fault .noAnswer, lastRaw := none, corrected := none, band := 3 } }
    if s.exposure.sensor = .valid then u.noteBoth (.sensorFault .noAnswer none) else u

/-- What a cold-chain notice carries of a tote (R34). -/
def State.exposureInfo (s : State) (t : Tote) (limit : Nat) : ExposureInfo :=
  { tote := t.id, cls := t.cls, account := t.account, warn := s.warnOf limit, limit := limit, state := t.state,
    level := s.levelOf t }

/-- A tote event for the watch unit (R148, R149). -/
def toteEvent (k : EventKind) (t : Tote) (w : Option Win) : WatchEvent :=
  { kind := k, value := t.id, window := w, tote := t.id, detail := .tote t.cls t.account }

end Sys2Proof.Machine
end

