-- ==== Sys2Proof/Machine/Lift.lean ====
section
/-! DEFINITION. Leaving a lift and leaving the lane: FINISHED, the window SENDBACK with its re-presentation
(R92, R94, R95) and the lane send-back (R13). -/

namespace Sys2Proof.Machine

/-- Mark the top tote of window `w` FINISHED (R92). -/
def State.markFinished (s : State) (w : Win) : State :=
  match s.top? w with
  | some id => s.updTote id fun t => { t with finished := true }
  | none => s

/-- The FINISHED test of a top tote (R92): no live task names it, or EXPIRED is set. The other two rows of R92, TOTEBAD
and the expiry of the block timer, mark the top in their own events. -/
def State.finishTest (s : State) (w : Win) : State :=
  match s.topTote? w with
  | some t => if t.expired || !s.named t.id then s.markFinished w else s
  | none => s

/-- May window `w` send its top back now (R94)? The top is FINISHED, the window not held, no return in flight. -/
def State.sendBackDue (s : State) (w : Win) : Bool :=
  s.topFinished w && !s.held w && (s.win w).ret.isNone

/-- The fetch in flight of a window whose lift a pop has left with `rest` (R94, step 2): PREEMPTING becomes PLAIN on an
empty lift. -/
def fetchAfterPop (f : Option Fetch) (rest : List ToteId) : Option Fetch :=
  f.map fun f => if rest.isEmpty then { f with kind := .plain } else f

/-- The window SENDBACK of the top tote (R94), with the re-presentation of the tote below it (R95). -/
def State.sendBack (w : Win) (s : State) : State :=
  match (s.win w).lift with
  | [] => s
  | id :: rest =>
    let s := s.direct (.sendBack id (.window w))
    let s := s.updWin w fun x => { x with
      lift := rest, fetch := fetchAfterPop x.fetch rest, blockTimer := none,
      confirms := if rest.isEmpty then x.confirms else 0 }
    let s := s.updTote id fun t => { t with state := .leavingWin w, finished := false }
    let s := s.tasksToWaiting id
    let s := s.updWin w fun x => { x with ret := some ⟨id, s.returnMs⟩ }
    s.finishTest w

/-- Send the top back if that is due (R94). -/
def State.sendIfDue (w : Win) (s : State) : State := if s.sendBackDue w then s.sendBack w else s

/-- Send back at both windows; when both are due the order is open (R169). -/
def State.sendBoth (s : State) : State :=
  if s.sendBackDue .w0 && s.sendBackDue .w1 then s.bothWays State.sendIfDue
  else (s.sendIfDue .w0).sendIfDue .w1

/-- The FINISHED tests at both windows, then the send-backs that are due. -/
def State.finishBoth (s : State) : State := ((s.finishTest .w0).finishTest .w1).sendBoth

/-- The FINISHED test and the send-back at one window. -/
def State.finishAndSend (w : Win) (s : State) : State := (s.finishTest w).sendIfDue w

/-- After the end of a task (R54, step 6): if no live task names its tote and it is a top tote, the window controller
marks it FINISHED and sends it back when it may. -/
def State.finishIfTop (tote : ToteId) (s : State) : State :=
  if s.named tote then s
  else if s.top? .w0 = some tote then s.finishAndSend .w0
  else if s.top? .w1 = some tote then s.finishAndSend .w1
  else s

/-- A lane send-back (R13): SENDBACK queued, LEAVING with the slot kept, the arrival entry gone, the orphan timer
stopped, the lane return timer started. -/
def State.laneSendBack (id : ToteId) (s : State) : State :=
  match s.tote? id with
  | some t =>
    match t.state with
    | .inLane slot =>
      let s := s.direct (.sendBack id (.lane slot))
      let s := s.updTote id fun t => { t with
        state := .leavingLane slot, orphanTimer := none, laneReturnTimer := some s.returnMs }
      s.leaveArrival id
    | _ => s
  | none => s

end Sys2Proof.Machine
end

