-- ==== Sys2Proof/Machine/TaskEnds.lean ====
section
/-! DEFINITION. Ending a task (R54), unlighting one (R126), the swap-out of a closing position (R68, R69). -/

namespace Sys2Proof.Machine

/-- The window at which a task is lit (R114). -/
def State.litAt (s : State) (id : TaskId) : Option Win :=
  if (s.win .w0).lit = some id then some .w0
  else if (s.win .w1).lit = some id then some .w1
  else none

/-- Unlighting, steps 1 to 3 (R126): the task leaves LIT, the two timers stop, the window's lit task becomes absent and,
at an end, the last ended task. -/
def State.unlightFirst (w : Win) (ending : Bool) (s : State) : State :=
  match (s.win w).lit with
  | some id =>
    (s.updTask id fun t => { t with state := .active }).updWin w fun x => { x with
      lit := none, confirmTimer := none, guardTimer := none,
      lastEnded := if ending then some id else x.lastEnded }
  | none => s

/-- Give the lock of a position back (R62, R126 step 4). -/
def State.releaseLock (p : Option Pos) (s : State) : State :=
  match p with
  | some p => s.updPos p fun q => { q with lock := none }
  | none => s

/-- Unlighting, steps 4 and 5 (R126): the lock is released and TASK_UNLIT queued on the bench link. -/
def State.unlightLast (w : Win) (p : Option Pos) (t : Task) (cause : UnlitCause) (s : State) : State :=
  (s.releaseLock p).noteBench (.taskUnlit t.id w p t.confirmed cause)

/-- The kind of a task event (R54, step 4): CANCELLED offers none. -/
def TaskOutcome.event : TaskOutcome → Option EventKind
  | .done => some .taskDone
  | .short => some .taskShort
  | .failed _ => some .taskFailed
  | .cancelled => none

/-- The failure reason of an outcome (R55). -/
def TaskOutcome.reason : TaskOutcome → Option FailReason
  | .failed r => some r
  | _ => none

/-- Offer the task event of an outcome to the watch unit (R54, step 4; R148). -/
def State.offerTaskEnd (o : TaskOutcome) (t : Task) (s : State) : State :=
  match o.event with
  | some k => s.offer { kind := k, value := t.sku.setWidth 32, window := s.taskWindow t.tote, tote := t.tote,
                        detail := .task t.id o.reason }
  | none => s

/-- Is a position CLOSING with its lock free, so that it goes SWAPPING (R68)? -/
def State.swapReady (s : State) (p : Option Pos) : Bool :=
  p.any fun p => (s.pos p).state == .closing && (s.pos p).lock.isNone

/-- Will the end of a tote's last task send it back at once (R54 step 6, R94)? -/
def State.willSend (s : State) (tote : ToteId) : Bool :=
  !s.named tote &&
    ((s.top? .w0 == some tote && !s.held .w0 && (s.win .w0).ret.isNone) ||
     (s.top? .w1 == some tote && !s.held .w1 && (s.win .w1).ret.isNone))

/-- Is the order of a swap-out and a send-back at this end open (12.1, time 30)? At an expiry and at TOTEBAD the rules
put the failures of the tasks, and what they bring, before the send-back (R31, R127). -/
def TaskOutcome.orderOpen : TaskOutcome → Bool
  | .failed _ => false
  | _ => true

/-- The task as its terminal notice reports it (R55): its state before the end. -/
def Task.beforeEnd (t : Task) (wasLit : Option Win) : Task :=
  { t with state := if wasLit.isSome then .lit else t.state, awaitTimer := none }

/-- Steps 1 to 5 of R54: the lit task is unlit, the terminal notice queued, the task event offered, the record freed. -/
def State.endRecord (o : TaskOutcome) (wasLit : Option Win) (t : Task) (s : State) : State :=
  let u := match wasLit with
    | some w => s.unlightFirst w true
    | none => s
  ((u.noteOrder (.taskEnded o (t.beforeEnd wasLit) (s.positionOf t.orderTote))).offerTaskEnd o t).dropTask t.id

/-- The position table acts on a released lock (R126, step 6): a CLOSING position goes on by `swap`. -/
def State.swapIfReady (swap : Pos → State → State) (p : Option Pos) (s : State) : State :=
  match p with
  | some q => if s.swapReady p then swap q s else s
  | none => s

/-- The tote table and the window controller act on the end of a tote's task (R54, step 6): the orphan timer, FINISHED. -/
def State.releaseTote (tote : ToteId) (s : State) : State := (s.startOrphan tote).finishIfTop tote

/-- Step 6 of R54 after a lit task: the swap-out and the send-back, in an open order where both follow. -/
def State.afterUnlit (swap : Pos → State → State) (o : TaskOutcome) (p : Option Pos) (tote : ToteId) (s : State) : State :=
  if o.orderOpen && s.swapReady p && s.willSend tote then
    s.eitherOrder (State.swapIfReady swap p) (State.releaseTote tote)
  else (s.swapIfReady swap p).releaseTote tote

/-- End a task (R54) with outcome `o`; `wasLit` is the window it was lit at, `cause` its TASK_UNLIT cause, and `swap`
what a CLOSING position does when its lock is freed by the end. -/
def State.endWith (swap : Pos → State → State) (o : TaskOutcome) (cause : UnlitCause) (wasLit : Option Win)
    (id : TaskId) (s : State) : State :=
  match s.task? id with
  | none => s
  | some t =>
    match wasLit with
    | none => (s.endRecord o none t).releaseTote t.tote
    | some w => ((s.endRecord o (some w) t).unlightLast w (s.positionOf t.orderTote) t cause).afterUnlit swap o
        (s.positionOf t.orderTote) t.tote

/-- End a list of tasks one after the other, each in full before the next (R53). -/
def State.endAll (endOne : TaskId → State → State) (ids : List TaskId) (s : State) : State :=
  ids.foldl (fun s id => endOne id s) s

/-- End one task in a swap-out (R52): no task to the position is lit, so nothing further swaps. -/
def State.endInSwap (id : TaskId) (s : State) : State :=
  s.endWith (fun _ s => s) (.failed .orderToteLeft) (.ended (.failed .orderToteLeft)) (s.litAt id) id

/-- A position goes SWAPPING (R69): SWAPOUT queued, the swap timer started, every live task naming its order tote ended
FAILED(ORDER_TOTE_LEFT) in ascending task id (R52). -/
def State.swapOut (p : Pos) (s : State) : State :=
  match (s.pos p).binding with
  | some b =>
    let s := s.direct (.swapOut p b.orderTote)
    let s := s.updPos p fun q => { q with state := .swapping, swapTimer := some s.returnMs }
    s.endAll State.endInSwap (ascendingIds (s.tasks.filter fun t => t.orderTote == b.orderTote))
  | none => s

/-- End a task with an outcome decided by R41, lit or not (R54). -/
def State.endTask (o : TaskOutcome) (id : TaskId) (s : State) : State :=
  s.endWith State.swapOut o (.ended o) (s.litAt id) id

/-- Unlight the lit task of a window without ending it, steps 1 to 5 of R126. Step 6, the swap-out of a CLOSING position
whose lock this frees (R68) and the choices, is made at the end of the event (`State.settle`), with the hold, fault or
fetch that caused the unlighting in place: DEDUCED from R126 and R90, log entry 22. -/
def State.unlight (w : Win) (cause : UnlitCause) (s : State) : State :=
  match (s.win w).lit.bind s.task? with
  | some t => (s.unlightFirst w false).unlightLast w (s.positionOf t.orderTote) t cause
  | none => s

/-- A position goes CLOSING (R68): on to SWAPPING at once when its lock is free. -/
def State.enterClosing (p : Pos) (s : State) : State :=
  let s := s.updPos p fun q => { q with state := .closing, beforePull := none }
  if s.swapReady (some p) then s.swapOut p else s

/-- A position goes EMPTY (R71, R72, R114). -/
def State.emptyPosition (p : Pos) (s : State) : State :=
  s.updPos p fun q => { q with
    state := .empty, binding := none, fill := 0, floor := 0, lock := none, beforePull := none, swapTimer := none,
    lastHolder := none }

end Sys2Proof.Machine
end

