-- ==== Sys2Proof/Machine/Put.lean ====
section
/-! DEFINITION. The put controller's choice (R116, R117, R119), lighting (R118, R120) and the confirm (R122). -/

namespace Sys2Proof.Machine

/-- The position a task on the top of window `w` can be lit to, when it is litable (R40): ACTIVE, its tote the top of a
window not held, its position BOUND and not locked by the other window. -/
def State.litablePos (s : State) (w : Win) (t : Task) : Option Pos :=
  if t.state = .active ∧ s.top? w = some t.tote ∧ s.held w = false then
    match s.positionOf t.orderTote with
    | some p => if (s.pos p).state = .bound ∧ (s.pos p).lock ≠ some w.other then some p else none
    | none => none
  else none

/-- The litable tasks on the top of window `w`, each with its position. -/
def State.litable (s : State) (w : Win) : List (Task × Pos) :=
  s.tasks.filterMap fun t => (s.litablePos w t).map fun p => (t, p)

/-- Does window `w` choose (R116)? PRESENTING, not held, its top not FINISHED, no lit task. -/
def State.chooses (s : State) (w : Win) : Bool :=
  !(s.win w).lift.isEmpty && (s.win w).fetch.isNone && !s.held w && !s.topFinished w && (s.win w).lit.isNone

/-- Is a task conflicting at a position (R117): its crush class below the position's floor? -/
def State.conflicts (s : State) (t : Task) (p : Pos) : Bool := t.crushClass < (s.pos p).floor

/-- The four keys of R117: conflict-free first, lower crush class, lower position, lower task id. -/
def State.choiceKey (s : State) (c : Task × Pos) : List Nat :=
  [if s.conflicts c.1 c.2 then 1 else 0, c.1.crushClass, c.2.val, c.1.id.toNat]

/-- The task window `w` would light, with its position. -/
def State.choice (s : State) (w : Win) : Option (Task × Pos) :=
  if s.chooses w then firstBy s.choiceKey (s.litable w) else none

/-- The guard timer at a lighting: not started with G = 0 (R118). -/
def guardStart (g : Ms) : Option Ms := if g = 0 then none else some g

/-- Light a task at a window (R118). -/
def State.light (w : Win) (c : Task × Pos) (s : State) : State :=
  let conflict := s.conflicts c.1 c.2
  let s := s.updTask c.1.id fun t => { t with state := .lit, crush := t.crush || conflict }
  let s := s.updPos c.2 fun q => { q with lock := some w, lastHolder := some w }
  let s := s.updWin w fun x => { x with
    lit := some c.1.id, confirmTimer := some s.periodMs, guardTimer := guardStart s.guardMs }
  s.noteBench (.taskLit { c.1 with state := .lit, crush := c.1.crush || conflict } w c.2
    (if c.1.crush || conflict || c.1.overdue then .flash else .steady) s.periodMs s.guardMs)

/-- Window `w` makes its choice (R116). -/
def State.chooseAt (w : Win) (s : State) : State :=
  match s.choice w with
  | some c => s.light w c
  | none => s

/-- The lowest-numbered contested position (R119): each window has a litable task to it. -/
def State.contested (s : State) : Option Pos :=
  allPos.find? fun p => (s.litable .w0).any (fun c => c.2 == p) && (s.litable .w1).any (fun c => c.2 == p)

/-- The window an arbiter lets choose first (R119): the one that is not the last holder, or W0. -/
def firstChooser : Option Win → Win
  | some w => w.other
  | none => .w0

/-- The choices at both windows (R119). With a contested position its arbiter decides the order; without one the order
of two choices is open (log entry 3). -/
def State.chooseBoth (s : State) : State :=
  if (s.choice .w0).isSome && (s.choice .w1).isSome then
    match s.contested with
    | some p => (s.chooseAt (firstChooser (s.pos p).lastHolder)).chooseAt (firstChooser (s.pos p).lastHolder).other
    | none => s.bothWays State.chooseAt
  else (s.chooseAt .w0).chooseAt .w1

/-- A counter raised by `k`, modulo 2^32 (R151). -/
def raise (c : BitVec 32) (k : Nat) : BitVec 32 := c + BitVec.ofNat 32 k

/-- The units a confirm takes (R122, step 1): the count or the units remaining, whichever is smaller. -/
def unitsTaken (t : Task) (count : Nat) : Nat := min count (t.quantity - t.confirmed)

/-- Bring the position of a confirmed task up to date (R66), closing it when a BOUND one is full (R67). -/
def State.putUnits (p : Pos) (units volume crushClass : Nat) (s : State) : State :=
  let s := s.updPos p fun q => { q with
    fill := min (q.fill + volume * units) 255, floor := max q.floor crushClass }
  if (s.pos p).state = .bound ∧ ((s.pos p).binding.any fun b => b.capacity ≤ (s.pos p).fill) then s.enterClosing p
  else s

/-- A confirm of `count` units taken against the task lit at window `w` (R122). -/
def State.confirm (w : Win) (t : Task) (count : Nat) (s : State) : State :=
  let units := unitsTaken t count
  let s := s.updTask t.id fun x => { x with
    confirmed := x.confirmed + units, overcount := x.overcount || decide (t.quantity - t.confirmed < count) }
  let s := match s.positionOf t.orderTote with
    | some p => s.putUnits p units t.unitVolume t.crushClass
    | none => s
  let s := s.updWin w fun x => { x with confirms := min (x.confirms + 1) 255 }
  let s := { s with counters := { s.counters with units := raise s.counters.units units } }
  if t.confirmed + units = t.quantity then s.endTask .done t.id else s

end Sys2Proof.Machine
end

