-- ==== Sys2Proof/Machine/Select.lean ====
section
/-! DEFINITION. The call selector (R103 to R107) and the issue of a fetch (R81, R82, R111). -/

namespace Sys2Proof.Machine

/-- The position of a qualifying task (R103): READY, its order tote bound to a BOUND position. -/
def State.qualifyingPos (s : State) (t : Task) : Option Pos :=
  if t.state = .ready then
    match s.positionOf t.orderTote with
    | some p => if (s.pos p).state = .bound then some p else none
    | none => none
  else none

/-- The qualifying tasks naming a tote, each with its position (R103). -/
def State.qualifying (s : State) (tote : ToteId) : List (Task × Pos) :=
  (s.tasksOf tote).filterMap fun t => (s.qualifyingPos t).map fun p => (t, p)

/-- Is a tote a candidate (R103)? IN_LANE, not EXPIRED, with a qualifying task. -/
def State.candidate (s : State) (t : Tote) : Bool :=
  match t.state with
  | .inLane _ => !t.expired && !(s.qualifying t.id).isEmpty
  | _ => false

/-- The candidates, nearest the front of the arrival order list first (R5, R105 key 4). -/
def State.candidates (s : State) : List Tote := (s.arrival.filterMap s.tote?).filter s.candidate

/-- Is a candidate conflicting (R104): a qualifying task below its position's floor? -/
def State.conflicting (s : State) (tote : ToteId) : Bool :=
  (s.qualifying tote).any fun c => s.conflicts c.1 c.2

/-- Keys 1 to 3 of R105; of equals, the earlier in the arrival order list is first (key 4). -/
def State.rankKey (s : State) (t : Tote) : List Nat :=
  [if t.urgent then 0 else 1, if t.urgent then s.headroom t else 0, if t.rush then 0 else 1,
   if s.conflicting t.id then 1 else 0]

/-- A preemption candidate (R107): URGENT, or RUSH while RUSH_ENABLE is 1. -/
def State.preempts (s : State) (t : Tote) : Bool := t.urgent || (t.rush && s.setting 24 == 1)

/-- Everything a plain fetch opportunity asks of the window and the mode (R106). -/
def State.plainOpen (s : State) (w : Win) : Bool :=
  (s.win w).lift.isEmpty && (s.win w).fetch.isNone && !s.held w && s.mode == .run

/-- Everything a preempting fetch opportunity asks of the window and the mode (R107). -/
def State.preemptOpen (s : State) (w : Win) : Bool :=
  !(s.win w).lift.isEmpty && (s.win w).fetch.isNone && !s.held w && s.mode == .run && !s.topFinished w &&
    decide (1 ≤ (s.win w).confirms) && decide ((s.win w).lift.length + 1 ≤ (s.win w).liftLimit)

/-- The tote window `w` fetches at its opportunity, plain or preempting (R106, R107). -/
def State.fetchChoice (s : State) (w : Win) : Option Tote :=
  if s.plainOpen w then firstBy s.rankKey s.candidates
  else if s.preemptOpen w then firstBy s.rankKey (s.candidates.filter s.preempts)
  else none

/-- Issue the fetch of a lane tote to a window (R81, R16, R111); a PREEMPTING one stands the top down (R82). -/
def State.issueFetch (w : Win) (t : Tote) (s : State) : State :=
  match t.state with
  | .inLane slot =>
    let s := s.direct (.fetch t.id slot w)
    let s := (s.setSlot slot none).leaveArrival t.id
    let s := s.updTote t.id fun x => { x with state := .fetching w, rush := false, orphanTimer := none }
    let kind : FetchKind := if (s.win w).lift.isEmpty then .plain else .preempting
    let s := s.updWin w fun x => { x with
      fetch := some { tote := t.id, kind := kind, fetchTimer := some s.fetchMs, atwinSeen := false, presRisen := false,
                      settleTimer := none },
      blockTimer := none }
    s.unlight w .preempt
  | _ => s

/-- Window `w` takes its opportunity, if it has one (R108). -/
def State.takeFetch (w : Win) (s : State) : State :=
  match s.fetchChoice w with
  | some t => s.issueFetch w t
  | none => s

end Sys2Proof.Machine
end

