-- ==== Sys2Proof/Machine/Settle.lean ====
section
/-! DEFINITION. What the window controllers, the put controller and the position table do at the end of an event, after
its other effects at the tables: swap-outs at released locks (R68), FINISHED tests and send-backs (R92, R94), choices (R116),
block timers (R93), fetch opportunities (R108). -/

namespace Sys2Proof.Machine

/-- Is position `p` CLOSING with its lock free, so that it goes SWAPPING (R68)? -/
def State.swapOwed (s : State) (p : Pos) : Bool := s.swapReady (some p) && (s.pos p).binding.isSome

/-- Position `p` goes SWAPPING if it is CLOSING with its lock free (R68). -/
def State.swapAt (s : State) (p : Pos) : State := if s.swapOwed p then s.swapOut p else s

/-- Every CLOSING position with its lock free goes SWAPPING (R68), in ascending number. -/
def State.swapAll (s : State) : State := allPos.foldl State.swapAt s

/-- The conditions under which the block timer of a window runs (R93). A task lit to a CLOSING position counts with the
others, as its position is not BOUND. -/
def State.blocked (s : State) (w : Win) : Bool :=
  (s.win w).fetch.isNone && !s.held w && !s.topFinished w &&
    match s.top? w with
    | some id => s.named id && (s.tasksOf id).all fun t =>
        match s.positionOf t.orderTote with
        | some p => (s.pos p).state != .bound
        | none => true
    | none => false

/-- Set the block timer of a window (R93): started with the conditions, stopped without them, running on while they
last. With BLOCK_HOLD 0 it expires at once and the top is FINISHED; under a task lit to a CLOSING position it stands at its
end until nothing is lit (R46, R68, R92; DEDUCED, log entry 13). -/
def State.setBlock (w : Win) (s : State) : State :=
  if s.blocked w then
    match (s.win w).blockTimer with
    | some _ => s
    | none =>
      if s.blockMs = 0 ∧ (s.win w).lit = none then s.markFinished w
      else s.updWin w fun x => { x with blockTimer := some s.blockMs }
  else s.updWin w fun x => { x with blockTimer := none }

/-- The swap-outs, then FINISHED tests and send-backs, then the choices, then the block timers. -/
def State.workWindows (s : State) : State :=
  ((s.swapAll.finishBoth.chooseBoth).setBlock .w0).setBlock .w1

/-- The fetch opportunities of the two windows (R108, R109): one is taken; when both have one the first is open. A fetch
that unlights a task and so frees a position comes before the choices of R126, step 6, and so does the fetch of the
other window; the SWAPOUT of a CLOSING position that the first fetch's unlighting frees (R68, R69) stands after the FETCH
of both: DESIGN CHOICE, log entry 23. -/
def State.fetchFirst (s : State) : State :=
  if (s.fetchChoice .w0).isSome && (s.fetchChoice .w1).isSome then s.bothWays State.takeFetch
  else (s.takeFetch .w0).takeFetch .w1

/-- Does anything but a fetch remain to do at the windows and positions? -/
def State.workDue (s : State) : Bool :=
  allPos.any s.swapOwed || s.sendBackDue .w0 || s.sendBackDue .w1

/-- Does anything remain to do? -/
def State.restless (s : State) : Bool := s.workDue || (s.fetchChoice .w0).isSome || (s.fetchChoice .w1).isSome

/-- The windows work until nothing remains. Each further round follows a fetch or a SENDBACK, of which a window has one
in flight at most, a swap-out, of which six are possible, or a top FINISHED by a BLOCK_HOLD of 0, of which each window
has two at most: `n = 16` rounds are enough. -/
def State.settleRounds : Nat → State → State
  | 0, s => s
  | n + 1, s =>
    let s := s.workWindows
    if s.restless then State.settleRounds n (if s.workDue then s else s.fetchFirst)
    else s

/-- The end of an event at the windows. -/
def State.settle (s : State) : State := s.settleRounds 16

end Sys2Proof.Machine
end

