-- ==== Sys2Proof/Machine/WindowOps.lean ====
section
/-! DEFINITION. Faults (R89, R90), holds (R138 to R140), delivery (R84 to R87) and the end of a return (R98). -/

namespace Sys2Proof.Machine

/-- Unlight at the windows newly held in one event (R140); when both have a lit task the order is open. -/
def State.unlightHeld (before after : State) (s : State) : State :=
  let newly (w : Win) : Bool := !before.held w && after.held w
  let one (w : Win) (s : State) : State := if newly w then s.unlight w .hold else s
  if newly .w0 && newly .w1 && (s.win .w0).lit.isSome && (s.win .w1).lit.isSome then s.bothWays one
  else one .w1 (one .w0 s)

/-- Change the hold sources at the windows of a set, both first, then the unlighting (R140). Releases take their effect
at the end of the event (R91). -/
def State.changeHolds (ws : WinSet) (f : Holds → Holds) (s : State) : State :=
  let one (w : Win) (s : State) : State := if ws.has w then s.updWin w fun x => { x with holds := f x.holds } else s
  let after := one .w1 (one .w0 s)
  State.unlightHeld s after after

/-- The source of a link (R138). -/
def Holds.setLink (l : Link) (b : Bool) (h : Holds) : Holds :=
  match l with
  | .order => { h with order := b }
  | .transport => { h with transport := b }
  | .bench => { h with bench := b }

/-- A window takes a FAULT hold with its cause; WINDOW_FAULT goes to the order and bench links (R89). A lit task is
unlit as at any hold (R91); the rules of the three faults leave none here. -/
def State.takeFault (w : Win) (cause : WinFault) (tote : ToteId) (s : State) : State :=
  let after := s.updWin w fun x => { x with holds := { x.holds with fault := true }, faultCause := some cause }
  (State.unlightHeld s after after).noteBoth (.windowFault w cause tote)

/-- A PULLED fault (R90): the lit task is unlit (R126, steps 1 to 5), then the FAULT hold is taken, naming the top tote.
Step 6 of R126 finds the window held: a CLOSING position whose lock is free goes SWAPPING at the end of the event, and a
top left without a task waits FINISHED on the lift (DEDUCED, log entry 22). -/
def State.pulledFault (w : Win) (s : State) : State :=
  match s.top? w with
  | some id => (s.unlight w .windowPulled).takeFault w .pulled id
  | none => s

/-- A fetch is delivered (R86, steps 1 to 5): pushed on the lift, its tasks ACTIVE, confirms 0, PRESENTATIONS raised and
TOTE_PRESENTED offered; after a settle expiry the SENSOR fault (R87). Steps 6 to 8 follow at the end of the event. -/
def State.deliver (w : Win) (settled : Bool) (s : State) : State :=
  match (s.win w).fetch with
  | none => s
  | some f =>
    let s := s.updWin w fun x => { x with lift := f.tote :: x.lift, fetch := none, confirms := 0, blockTimer := none }
    let s := s.updTote f.tote fun t => { t with state := .onLift w }
    let s := s.tasksToActive f.tote
    let s := { s with counters := { s.counters with presentations := raise s.counters.presentations 1 } }
    let s := match s.tote? f.tote with
      | some t => s.offer (toteEvent .totePresented t (some w))
      | none => s
    if settled then s.takeFault w .sensor f.tote else s

/-- The end of a return (R98): a PRESENTING window whose PRES is not asserted takes a PULLED fault. The send-back of a
FINISHED top follows at the end of the event. -/
def State.endReturn (w : Win) (s : State) : State :=
  if (s.win w).fetch.isNone && !(s.win w).lift.isEmpty && !(s.win w).present then s.pulledFault w else s

/-- The derived state of a window is EMPTY with no return in flight (R79, R135). -/
def State.windowClear (s : State) (w : Win) : Bool :=
  (s.win w).lift.isEmpty && (s.win w).fetch.isNone && (s.win w).ret.isNone

end Sys2Proof.Machine
end

