-- ==== Sys2Proof/Machine/Exposure.lean ====
section
/-! DEFINITION. The threshold test, the expiry of a tote and the accrual pass (R26 to R31, R50, R99). -/

namespace Sys2Proof.Machine

/-- The window at which the tote stands as top with a task of its own lit (R99). -/
def State.litTop (s : State) (tote : ToteId) : Option (Win × TaskId) :=
  let at? (w : Win) : Option (Win × TaskId) :=
    match (s.win w).lit.bind s.task? with
    | some t => if t.tote = tote ∧ s.top? w = some tote then some (w, t.id) else none
    | none => none
  match at? .w0 with
  | some r => some r
  | none => at? .w1

/-- End a task of an expired tote FAILED(EXPIRED) (R50); the one that was lit queues TASK_UNLIT with cause EXPIRED (R126). -/
def State.endExpired (was : Option (Win × TaskId)) (id : TaskId) (s : State) : State :=
  s.endWith State.swapOut (.failed .expired) .expired
    (match was with
      | some (w, lit) => if lit = id then some w else s.litAt id
      | none => s.litAt id) id

/-- What the owners do when EXPIRED is set on a tote (R31): a lit task on the top is unlit first, then the task table
fails the tasks that are not WAITING (R50), then the tote leaves the lane (R9) or is FINISHED at the top (R99). -/
def State.ownersExpire (t : Tote) (s : State) : State :=
  let was := s.litTop t.id
  let ids := ascendingIds ((s.tasksOf t.id).filter fun x => x.state != .waiting)
  let s := match was with
    | some (w, _) => s.unlightFirst w true
    | none => s
  let s := s.endAll (State.endExpired was) ids
  match t.state with
  | .inLane _ => s.laneSendBack t.id
  | .onLift w => if s.top? w = some t.id then s.finishAndSend w else s
  | _ => s

/-- Setting EXPIRED (R31): the flag, TOTE_EXPIRED, the event, the counter, the owners. -/
def State.expire (t : Tote) (limit : Nat) (s : State) : State :=
  let s := s.updTote t.id fun x => { x with expired := true }
  let s := s.noteBoth (.toteExpired (s.exposureInfo t limit))
  let s := s.offer (toteEvent .toteExpired t t.state.atWindow)
  let s := { s with counters := { s.counters with expiries := raise s.counters.expiries 1 } }
  s.ownersExpire t

/-- Setting URGENT (R30 a). -/
def State.warn (t : Tote) (limit : Nat) (s : State) : State :=
  let s := s.updTote t.id fun x => { x with urgent := true }
  let s := s.noteBoth (.exposureWarn (s.exposureInfo t limit))
  s.offer (toteEvent .toteUrgent t t.state.atWindow)

/-- The threshold test of a record (R30): part (a) in full before part (b). -/
def State.thresholdTest (id : ToteId) (s : State) : State :=
  match s.tote? id with
  | none => s
  | some t =>
    match s.limit t.cls with
    | none => s
    | some limit =>
      let s := if !t.urgent && decide (s.warnOf limit ≤ t.account) then s.warn t limit else s
      if !t.expired && decide (limit ≤ t.account) then s.expire t limit else s

/-- One record of the accrual pass (R26): charged, then tested, unless it has no weight (R27). -/
def State.chargeTote (s : State) (id : ToteId) : State :=
  match s.tote? id with
  | none => s
  | some t =>
    match s.weight t with
    | none => s
    | some w => (s.updTote id fun x => x.charge (s.rate t.cls) w).thresholdTest id

/-- The accrual pass: every record in use, in ascending tote id (R26). -/
def State.accrualPass (s : State) : State :=
  ((sortAsc (s.totes.map fun t => t.id.toNat)).map (BitVec.ofNat 32)).foldl State.chargeTote s

end Sys2Proof.Machine
end

