-- ==== Sys2Proof/Machine/Wire.lean ====
section
/-! DEFINITION. The line: CRC-16, escaping, multi-byte numbers (R164, R173, section 11.7), and the bytes of every frame
the part sends (replies, notices, directions). -/

namespace Sys2Proof.Machine

/-! ## CRC and escaping (R164) -/

/-- One bit of the CRC with polynomial 0x1021. -/
def crcBit (c : BitVec 16) : BitVec 16 := if c.msb then (c <<< 1) ^^^ 0x1021#16 else c <<< 1

/-- One byte of the CRC, most significant bit first. -/
def crcByte (c : BitVec 16) (b : Byte) : BitVec 16 :=
  crcBit (crcBit (crcBit (crcBit (crcBit (crcBit (crcBit (crcBit (c ^^^ (b.setWidth 16 <<< 8)))))))))

/-- The CRC-16 over unescaped bytes (R164): initial value 0xFFFF, no final XOR. -/
def crc16 (bs : List Byte) : BitVec 16 := bs.foldl crcByte 0xFFFF#16

/-- A byte as it goes on the line (section 11.7): 0x7E and 0x7D become 0x7D and the byte XOR 0x20. -/
def escapeByte (b : Byte) : List Byte := if b = 0x7E ∨ b = 0x7D then [0x7D, b ^^^ 0x20] else [b]

/-- The bytes after the start byte as they go on the line. -/
def escape (bs : List Byte) : List Byte := bs.flatMap escapeByte

/-- The receiver's undoing of the escaping (R164): a 0x7D is dropped and the byte after it taken XOR 0x20; a 0x7E ends
the frame in progress. -/
def unescape : List Byte → List Byte
  | [] => []
  | [b] => if b = 0x7E ∨ b = 0x7D then [] else [b]
  | b :: c :: bs =>
    if b = 0x7E then []
    else if b = 0x7D then (if c = 0x7E then [] else (c ^^^ 0x20) :: unescape bs)
    else b :: unescape (c :: bs)

/-! ## Numbers, most significant byte first (R173) -/

/-- Two bytes. -/
def bytes2 (x : BitVec 16) : List Byte := [x.extractLsb' 8 8, x.extractLsb' 0 8]

/-- Three bytes. -/
def bytes3 (x : BitVec 24) : List Byte := [x.extractLsb' 16 8, x.extractLsb' 8 8, x.extractLsb' 0 8]

/-- Four bytes. -/
def bytes4 (x : BitVec 32) : List Byte :=
  [x.extractLsb' 24 8, x.extractLsb' 16 8, x.extractLsb' 8 8, x.extractLsb' 0 8]

/-- A number in one byte. -/
def num1 (n : Nat) : List Byte := [BitVec.ofNat 8 n]

/-- A number in two bytes. -/
def num2 (n : Nat) : List Byte := bytes2 (BitVec.ofNat 16 n)

/-- A number in three bytes. -/
def num3 (n : Nat) : List Byte := bytes3 (BitVec.ofNat 24 n)

/-- A signed number in two bytes, two's complement (R173). -/
def signed2 (i : Int) : List Byte := bytes2 (BitVec.ofInt 16 i)

/-- A flag or yes-or-no value in one byte (R173). -/
def flag (b : Bool) : List Byte := num1 (if b then 1 else 0)

/-- An absent field: all ones in its width (R171). -/
def absent (width : Nat) : List Byte := List.replicate width 0xFF

/-- A field that may be absent (R171). -/
def orAbsent {α : Type} (width : Nat) (f : α → List Byte) : Option α → List Byte
  | some a => f a
  | none => absent width

/-! ## Codes of named values (R173): from 0 in the order the owning rule first lists them -/

/-- Class code (R173). -/
def classCode (c : TempClass) : Nat := c.rank

/-- Tote states in the order of R1. -/
def ToteState.code : ToteState → Nat
  | .inLane _ => 0
  | .fetching _ => 1
  | .onLift _ => 2
  | .leavingLane _ => 3
  | .leavingWin _ => 3

/-- Fault causes of the sensor in the order of R19. -/
def SensorCause.code : SensorCause → Nat
  | .start => 0
  | .noAnswer => 1
  | .outOfRange => 2

/-- Task states in the order of R39. -/
def TaskState.code : TaskState → Nat
  | .waiting => 0
  | .ready => 1
  | .active => 2
  | .lit => 3

/-- Failure reasons (section 11.7): 1 CLASS to 5 TOTE_BAD. The section says so of TASK_FAILED; that a WATCH notice has
the same codes is a DESIGN CHOICE, log entry 26. -/
def FailReason.code : FailReason → Nat
  | .cls => 1
  | .expired => 2
  | .notDelivered => 3
  | .orderToteLeft => 4
  | .toteBad => 5

/-- Outcomes in the order of R41. -/
def TaskOutcome.code : TaskOutcome → Nat
  | .done => 0
  | .short => 1
  | .failed _ => 2
  | .cancelled => 3

/-- Position states in the order of R60. -/
def PosState.code : PosState → Nat
  | .empty => 0
  | .bound => 1
  | .closing => 2
  | .swapping => 3
  | .pulled => 4

/-- The state before pull in the order of R60. -/
def PrePull.code : PrePull → Nat
  | .bound => 0
  | .closing => 1

/-- A lock in the order of R60: free, W0, W1. -/
def lockCode : Option Win → Nat
  | none => 0
  | some w => w.num + 1

/-- Light modes: R75 lists off, STEADY, FLASH, FAST. -/
def LightMode.readCode : LightMode → Nat
  | .off => 0
  | .steady => 1
  | .flash => 2
  | .fast => 3

/-- Light modes in TASK_LIT: R115 lists STEADY, FLASH, FAST, off. -/
def LightMode.noticeCode : LightMode → Nat
  | .steady => 0
  | .flash => 1
  | .fast => 2
  | .off => 3

/-- Window fault causes in the order of R78. -/
def WinFault.code : WinFault → Nat
  | .sensor => 0
  | .pulled => 1
  | .fetch => 2

/-- TASK_UNLIT causes in the order of R126. -/
def UnlitCause.code : UnlitCause → Nat
  | .ended _ => 0
  | .expired => 1
  | .hold => 2
  | .preempt => 3
  | .windowPulled => 4
  | .positionPulled => 5

/-- Event kinds in the order of R148. -/
def EventKind.code : EventKind → Nat
  | .totePresented => 0
  | .toteReturned => 1
  | .toteUrgent => 2
  | .toteExpired => 3
  | .taskDone => 4
  | .taskShort => 5
  | .taskFailed => 6

/-- Reason codes (section 11.7). -/
def Reason.code : Reason → Nat
  | .ok => 0 | .clamped => 1 | .mode => 2 | .busy => 3 | .range => 4 | .full => 5 | .duplicate => 6 | .unknown => 7
  | .state => 8 | .notLit => 9 | .early => 10 | .already => 11 | .locked => 12 | .order => 13 | .cls => 14
  | .expired => 15 | .noTote => 16 | .slotBusy => 17 | .owned => 18 | .authority => 19 | .format => 20 | .storeFail => 21

/-- A place in two bytes (R173): the lane slot or window, then the lift level, or all ones without one. -/
def placeBytes (st : ToteState) (level : Option Nat) : List Byte :=
  (match st with
    | .inLane slot => num1 slot.val
    | .fetching w => num1 w.num
    | .onLift w => num1 w.num
    | .leavingLane slot => num1 slot.val
    | .leavingWin w => num1 w.num) ++ orAbsent 1 num1 level

/-! ## Notices and directions (section 11.7) -/

/-- The event code of a notice. -/
def Notice.eventCode : Notice → Nat
  | .exposureWarn _ => 0x01
  | .toteExpired _ => 0x02
  | .sensorFault _ _ => 0x03
  | .sensorRestored _ _ => 0x04
  | .taskEnded .done _ _ => 0x05
  | .taskEnded .short _ _ => 0x06
  | .taskEnded (.failed _) _ _ => 0x07
  | .taskEnded .cancelled _ _ => 0x08
  | .taskLit _ _ _ _ _ _ => 0x09
  | .taskUnlit _ _ _ _ _ => 0x0A
  | .overdue _ _ _ _ _ => 0x0B
  | .toteLost _ _ _ _ => 0x0C
  | .returnUnconfirmed _ _ => 0x0D
  | .swapUnconfirmed _ _ => 0x0E
  | .windowFault _ _ _ => 0x0F
  | .benchCleared => 0x10
  | .watch _ _ => 0x11

/-- The fields of EXPOSURE_WARN and TOTE_EXPIRED (R34). -/
def ExposureInfo.bytes (i : ExposureInfo) : List Byte :=
  bytes4 i.tote ++ num1 (classCode i.cls) ++ num3 i.account ++ num3 i.warn ++ num3 i.limit ++ num1 i.state.code ++
    placeBytes i.state i.level

/-- The guard in seconds (R130): a whole number of seconds, or a free byte (log entry 12). -/
def guardSeconds (ms : Ms) : List Byte := if ms % 1000 = 0 then num1 (ms / 1000) else [Config.guardByte ms]

/-- The fields of a notice, in the order its rule lists them (R173). DESIGN CHOICE, log entry 26: a field that a rule
gives in some cases only (the reason of a terminal or WATCH notice, the outcome of TASK_UNLIT, the window of a WATCH) is
sent as all ones in the others; in WATCH the fields of the other kind of event (class and account, or task id and reason)
are left out, the matched value has four bytes for both kinds, and the failure reason has the codes 1 to 5 of section
11.7, as in TASK_FAILED; the origin of RETURN_UNCONFIRMED is one byte, slot or window. The SKU 0 of a task without one
is sent as 0 (log entry 28). -/
def Notice.fields : Notice → List Byte
  | .exposureWarn i => i.bytes
  | .toteExpired i => i.bytes
  | .sensorFault c raw => num1 c.code ++ orAbsent 2 signed2 raw
  | .sensorRestored t b => signed2 t ++ num1 b.val
  | .taskEnded o t p => orAbsent 1 (fun r => num1 r.code) o.reason ++ bytes2 t.id ++ bytes4 t.tote ++ bytes4 t.orderTote ++
      bytes3 t.sku ++ num1 (classCode t.cls) ++ num1 t.quantity ++ num1 t.confirmed ++ num1 t.state.code ++
      orAbsent 1 (fun q => num1 q.val) p ++ flag t.crush ++ flag t.overdue ++ flag t.overcount
  | .taskLit t w p m pMs gMs => bytes2 t.id ++ bytes4 t.tote ++ bytes4 t.orderTote ++ bytes3 t.sku ++
      num1 (classCode t.cls) ++ num1 t.quantity ++ num1 t.confirmed ++ num1 t.unitVolume ++ num1 t.crushClass ++
      num1 w.num ++ num1 p.val ++ num1 m.noticeCode ++ flag t.crush ++ flag t.overdue ++ flag t.overcount ++
      num2 (pMs / 1000) ++ guardSeconds gMs
  | .taskUnlit id w p n c => bytes2 id ++ num1 w.num ++ orAbsent 1 (fun q => num1 q.val) p ++ num1 n ++ num1 c.code ++
      (match c with
        | .ended o => num1 o.code
        | _ => absent 1)
  | .overdue id w p n q => bytes2 id ++ num1 w.num ++ orAbsent 1 (fun q => num1 q.val) p ++ num1 n ++ num1 q
  | .toteLost id c a w => bytes4 id ++ num1 (classCode c) ++ num3 a ++ num1 w.num
  | .returnUnconfirmed id (.lane slot) => bytes4 id ++ num1 slot.val
  | .returnUnconfirmed id (.window w) => bytes4 id ++ num1 w.num
  | .swapUnconfirmed p k => num1 p.val ++ bytes4 k
  | .windowFault w c id => num1 w.num ++ num1 c.code ++ bytes4 id
  | .benchCleared => []
  | .watch n e => num1 n.val ++ num1 e.kind.code ++ bytes4 e.value ++ orAbsent 1 (fun w => num1 w.num) e.window ++
      bytes4 e.tote ++
      (match e.detail with
        | .tote c a => num1 (classCode c) ++ num3 a
        | .task id r => bytes2 id ++ orAbsent 1 (fun r => num1 r.code) r)

/-- The kind code of a frame the part sends (section 11.7). -/
def OutFrame.kind : OutFrame → Byte
  | .reply r => if r.taken then 0x01 else 0x02
  | .notice _ _ => 0x03
  | .direction (.fetch _ _ _) => 0x04
  | .direction (.sendBack _ _) => 0x05
  | .direction (.swapOut _ _) => 0x06

/-- The tag of a frame the part sends: a reply's request tag, else all ones (R166, R167). -/
def OutFrame.tag : OutFrame → Tag
  | .reply r => r.tag
  | _ => Config.noReply

/-- The body of a frame the part sends (section 11.7). -/
def OutFrame.body : OutFrame → List Byte
  | .reply r => [r.kind] ++ num1 r.reason.code ++ r.result
  | .notice n lost => num1 n.eventCode ++ flag lost ++ n.fields
  | .direction (.fetch id slot w) => bytes4 id ++ num1 slot.val ++ num1 w.num
  | .direction (.sendBack id (.lane slot)) => bytes4 id ++ num1 0 ++ num1 slot.val
  | .direction (.sendBack id (.window w)) => bytes4 id ++ num1 1 ++ num1 w.num
  | .direction (.swapOut p k) => num1 p.val ++ bytes4 k

/-- The bytes of a frame on the line (section 11.7): 0x7E, then kind, tag, length, body and CRC, escaped. -/
def frameBytes (kind : Byte) (tag : Tag) (body : List Byte) : List Byte :=
  let content := [kind] ++ bytes3 tag ++ num1 body.length ++ body
  [0x7E] ++ escape (content ++ bytes2 (crc16 content))

/-- The bytes of a frame the part sends. -/
def OutFrame.bytes (f : OutFrame) : List Byte := frameBytes f.kind f.tag f.body

end Sys2Proof.Machine
end

