-- ==== Sys2Proof/WellFormed.lean ====
section
/-! DEFINITION. Well-formed commands: a command that stands for what the receiver saw carries what the rule of its row
asks for (R164, R165). Every other operand is admitted at its wire width: the owners check ranges (R173). -/

namespace Sys2Proof

open Sys2Proof.Machine

/-- Content of a complete frame (R164): kind, tag, a length of at most 48 and as many body bytes. -/
def frameContent : List Byte → Bool
  | _ :: _ :: _ :: _ :: n :: body => decide (n.toNat ≤ Config.bodyMax) && body.length == n.toNat
  | _ => false

/-- FRAME_LENGTH_ABANDON needs a length above 48 (R164). -/
def wfLengthAbandon (length : Byte) : Bool := decide (Config.bodyMax < length.toNat)

/-- FRAME_CRC_DISCARD needs a complete frame whose CRC does not agree (R164). -/
def wfCrcDiscard (content : List Byte) (crc : BitVec 16) : Bool := frameContent content && crc16 content != crc

/-- FORMAT_REFUSAL needs a body that fits a frame and fails check 2 of R165. -/
def wfFormatRefusal (kind : Byte) (body : List Byte) : Bool :=
  decide (body.length ≤ Config.bodyMax) && !goodFormat kind body.length

/-- Is a command well-formed? -/
def Instr.wf : Instr → Bool
  | .frameLengthAbandon _ length => wfLengthAbandon length
  | .frameCrcDiscard _ content crc => wfCrcDiscard content crc
  | .formatRefusal _ kind body => wfFormatRefusal kind body
  | .powerOn _ | .rstnFall | .resetQualified _ | .rstnRise _ | .settingsLoadEnd | .frameIgnoredDuringLoad _
  | .byteStopBitAbort _ | .frameSent _
  | .post _ _ _ _ _ _ _ _ _ | .withdraw _ _ | .rush _ _ | .bind _ _ _ _ _ | .close _ _ | .mode _ _ | .clear _
  | .setItem _ _ _ | .store _ | .storeCompletion _ | .lock _
  | .toteIn _ _ _ _ _ | .toteOut _ _ | .atWin _ _ _ | .gone _ _ | .swapped _ _
  | .picked _ _ _ | .short _ _ | .toteBad _ _
  | .hold _ _ | .resume _ _ | .read _ _ _ | .list _ | .cursor _ _ _ | .watch _ _ _ _ _ _ _ _ _
  | .accrualIntervalExpiry | .accrualEvent _ | .orphanExpiry _ | .laneReturnTimeout _ | .presRise _ | .presFall _
  | .settleExpiry _ | .fetchTimeout _ | .windowReturnTimeout _ | .blockTimerExpiry _ | .swapTimeout _
  | .pposFall _ | .pposRise _ | .btnPress _ | .btnRelease _ | .guardExpiry _ | .confirmPeriodExpiry _
  | .awaitExpiry _ | .holdLineAsserted | .holdLineReleased | .lossOfSupply _ | .startByte _ => true

end Sys2Proof
end

