-- ==== Sys2Proof/Decode.lean ====
section
/-! DEFINITION. From bytes to commands. The opcode table gives no row any bits, so no table word spells a command; what
the part reads is frames (R164, R165, section 11.7): `lineCommand` is the command of a line's bytes after a start byte,
and `requestFrame` the bytes of a request. -/

namespace Sys2Proof

open Sys2Proof.Machine

/-- The command that a word spells by the table's bits: none, as the table gives no row bits. -/
def decodeTableWord (_nbits _w : Nat) : Option Instr := none

/-- A number from two bytes, most significant first (R173). -/
def of2 (a b : Byte) : BitVec 16 := a ++ b

/-- A number from three bytes. -/
def of3 (a b c : Byte) : BitVec 24 := a ++ b ++ c

/-- A number from four bytes. -/
def of4 (a b c d : Byte) : BitVec 32 := a ++ b ++ c ++ d

/-- The order link's requests from their bodies (section 11.7). -/
def orderRequest (k : ReqKind) (r : Req) (body : List Byte) : Option Instr :=
  match k, body with
  | .post, [i1, i0, t3, t2, t1, t0, o3, o2, o1, o0, s2, s1, s0, cls, quantity, unitVolume, crushClass] =>
    some (.post r (of2 i1 i0) (of4 t3 t2 t1 t0) (of4 o3 o2 o1 o0) (of3 s2 s1 s0) cls quantity unitVolume crushClass)
  | .withdraw, [i1, i0] => some (.withdraw r (of2 i1 i0))
  | .rush, [t3, t2, t1, t0] => some (.rush r (of4 t3 t2 t1 t0))
  | .bind, [pos, o3, o2, o1, o0, cls, capacity] => some (.bind r pos (of4 o3 o2 o1 o0) cls capacity)
  | .close, [pos] => some (.close r pos)
  | .mode, [m] => some (.mode r m)
  | .clear, [] => some (.clear r)
  | .setItem, [n, v1, v0] => some (.setItem r n (of2 v1 v0))
  | .store, [] => some (.store r)
  | .lock, [] => some (.lock r)
  | _, _ => none

/-- The transport link's requests from their bodies (section 11.7). -/
def transportRequest (k : ReqKind) (r : Req) (body : List Byte) : Option Instr :=
  match k, body with
  | .toteIn, [t3, t2, t1, t0, slot, cls, b2, b1, b0] => some (.toteIn r (of4 t3 t2 t1 t0) slot cls (of3 b2 b1 b0))
  | .toteOut, [t3, t2, t1, t0] => some (.toteOut r (of4 t3 t2 t1 t0))
  | .atWin, [t3, t2, t1, t0, w] => some (.atWin r (of4 t3 t2 t1 t0) w)
  | .gone, [t3, t2, t1, t0] => some (.gone r (of4 t3 t2 t1 t0))
  | .swapped, [pos] => some (.swapped r pos)
  | _, _ => none

/-- The bench link's requests and those of several links from their bodies (section 11.7). -/
def benchRequest (k : ReqKind) (r : Req) (body : List Byte) : Option Instr :=
  match k, body with
  | .picked, [i1, i0, count] => some (.picked r (of2 i1 i0) count)
  | .short, [i1, i0] => some (.short r (of2 i1 i0))
  | .toteBad, [t3, t2, t1, t0] => some (.toteBad r (of4 t3 t2 t1 t0))
  | .hold, [ws] => some (.hold r ws)
  | .resume, [ws] => some (.resume r ws)
  | .read, [item, i3, i2, i1, i0] => some (.read r item (of4 i3 i2 i1 i0))
  | .list, [] => some (.list r)
  | .cursor, [kind, index] => some (.cursor r kind index)
  | .watch, [e, en, sub, l3, l2, l1, l0, h3, h2, h1, h0, com, ev, ws] =>
    some (.watch r e en sub (of4 l3 l2 l1 l0) (of4 h3 h2 h1 h0) com ev ws)
  | _, _ => none

/-- The request of a kind with its body. -/
def requestOf (k : ReqKind) (r : Req) (body : List Byte) : Option Instr :=
  match orderRequest k r body with
  | some c => some c
  | none =>
    match transportRequest k r body with
    | some c => some c
    | none => benchRequest k r body

/-- A complete frame with a good CRC (R165, check 2): a request, or refused FORMAT. -/
def goodFrame (r : Req) (kind : Byte) (body : List Byte) : Instr :=
  match (kindOf kind).bind fun k => requestOf k r body with
  | some c => c
  | none => .formatRefusal r kind body

/-- The command of a frame's unescaped bytes after the start byte (R164): none while the frame is not complete. -/
def frameCommand (l : Link) (bytes : List Byte) : Option Instr :=
  match bytes with
  | kind :: t2 :: t1 :: t0 :: n :: rest =>
    if Config.bodyMax < n.toNat then some (.frameLengthAbandon l n)
    else
      match rest.drop n.toNat with
      | [c1, c0] =>
        let content := kind :: t2 :: t1 :: t0 :: n :: rest.take n.toNat
        if crc16 content ≠ of2 c1 c0 then some (.frameCrcDiscard l content (of2 c1 c0))
        else some (goodFrame ⟨l, of3 t2 t1 t0⟩ kind (rest.take n.toNat))
      | _ => none
  | _ => none

/-- The command of the bytes on a line after a start byte, escaping undone (R164). -/
def lineCommand (l : Link) (line : List Byte) : Option Instr := frameCommand l (unescape line)

/-- The link, tag, kind and body of a request (section 11.7): none for a command that is no request. -/
def Instr.request : Instr → Option (Req × ReqKind × List Byte)
  | .post r i t o sku cls q v c =>
    some (r, .post, bytes2 i ++ bytes4 t ++ bytes4 o ++ bytes3 sku ++ [cls, q, v, c])
  | .withdraw r i => some (r, .withdraw, bytes2 i)
  | .rush r t => some (r, .rush, bytes4 t)
  | .bind r p o cls cap => some (r, .bind, [p] ++ bytes4 o ++ [cls, cap])
  | .close r p => some (r, .close, [p])
  | .mode r m => some (r, .mode, [m])
  | .clear r => some (r, .clear, [])
  | .setItem r n v => some (r, .setItem, [n] ++ bytes2 v)
  | .store r => some (r, .store, [])
  | .lock r => some (r, .lock, [])
  | .toteIn r t slot cls b => some (r, .toteIn, bytes4 t ++ [slot, cls] ++ bytes3 b)
  | .toteOut r t => some (r, .toteOut, bytes4 t)
  | .atWin r t w => some (r, .atWin, bytes4 t ++ [w])
  | .gone r t => some (r, .gone, bytes4 t)
  | .swapped r p => some (r, .swapped, [p])
  | .picked r i n => some (r, .picked, bytes2 i ++ [n])
  | .short r i => some (r, .short, bytes2 i)
  | .toteBad r t => some (r, .toteBad, bytes4 t)
  | .hold r ws => some (r, .hold, [ws])
  | .resume r ws => some (r, .resume, [ws])
  | .read r item i => some (r, .read, [item] ++ bytes4 i)
  | .list r => some (r, .list, [])
  | .cursor r k i => some (r, .cursor, [k, i])
  | .watch r e en sub lo hi com ev ws => some (r, .watch, [e, en, sub] ++ bytes4 lo ++ bytes4 hi ++ [com, ev, ws])
  | .powerOn _ | .rstnFall | .resetQualified _ | .rstnRise _ | .settingsLoadEnd | .frameIgnoredDuringLoad _
  | .byteStopBitAbort _ | .frameLengthAbandon _ _ | .frameCrcDiscard _ _ _ | .formatRefusal _ _ _ | .frameSent _
  | .storeCompletion _ | .accrualIntervalExpiry | .accrualEvent _ | .orphanExpiry _ | .laneReturnTimeout _ | .presRise _
  | .presFall _ | .settleExpiry _ | .fetchTimeout _ | .windowReturnTimeout _ | .blockTimerExpiry _ | .swapTimeout _
  | .pposFall _ | .pposRise _ | .btnPress _ | .btnRelease _ | .guardExpiry _ | .confirmPeriodExpiry _
  | .awaitExpiry _ | .holdLineAsserted | .holdLineReleased | .lossOfSupply _ | .startByte _ => none

/-- The bytes of a request on its line, the start byte first (section 11.7). -/
def Instr.requestFrame (c : Instr) : Option (Link × List Byte) :=
  c.request.map fun q => (q.1.link, frameBytes q.2.1.code q.1.tag q.2.2)

end Sys2Proof
end

