-- ==== Sys2Proof/Machine/BenchRequests.lean ====
section
/-! DEFINITION. Bench control: MODE, CLEAR, HOLD, RESUME, the hold line, WATCH (R135 to R143, R147). -/

namespace Sys2Proof.Machine

/-- The effect of an accepted MODE (R136): a change to RUN tests the fetch opportunities. -/
def State.setMode (s : State) (m : Mode) : State :=
  if s.mode = m then s
  else if m = .run then ({ s with mode := m }).settle
  else { s with mode := m }

/-- Bench control's answer to MODE (R135): the first failing check decides. -/
def ownMode (mode : Byte) (s : State) : Answer :=
  match modeOf mode with
  | none => .refused .range
  | some m =>
    if s.settings.job.isSome then .refused .busy
    else if m = .service ∧ s.mode ≠ .service ∧ !(s.windowClear .w0 && s.windowClear .w1) then .refused .busy
    else .taken (s.setMode m) .ok

/-- MODE (R135). -/
def execMode (r : Req) (mode : Byte) (s : State) : Host.Outcome State Fault Refusal :=
  .next (s.serve .mode r (ownMode mode))

/-- CLEAR empties the put controller's windows (R132): no lit task, timers stopped, the last ended task kept. -/
def Window.clearLit (x : Window) : Window := { x with lit := none, confirmTimer := none, guardTimer := none }

/-- Step 1 of R142 (R58, R132, R77): every task removed, every lit task's timers stopped and its lock released. -/
def State.clearTasks (s : State) : State :=
  { s with
    tasks := []
    windows := ⟨s.windows.w0.clearLit, s.windows.w1.clearLit⟩
    positions := ⟨⟨s.positions.toList.map fun q => { q with lock := none }⟩, by simp⟩ }

/-- Steps 2 to 4 of R142: BENCH_CLEARED, DRAIN, the link holds released with what a release brings (R140). -/
def State.clearModeHolds (s : State) : State :=
  let s := s.noteBoth .benchCleared
  let s := { s with mode := .drain }
  (s.changeHolds bothWindows fun h => { h with order := false, transport := false, bench := false }).sendBoth

/-- Steps 5 and 6 of R142: every watch entry disabled, its other fields kept (R146); the cursors' indexes 0, their kinds
kept (R163). -/
def State.clearWatchesCursors (s : State) : State :=
  let zero (p : Port) : Port := { p with cursor := { p.cursor with index := 0 } }
  { s with
    watches := ⟨⟨s.watches.toList.map fun e => { e with owner := none }⟩, by simp⟩
    ports := ⟨zero s.ports.order, zero s.ports.transport, zero s.ports.bench⟩ }

/-- Step 7 of R142 at the tote table (R18): each IN_LANE tote that had a live task starts its orphan timer. -/
def State.clearOrphans (s : State) (before : List Task) : State :=
  { s with totes := s.totes.map fun t =>
      match t.state with
      | .inLane _ => if before.any (fun x => x.tote == t.id) then { t with orphanTimer := some s.orphanMs } else t
      | _ => t }

/-- Swap out a list of positions; the order of several is open (R169). -/
def State.swapOutList (ps : List Pos) (s : State) : State :=
  if 2 ≤ ps.length then
    if Config.freeBit s.free then ps.foldl (fun s p => s.swapOut p) { s with free := s.free + 1 }
    else ps.reverse.foldl (fun s p => s.swapOut p) { s with free := s.free + 1 }
  else ps.foldl (fun s p => s.swapOut p) s

/-- The CLOSING positions whose lock a CLEAR releases (R77). -/
def State.closingLocked (s : State) : List Pos :=
  allPos.filter fun p => (s.pos p).state == .closing && (s.pos p).lock.isSome

/-- The send-back of one window, the swap-outs, the send-back of the other window; which window is first is open. -/
def State.swapBetween (swaps : List Pos) (s : State) : State :=
  let first : Win := if Config.freeBit s.free then .w0 else .w1
  State.sendIfDue first.other (State.swapOutList swaps (State.sendIfDue first { s with free := s.free + 1 }))

/-- Step 7 of R142 at the position table and the window controllers (R77, R102), in either order between blocks (R169). -/
def State.clearStep7 (swaps : List Pos) (s : State) : State :=
  if swaps.isEmpty then s.finishBoth
  else
    let t := (s.finishTest .w0).finishTest .w1
    let u := { t with free := t.free + 1 }
    if (t.sendBackDue .w0 && t.sendBackDue .w1) && Config.freeBit t.free then State.swapBetween swaps u
    else u.eitherOrder (State.swapOutList swaps) State.sendBoth

/-- The effects of CLEAR, in the order of R142. -/
def State.clearBench (s : State) : State :=
  State.clearStep7 s.closingLocked ((s.clearTasks.clearModeHolds.clearWatchesCursors).clearOrphans s.tasks)

/-- Bench control's answer to CLEAR (R142). -/
def ownClear (s : State) : Answer :=
  if s.settings.job.isSome then .refused .busy else .taken s.clearBench.settle .ok

/-- CLEAR (R142). -/
def execClear (r : Req) (s : State) : Host.Outcome State Fault Refusal := .next (s.serve .clear r ownClear)

/-- The answer to HOLD (R138): the source of the link is added at the windows named. -/
def ownHold (l : Link) (windows : Byte) (s : State) : Answer :=
  match winSetOf windows with
  | none => .refused .range
  | some ws => .taken (s.changeHolds ws (Holds.setLink l true)).settle .ok

/-- HOLD (R138). -/
def execHold (r : Req) (windows : Byte) (s : State) : Host.Outcome State Fault Refusal :=
  .next (s.serve .hold r (ownHold r.link windows))

/-- A bench-link RESUME removes FAULT with its cause at the windows named (R139). -/
def State.dropFaults (s : State) (ws : WinSet) : State :=
  let one (w : Win) (s : State) : State :=
    if ws.has w then s.updWin w fun x => { x with holds := { x.holds with fault := false }, faultCause := none } else s
  one .w1 (one .w0 s)

/-- The answer to RESUME (R139): the source of the link is removed at the windows named, on the bench link FAULT too. -/
def ownResume (l : Link) (windows : Byte) (s : State) : Answer :=
  match winSetOf windows with
  | none => .refused .range
  | some ws =>
    let t := s.changeHolds ws (Holds.setLink l false)
    .taken (if l = .bench then t.dropFaults ws else t).settle .ok

/-- RESUME (R139). -/
def execResume (r : Req) (windows : Byte) (s : State) : Host.Outcome State Fault Refusal :=
  .next (s.serve .resume r (ownResume r.link windows))

/-- A change of the hold line (R141): LINE at both windows. -/
def State.setHoldLine (s : State) (b : Bool) : State :=
  (({ s with holdLine := b }).changeHolds bothWindows fun h => { h with line := b }).settle

/-- A debounced fall of HOLDn (R141). -/
def execHoldLineAsserted (s : State) : Host.Outcome State Fault Refusal :=
  .next (if (s.phase = .loading ∨ s.phase = .running) ∧ s.holdLine = false then (s.setHoldLine true).conclude else s)

/-- A debounced rise of HOLDn (R141). -/
def execHoldLineReleased (s : State) : Host.Outcome State Fault Refusal :=
  .next (if (s.phase = .loading ∨ s.phase = .running) ∧ s.holdLine = true then (s.setHoldLine false).conclude else s)

/-- The notice link of a link (R147): none for the transport link. -/
def noticeLink : Link → Option NoticeLink
  | .order => some .order
  | .bench => some .bench
  | .transport => none

/-- Does an event set name only events of its subject, and at least one (R147, R173)? -/
def goodEvents (subject : Subject) (events : Byte) : Bool :=
  events != 0 && decide (events.toNat ≤ (match subject with | .tote => 15 | .sku => 7))

/-- Replace a watch entry. -/
def State.setWatch (s : State) (n : Fin 4) (e : WatchEntry) : State := { s with watches := s.watches.set n e }

/-- May a link write the entry (R147, check 3)? -/
def WatchEntry.writableBy (e : WatchEntry) (l : NoticeLink) : Bool := e.owner.all fun o => o == l

/-- The entry an enabling WATCH asks for, when its fields pass check 2 (R147). -/
def watchAsked (l : NoticeLink) (subject : Byte) (low high : BitVec 32) (combine events windows : Byte) : Option WatchEntry :=
  match subjectOf subject, combineOf combine, winSetOf windows with
  | some sub, some com, some ws =>
    if goodEvents sub events && (com == .either || decide (low.toNat ≤ high.toNat)) then
      some { owner := some l, subject := sub, low := low, high := high, combine := com, events := events, windows := ws }
    else none
  | _, _, _ => none

/-- The watch unit's answer to WATCH (R147): the first failing check decides. -/
def ownWatch (l : Link) (entry enabled subject : Byte) (low high : BitVec 32) (combine events windows : Byte) (s : State) :
    Answer :=
  match noticeLink l with
  | none => .refused .authority
  | some nl =>
    match entryOf entry, yesNoOf enabled with
    | some n, some true =>
      match watchAsked nl subject low high combine events windows with
      | none => .refused .range
      | some e => if s.watches[n].writableBy nl then .portOnly (s.setWatch n e) .ok [] else .refused .owned
    | some n, some false =>
      if s.watches[n].writableBy nl then .portOnly (s.setWatch n { s.watches[n] with owner := none }) .ok []
      else .refused .owned
    | _, _ => .refused .range

/-- WATCH (R147). -/
def execWatch (r : Req) (entry enabled subject : Byte) (low high : BitVec 32) (combine events windows : Byte) (s : State) :
    Host.Outcome State Fault Refusal :=
  .next (s.serve .watch r (ownWatch r.link entry enabled subject low high combine events windows))

end Sys2Proof.Machine
end

