-- ==== Sys2Proof/Machine/ExposureEvents.lean ====
section
/-! DEFINITION. The exposure unit's own events: the expiry of the accrual interval and the end of a sensor read
(R20 to R26). -/

namespace Sys2Proof.Machine

/-- The accrual interval expires: it restarts with a full 1 s and a sensor read begins (R20). -/
def execAccrualIntervalExpiry (s : State) : Host.Outcome State Fault Refusal :=
  .next (if s.exposure.interval.isSome then
      { s with exposure := { s.exposure with interval := some Config.accrualMs, readInFlight := true } }
    else s)

/-- The accrual event before the windows act (R20): the read is no longer in flight, the sensor state and the band are
settled, then the accrual pass is made. -/
def State.accrue (s : State) (reading : Option (BitVec 16)) : State :=
  (({ s with exposure := { s.exposure with readInFlight := false } }).settleSensor reading).accrualPass

/-- A sensor read ends, with a reading or without one (R20, R21). -/
def execAccrualEvent (reading : Option (BitVec 16)) (s : State) : Host.Outcome State Fault Refusal :=
  .next (if s.exposure.readInFlight then (s.accrue reading).settle.conclude else s)

end Sys2Proof.Machine
end

