-- ==== Sys2Proof/Machine/LinkPort.lean ====
section
/-! DEFINITION. The receivers and transmitters of the link ports (R163 to R167): START_BYTE, BYTE_STOP_BIT_ABORT,
FRAME_LENGTH_ABANDON, FRAME_CRC_DISCARD, FORMAT_REFUSAL, FRAME_SENT, FRAME_IGNORED_DURING_LOAD. -/

namespace Sys2Proof.Machine

/-- Set the receiver of a link, while the links take bytes (R145, R163). -/
def State.receive (s : State) (l : Link) (r : Receiver) : State :=
  if s.phase = .running then s.updPort l fun p => { p with receiver := r } else s

/-- A 0x7E takes the receiver from HUNTING to IN_FRAME, or abandons the frame in progress and starts a new one (R164). -/
def execStartByte (l : Link) (s : State) : Host.Outcome State Fault Refusal := .next (s.receive l (.inFrame []))

/-- A byte with a missing stop bit aborts the frame in progress (R163). -/
def execByteStopBitAbort (l : Link) (s : State) : Host.Outcome State Fault Refusal := .next (s.receive l .hunting)

/-- A length byte above 48 abandons the frame, without a reply (R164). A length up to 48 abandons nothing. -/
def execFrameLengthAbandon (l : Link) (length : Byte) (s : State) : Host.Outcome State Fault Refusal :=
  .next (if Config.bodyMax < length.toNat then s.receive l .hunting else s)

/-- A complete frame whose CRC-16 does not match is discarded silently (R164). -/
def execFrameCrcDiscard (l : Link) (content : List Byte) (crc : BitVec 16) (s : State) :
    Host.Outcome State Fault Refusal :=
  .next (if crc16 content ≠ crc then s.receive l .hunting else s)

/-- A good frame whose kind is no request kind, or whose length is wrong for its kind, is refused FORMAT (R165); with the
reply slot busy it is discarded. -/
def State.refuseFormat (s : State) (r : Req) (kind : Byte) : State :=
  let s := s.receive r.link .hunting
  if s.slotBusy r.link then s else s.refuse r kind .format

/-- FORMAT_REFUSAL (R165). A frame of good format is no such event. -/
def execFormatRefusal (r : Req) (kind : Byte) (body : List Byte) (s : State) : Host.Outcome State Fault Refusal :=
  .next (if s.phase = .running ∧ goodFormat kind body.length = false then s.refuseFormat r kind else s)

/-- The transmitter finishes a frame and takes the next (R167). -/
def execFrameSent (l : Link) (s : State) : Host.Outcome State Fault Refusal :=
  .next (if (s.port l).transmitter.isSome then (s.updPort l fun p => { p with transmitter := none }).pump l else s)

/-- A frame completed while the settings load runs is discarded with no reply and no effect (R145). -/
def execFrameIgnoredDuringLoad (_l : Link) (s : State) : Host.Outcome State Fault Refusal := .next s

end Sys2Proof.Machine
end

