-- ==== Sys2Proof/Machine/PositionRequests.lean ====
section
/-! DEFINITION. The positions: BIND, CLOSE, SWAPPED, the swap timeout, the falls and rises of PPOS, the confirm buttons
(R63 to R74, R123, R124). -/

namespace Sys2Proof.Machine

/-- Step 1 of R65: the record takes the order tote. -/
def State.bindRecord (s : State) (p : Pos) (b : Binding) : State :=
  s.updPos p fun q => { q with state := .bound, binding := some b, fill := 0, floor := 0, lock := none }

/-- The class check at binding (R51): tasks above the order tote's class end FAILED(CLASS) in ascending task id. -/
def State.classCheckOrder (s : State) (b : Binding) : State :=
  s.endAll (State.endTask (.failed .cls))
    (ascendingIds (s.tasks.filter fun t => t.orderTote == b.orderTote && t.cls.exceeds b.cls))

/-- The position table's answer to BIND (R64): the first failing check decides. -/
def ownBind (pos : Byte) (orderTote : OrderToteId) (cls capacity : Byte) (s : State) : Answer :=
  match posOf pos, classOf cls with
  | some p, some c =>
    if orderTote = 0 ∨ capacity = 0 then .refused .range
    else if (s.pos p).state ≠ .empty then .refused .state
    else if !(s.pos p).present then .refused .noTote
    else if (s.positionOf orderTote).isSome then .refused .duplicate
    else
      let b : Binding := ⟨orderTote, c, capacity.toNat⟩
      .taken ((s.bindRecord p b).classCheckOrder b).settle .ok
  | _, _ => .refused .range

/-- BIND (R64, R65). -/
def execBind (r : Req) (pos : Byte) (orderTote : OrderToteId) (cls capacity : Byte) (s : State) :
    Host.Outcome State Fault Refusal :=
  .next (s.serve .bind r (ownBind pos orderTote cls capacity))

/-- The position table's answer to CLOSE (R70). -/
def ownClose (pos : Byte) (s : State) : Answer :=
  match posOf pos with
  | none => .refused .range
  | some p =>
    match (s.pos p).state with
    | .bound => .taken (s.enterClosing p).settle .ok
    | .pulled => .taken (s.enterClosing p).settle .ok
    | _ => .refused .state

/-- CLOSE (R70). -/
def execClose (r : Req) (pos : Byte) (s : State) : Host.Outcome State Fault Refusal :=
  .next (s.serve .close r (ownClose pos))

/-- The position table's answer to SWAPPED (R71). -/
def ownSwapped (pos : Byte) (s : State) : Answer :=
  match posOf pos with
  | none => .refused .range
  | some p => if (s.pos p).state = .swapping then .taken (s.emptyPosition p) .ok else .refused .state

/-- SWAPPED (R71). -/
def execSwapped (r : Req) (pos : Byte) (s : State) : Host.Outcome State Fault Refusal :=
  .next (s.serve .swapped r (ownSwapped pos))

/-- SWAP_UNCONFIRMED of a position (R72). -/
def State.noteUnswapped (s : State) (p : Pos) : State :=
  match (s.pos p).binding with
  | some b => s.noteOrder (.swapUnconfirmed p b.orderTote)
  | none => s

/-- A swap timer expires: the position goes EMPTY and SWAP_UNCONFIRMED is queued (R72). -/
def execSwapTimeout (p : Pos) (s : State) : Host.Outcome State Fault Refusal :=
  .next (if (s.pos p).state = .swapping ∧ (s.pos p).swapTimer.isSome then
      ((s.noteUnswapped p).emptyPosition p).conclude else s)

/-- Are the lines followed: from power-on, through the load, not in reset and not without supply (R63, R80, R144)? -/
def State.followsLines (s : State) : Bool := s.phase == .loading || s.phase == .running

/-- PPOS falls (R63, R73): presence absent; a BOUND or CLOSING position goes PULLED and its lit task is unlit. -/
def State.pposFalls (s : State) (p : Pos) : State :=
  let pull (before : PrePull) : State :=
    let t := s.updPos p fun q => { q with present := false, state := .pulled, beforePull := some before }
    match (s.pos p).lock with
    | some w => (t.unlight w .positionPulled).settle
    | none => t.settle
  match (s.pos p).state with
  | .bound => pull .bound
  | .closing => pull .closing
  | _ => s.updPos p fun q => { q with present := false }

/-- A debounced fall of PPOS (R63). -/
def execPposFall (p : Pos) (s : State) : Host.Outcome State Fault Refusal :=
  .next (if s.followsLines && (s.pos p).present then (s.pposFalls p).conclude else s)

/-- PPOS rises (R63, R74): presence present; a PULLED position returns to its state before pull, on to SWAPPING if that
is CLOSING. -/
def State.pposRises (s : State) (p : Pos) : State :=
  let t := s.updPos p fun q => { q with present := true }
  match (s.pos p).state, (s.pos p).beforePull with
  | .pulled, some .bound => (t.updPos p fun q => { q with state := .bound, beforePull := none }).settle
  | .pulled, some .closing => (t.enterClosing p).settle
  | _, _ => t

/-- A debounced rise of PPOS (R63). -/
def execPposRise (p : Pos) (s : State) : Host.Outcome State Fault Refusal :=
  .next (if s.followsLines && !(s.pos p).present then (s.pposRises p).conclude else s)

/-- A press taken at a position (R124): past the guard it confirms all units remaining of the task lit there. -/
def State.press (s : State) (p : Pos) : State :=
  match s.litTo p with
  | some (w, t) =>
    if (s.win w).guardTimer.isNone then (s.confirm w t (t.quantity - t.confirmed)).settle else s
  | none => s

/-- A debounced press of a confirm button (R123): an ARMED button is spent and its press taken. -/
def execBtnPress (p : Pos) (s : State) : Host.Outcome State Fault Refusal :=
  .next (if s.followsLines && !(s.pos p).pressed then
      if (s.pos p).armed then
        ((s.updPos p fun q => { q with pressed := true, armed := false }).press p).conclude
      else s.updPos p fun q => { q with pressed := true }
    else s)

/-- A debounced release of a confirm button re-arms it (R123). -/
def execBtnRelease (p : Pos) (s : State) : Host.Outcome State Fault Refusal :=
  .next (if s.followsLines && (s.pos p).pressed then s.updPos p fun q => { q with pressed := false, armed := true } else s)

end Sys2Proof.Machine
end

