-- ==== Sys2Proof/Machine/PutRequests.lean ====
section
/-! DEFINITION. The bench link's requests on picks: PICKED, SHORT, TOTEBAD, and the guard and confirm timers
(R120 to R122, R125, R127, R128). -/

namespace Sys2Proof.Machine

/-- Did the task end while lit at a window, as its last (R114)? DESIGN CHOICE, log entry 24: by the table of R121, an id
posted again since and ended unlit still answers ALREADY, where its prose says 'not been posted again since'. -/
def State.endedLast (s : State) (id : TaskId) : Bool :=
  (s.win .w0).lastEnded == some id || (s.win .w1).lastEnded == some id

/-- The window at which a live task is LIT (R40, R114). -/
def State.litWindow (s : State) (t : Task) : Option Win := if t.state = .lit then s.litAt t.id else none

/-- The reason on a taken PICKED (R121): CLAMPED when the count exceeds the units remaining. -/
def pickedReason (t : Task) (count : Nat) : Reason := if t.quantity - t.confirmed < count then .clamped else .ok

/-- The put controller's answer to PICKED (R121): the first failing check decides. -/
def ownPicked (id : TaskId) (count : Byte) (s : State) : Answer :=
  if id = 0 ∨ count = 0 ∨ 99 < count.toNat then .refused .range
  else
    match s.task? id with
    | none => .refused (if s.endedLast id then .already else .unknown)
    | some t =>
      match s.litWindow t with
      | none => .refused .notLit
      | some w =>
        if (s.win w).guardTimer.isSome then .refused .early
        else .taken (s.confirm w t count.toNat).settle (pickedReason t count.toNat)

/-- PICKED (R121, R122). -/
def execPicked (r : Req) (id : TaskId) (count : Byte) (s : State) : Host.Outcome State Fault Refusal :=
  .next (s.serve .picked r (ownPicked id count))

/-- SHORTS rises by 1 (R125, R151). -/
def State.countShort (s : State) : State :=
  { s with counters := { s.counters with shorts := raise s.counters.shorts 1 } }

/-- The put controller's answer to SHORT (R125). -/
def ownShort (id : TaskId) (s : State) : Answer :=
  if id = 0 then .refused .range
  else
    match s.task? id with
    | none => .refused .unknown
    | some t =>
      match s.litWindow t with
      | none => .refused .notLit
      | some _ => .taken (s.countShort.endTask .short id).settle .ok

/-- SHORT (R125). -/
def execShort (r : Req) (id : TaskId) (s : State) : Host.Outcome State Fault Refusal :=
  .next (s.serve .short r (ownShort id))

/-- The window at whose level 0 a tote stands (R127). -/
def State.topAt (s : State) (id : ToteId) : Option Win :=
  if s.top? .w0 = some id then some .w0 else if s.top? .w1 = some id then some .w1 else none

/-- The effects of TOTEBAD in the order of R127. -/
def State.condemn (s : State) (w : Win) (id : ToteId) : State :=
  let t := s.markFinished w
  (t.endAll (State.endTask (.failed .toteBad)) (ascendingIds (s.tasksOf id))).sendIfDue w

/-- The put controller's answer to TOTEBAD (R127). -/
def ownToteBad (id : ToteId) (s : State) : Answer :=
  if id = 0 then .refused .range
  else if (s.tote? id).isNone then .refused .unknown
  else
    match s.topAt id with
    | none => .refused .notLit
    | some w => .taken (s.condemn w id).settle .ok

/-- TOTEBAD (R127). -/
def execToteBad (r : Req) (id : ToteId) (s : State) : Host.Outcome State Fault Refusal :=
  .next (s.serve .toteBad r (ownToteBad id))

/-- The guard of a lighting has run (R120). -/
def execGuardExpiry (w : Win) (s : State) : Host.Outcome State Fault Refusal :=
  .next (if (s.win w).guardTimer.isSome then s.updWin w fun x => { x with guardTimer := none } else s)

/-- The confirm period of the lit task runs out (R128): OVERDUE, its notices, the timer absent. -/
def State.overdue (s : State) (w : Win) (t : Task) : State :=
  ((s.updWin w fun x => { x with confirmTimer := none }).updTask t.id fun x => { x with overdue := true }).noteBoth
    (.overdue t.id w (s.positionOf t.orderTote) t.confirmed t.quantity)

/-- The confirm timer of a window's lit task expires (R128). -/
def execConfirmPeriodExpiry (w : Win) (s : State) : Host.Outcome State Fault Refusal :=
  .next (if (s.win w).confirmTimer.isSome then
      match (s.win w).lit.bind s.task? with
      | some t => (s.overdue w t).conclude
      | none => s
    else s)

end Sys2Proof.Machine
end

