-- ==== Sys2Proof/Machine/ReadRequests.lean ====
section
/-! DEFINITION. READ, LIST and CURSOR (R171 to R173) with the bytes of every READ result and LIST entry
(R37, R56, R75, R100, R134, R146, R152, R155, R162; log entries 10 and 11). -/

namespace Sys2Proof.Machine

/-- Remaining whole seconds of a timer of up to 255 s (R171). -/
def secs1 (ms : Ms) : List Byte := num1 (wholeSeconds ms)

/-- Remaining whole seconds of a longer timer (R171). -/
def secs2 (ms : Ms) : List Byte := num2 (wholeSeconds ms)

/-- The derived state of a window (R79), coded in its order: EMPTY, FETCHING, PRESENTING, PREEMPTING. -/
def Window.derivedCode (x : Window) : Nat :=
  match x.lift, x.fetch with
  | [], none => 0
  | [], some _ => 1
  | _ :: _, none => 2
  | _ :: _, some _ => 3

/-- Members of a set in one byte, bit k for the member at place k (R173). -/
def bitSet (bs : List Bool) : List Byte := num1 (bs.foldr (fun b n => (if b then 1 else 0) + 2 * n) 0)

/-- A link that owns a watch entry: order link 0, bench link 1 (R146). -/
def ownerCode : NoticeLink → Nat
  | .order => 0
  | .bench => 1

/-- Bench modes in the order of R134. -/
def Mode.code : Mode → Nat
  | .run => 0
  | .drain => 1
  | .service => 2

/-- Load causes in the order of R162. -/
def LoadCause.code : LoadCause → Nat
  | .loaded => 0
  | .noMark => 1
  | .badCheck => 2
  | .badValue => 3

/-- Store outcomes in the order of R162. -/
def StoreOutcome.code : StoreOutcome → Nat
  | .none => 0
  | .good => 1
  | .failed => 2

/-- Fetch kinds in the order of R78. -/
def FetchKind.code : FetchKind → Nat
  | .plain => 0
  | .preempting => 1

/-- Units of settings in the order the table of R153 first lists them (R155). -/
def SettingUnit.code : SettingUnit → Nat
  | .sixteenthDegree => 0
  | .epPerSecond => 1
  | .eighths => 2
  | .times256Ep => 3
  | .sixteenthsOfLimit => 4
  | .periodCode => 5
  | .guardCode => 6
  | .seconds => 7
  | .tenSeconds => 8
  | .rushFlag => 9
  | .speedCode => 10
  | .lockFlag => 11

/-- The sensor's fields of the bench status item (R37). -/
def Exposure.bytes (e : Exposure) : List Byte :=
  (match e.sensor with
    | .valid => num1 0 ++ absent 1
    | .fault c => num1 1 ++ num1 c.code) ++
  orAbsent 2 signed2 e.lastRaw ++ orAbsent 2 signed2 e.corrected ++ num1 e.band.val

/-- The settings fields of the bench status item (R162). -/
def SettingsStore.bytes (st : SettingsStore) : List Byte :=
  flag st.defaulted ++ num1 st.loadCause.code ++ flag st.serviceSampled ++ num1 st.work[28].toNat ++
    flag st.job.isSome ++ num1 st.lastStore.code

/-- A watch entry in the bench status item (R146): enabled and its owner. -/
def WatchEntry.bytes (e : WatchEntry) : List Byte := flag e.owner.isSome ++ orAbsent 1 (fun l => num1 (ownerCode l)) e.owner

/-- The bench status item (R171, item 0): R37, R75, R100, R56, R134, R146, R162. -/
def State.benchStatus (s : State) : List Byte :=
  s.exposure.bytes ++ (allPos.flatMap fun p => num1 (s.pos p).state.code) ++
    num1 (s.win .w0).derivedCode ++ flag (s.held .w0) ++ num1 (s.win .w1).derivedCode ++ flag (s.held .w1) ++
    num1 s.tasks.length ++ num1 s.mode.code ++ flag s.holdLine ++
    s.watches[0].bytes ++ s.watches[1].bytes ++ s.watches[2].bytes ++ s.watches[3].bytes ++ s.settings.bytes

/-- The lift stack as a list of tote ids with their levels (R100, R173). -/
def liftBytes (lift : List ToteId) : List Byte :=
  num1 lift.length ++ ((lift.zip (List.range lift.length)).flatMap fun e => bytes4 e.1 ++ num1 e.2)

/-- The timer of a fetch that is present: the fetch timer or the settle timer (R100). -/
def Fetch.timer (f : Fetch) : Option Ms :=
  match f.fetchTimer with
  | some t => some t
  | none => f.settleTimer

/-- A fetch in flight in the window status item (R100). -/
def Fetch.bytes (f : Fetch) : List Byte :=
  bytes4 f.tote ++ num1 f.kind.code ++ flag f.atwinSeen ++ flag f.presRisen ++ orAbsent 1 secs1 f.timer

/-- The window status item (R100). -/
def State.windowStatus (s : State) (w : Win) : List Byte :=
  let x := s.win w
  num1 x.derivedCode ++ num1 x.liftLimit ++ liftBytes x.lift ++ orAbsent 1 (fun t => flag t.finished) (s.topTote? w) ++
    orAbsent 8 Fetch.bytes x.fetch ++ orAbsent 5 (fun r : Return => bytes4 r.tote ++ secs1 r.timer) x.ret ++
    num1 x.confirms ++ bitSet [x.holds.order, x.holds.transport, x.holds.bench, x.holds.line, x.holds.fault] ++
    orAbsent 1 (fun c => num1 c.code) x.faultCause ++ orAbsent 1 secs1 x.blockTimer ++ flag x.present ++
    orAbsent 2 bytes2 x.lit

/-- The number of live tasks naming the order tote of a binding (R75). -/
def State.tasksTo (s : State) (b : Option Binding) : Nat :=
  match b with
  | some b => (s.tasks.filter fun t => t.orderTote == b.orderTote).length
  | none => 0

/-- The position status item (R75). -/
def State.positionStatus (s : State) (p : Pos) : List Byte :=
  let q := s.pos p
  num1 q.state.code ++ orAbsent 1 (fun b => num1 b.code) q.beforePull ++
    orAbsent 6 (fun b : Binding => bytes4 b.orderTote ++ num1 (classCode b.cls) ++ num1 b.capacity) q.binding ++
    num1 q.fill ++ num1 q.floor ++ num1 (lockCode q.lock) ++ flag q.present ++ orAbsent 1 secs1 q.swapTimer ++
    num1 (s.tasksTo q.binding) ++ num1 q.light.mode.readCode ++ flag q.pressed

/-- The tote record item (R1, R11, R37). A field that two of them list (account, carry, URGENT, EXPIRED, orphan timer) is
sent once, at its first place: DESIGN CHOICE, log entry 10. -/
def State.toteItem (s : State) (t : Tote) : List Byte :=
  bytes4 t.id ++ num1 (classCode t.cls) ++ num1 t.state.code ++ placeBytes t.state (s.levelOf t) ++ num3 t.account ++
    num1 t.carry ++ flag t.urgent ++ flag t.expired ++ flag t.rush ++ flag t.finished ++ orAbsent 2 secs2 t.orphanTimer ++
    num3 (s.headroom t)

/-- The window and lift level of the tote of an ACTIVE or LIT task (R56). -/
def State.taskPlace (s : State) (t : Task) : List Byte :=
  match t.state with
  | .active => orAbsent 2 (fun x : Tote => placeBytes x.state (s.levelOf x)) (s.tote? t.tote)
  | .lit => orAbsent 2 (fun x : Tote => placeBytes x.state (s.levelOf x)) (s.tote? t.tote)
  | _ => absent 2

/-- What the put controller adds for a LIT task (R130): the confirm timer, and whether the guard runs. -/
def State.taskTimers (s : State) (t : Task) : List Byte :=
  match s.litAt t.id with
  | some w => orAbsent 2 secs2 (s.win w).confirmTimer ++ flag (s.win w).guardTimer.isSome
  | none => absent 3

/-- The task record item (R39, R56, R130). A field that two of them list (state, confirmed count, flags, await timer) is
sent once, at its first place: DESIGN CHOICE, log entry 10. The SKU 0 of a task without one is sent as 0, not as all ones (R39 beside
R171): DESIGN CHOICE, log entry 28. -/
def State.taskItem (s : State) (t : Task) : List Byte :=
  bytes2 t.id ++ bytes4 t.tote ++ bytes4 t.orderTote ++ bytes3 t.sku ++ num1 (classCode t.cls) ++ num1 t.quantity ++
    num1 t.confirmed ++ num1 t.unitVolume ++ num1 t.crushClass ++ num1 t.state.code ++ orAbsent 2 secs2 t.awaitTimer ++
    flag t.crush ++ flag t.overdue ++ flag t.overcount ++ s.taskPlace t ++
    orAbsent 1 (fun p => num1 p.val) (s.positionOf t.orderTote) ++ s.taskTimers t

/-- The counters item (R152). -/
def Counters.bytes (c : Counters) : List Byte :=
  bytes4 c.presentations ++ bytes4 c.units ++ bytes4 c.shorts ++ bytes4 c.expiries

/-- The value of a setting (R155, R173): signed in two bytes, or in the fewest bytes that hold its range. -/
def State.settingValue (s : State) (n : Fin 29) : List Byte :=
  if n.val ≤ 2 ∨ n.val = 4 then signed2 (s.signedSetting n)
  else if (itemRow n).hi ≤ 255 then num1 (s.setting n) else num2 (s.setting n)

/-- The setting item: value and unit (R155). -/
def State.settingItem (s : State) (n : Fin 29) : List Byte := s.settingValue n ++ num1 (itemRow n).unit.code

/-- What a READ returns (R171), or the reason it is refused. -/
def State.readItem (s : State) (item : Byte) (index : BitVec 32) : Except Reason (List Byte) :=
  match item.toNat with
  | 0 => .ok s.benchStatus
  | 1 => if index = 0 then .ok (s.windowStatus .w0) else if index = 1 then .ok (s.windowStatus .w1) else .error .range
  | 2 => if h : index.toNat < 6 then .ok (s.positionStatus ⟨index.toNat, h⟩) else .error .range
  | 3 => match s.tote? index with
    | some t => .ok (s.toteItem t)
    | none => .error .unknown
  | 4 => match s.tasks.find? fun t => t.id.toNat == index.toNat with
    | some t => .ok (s.taskItem t)
    | none => .error .unknown
  | 5 => .ok s.counters.bytes
  | 6 => if h : index.toNat < 29 then .ok (s.settingItem ⟨index.toNat, h⟩) else .error .range
  | _ => .error .range

/-- The answer to READ (R171): it changes no state but the reply. -/
def ownRead (item : Byte) (index : BitVec 32) (s : State) : Answer :=
  match s.readItem item index with
  | .ok bytes => .portOnly s .ok bytes
  | .error r => .refused r

/-- READ (R171). -/
def execRead (r : Req) (item : Byte) (index : BitVec 32) (s : State) : Host.Outcome State Fault Refusal :=
  .next (s.serve .read r (ownRead item index))

/-- A task's LIST entry (R172): task id, state and tote id. -/
def Task.entry (t : Task) : List Byte := bytes2 t.id ++ num1 t.state.code ++ bytes4 t.tote

/-- A tote's LIST entry (R172): tote id, state, place and its four flags (in one byte, log entry 11). -/
def State.toteEntry (s : State) (t : Tote) : List Byte :=
  bytes4 t.id ++ num1 t.state.code ++ placeBytes t.state (s.levelOf t) ++ bitSet [t.urgent, t.expired, t.rush, t.finished]

/-- The live records of a cursor's table at or above its index, in ascending number, each with its entry. -/
def State.recordsFrom (s : State) (c : Cursor) : List (Nat × List Byte) :=
  match c.kind with
  | .tasks => (s.tasks.map fun t : Task => (t.recNo, t.entry)).filter fun e => decide (c.index ≤ e.1)
  | .totes => (s.totes.map fun t : Tote => (t.recNo, s.toteEntry t)).filter fun e => decide (c.index ≤ e.1)

/-- Cursor kinds in the order of R163. -/
def CursorKind.code : CursorKind → Nat
  | .tasks => 0
  | .totes => 1

/-- The cursor index after a LIST (R172): 0 at END, else the number after the last record returned. -/
def listIndex (records : List (Nat × List Byte)) : Nat :=
  if (records.drop 4).isEmpty then 0
  else match (records.take 4).getLast? with
    | some e => e.1 + 1
    | none => 0

/-- The result of a LIST (R172): count and entries, kind, END, the cursor index after it (log entry 11). -/
def listResult (kind : CursorKind) (records : List (Nat × List Byte)) : List Byte :=
  num1 (records.take 4).length ++ ((records.take 4).flatMap fun e => e.2) ++ num1 kind.code ++
    flag (records.drop 4).isEmpty ++ num1 (listIndex records)

/-- Set the cursor of a link (R172). -/
def State.setCursor (s : State) (l : Link) (c : Cursor) : State := s.updPort l fun p => { p with cursor := c }

/-- The answer to LIST (R172). -/
def ownList (l : Link) (s : State) : Answer :=
  let c := (s.port l).cursor
  .portOnly (s.setCursor l ⟨c.kind, listIndex (s.recordsFrom c)⟩) .ok (listResult c.kind (s.recordsFrom c))

/-- LIST (R172). -/
def execList (r : Req) (s : State) : Host.Outcome State Fault Refusal := .next (s.serve .list r (ownList r.link))

/-- The greatest index of a cursor kind (R172). -/
def CursorKind.top : CursorKind → Nat
  | .tasks => 63
  | .totes => 15

/-- The answer to CURSOR (R172). -/
def ownCursor (l : Link) (kind index : Byte) (s : State) : Answer :=
  match cursorKindOf kind with
  | none => .refused .range
  | some k => if k.top < index.toNat then .refused .range else .portOnly (s.setCursor l ⟨k, index.toNat⟩) .ok []

/-- CURSOR (R172). -/
def execCursor (r : Req) (kind index : Byte) (s : State) : Host.Outcome State Fault Refusal :=
  .next (s.serve .cursor r (ownCursor r.link kind index))

end Sys2Proof.Machine
end

