-- ==== Sys2Proof/Machine/SettingsRequests.lean ====
section
/-! DEFINITION. The settings store: SETITEM, STORE, LOCK and the completion of a store (R154 to R159). -/

namespace Sys2Proof.Machine

/-- The item of a SETITEM: 0 to 27 (R154, check 3). -/
def writableItem (b : Byte) : Option (Fin 29) := if h : b.toNat < 28 then some ⟨b.toNat, by omega⟩ else none

/-- The working copy with item `n` at value `v` (R154). Item 4 at 0 has the word 0, also where a loaded trim of sign set
and magnitude 0 is held: DESIGN CHOICE, log entry 29. -/
def State.writeItem (s : State) (n : Fin 29) (v : Int) : State :=
  s.updSettings fun st => { st with work := st.work.set n (itemWord n v) }

/-- The settings store's answer to SETITEM (R154): the first failing check decides. -/
def ownSetItem (item : Byte) (value : BitVec 16) (s : State) : Answer :=
  if s.mode ≠ .service then .refused .mode
  else if s.settings.job.isSome then .refused .busy
  else
    match writableItem item with
    | none => .refused .range
    | some n =>
      let asked := requestValue n value
      let v := clampItem n asked
      if n.val ≤ 16 ∧ s.setting 28 = 1 then .refused .locked
      else if n.val ≤ 2 ∧ bandsRise (s.writeItem n v).settings.work = false then .refused .order
      else .portOnly (s.writeItem n v) (if v = asked then .ok else .clamped) []

/-- SETITEM (R154). -/
def execSetItem (r : Req) (item : Byte) (value : BitVec 16) (s : State) : Host.Outcome State Fault Refusal :=
  .next (s.serve .setItem r (ownSetItem item value))

/-- A store goes in flight (R158): the snapshot and the check word are taken, the reply tag kept. -/
def State.beginStore (s : State) (tag : Tag) : State :=
  s.updSettings fun st => { st with job := some ⟨storeWords st.work, tag⟩ }

/-- The settings store's answer to STORE (R158). -/
def ownStore (tag : Tag) (s : State) : Answer :=
  if s.mode ≠ .service then .refused .mode
  else if s.settings.job.isSome then .refused .busy
  else .deferred (s.beginStore tag)

/-- STORE (R158). -/
def execStore (r : Req) (s : State) : Host.Outcome State Fault Refusal := .next (s.serve .store r (ownStore r.tag))

/-- The settings store's answer to LOCK (R156). -/
def ownLock (s : State) : Answer :=
  if s.mode ≠ .service then .refused .mode
  else if s.settings.job.isSome then .refused .busy
  else .portOnly (s.writeItem 28 1) .ok []

/-- LOCK (R156). -/
def execLock (r : Req) (s : State) : Host.Outcome State Fault Refusal := .next (s.serve .lock r ownLock)

/-- The reply of a store at its completion (R159). -/
def storeReply (job : StoreJob) (good : Bool) : Reply :=
  { taken := good, tag := job.tag, kind := ReqKind.store.code, reason := if good then .ok else .storeFail, result := [] }

/-- A store completes with the words read back (R159); its reply waits for the order link's slot. -/
def State.completeStore (s : State) (job : StoreJob) (readBack : Vector SWord 31) : State :=
  let good := readBack == job.words
  s.updSettings fun st => { st with
    job := none
    image := readBack
    lastStore := if good then .good else .failed
    defaulted := if good then false else st.defaulted
    faultAsserted := if good && st.defaulted then false else st.faultAsserted
    waitingReply := if job.tag = Config.noReply then st.waitingReply else some (storeReply job good) }

/-- The completion of the store in flight (R159). -/
def execStoreCompletion (readBack : Vector SWord 31) (s : State) : Host.Outcome State Fault Refusal :=
  .next (match s.settings.job with
    | none => s
    | some job => (s.completeStore job readBack).pump .order)

end Sys2Proof.Machine
end

