-- ==== Sys2Proof/Machine/StartUp.lean ====
section
/-! DEFINITION. Supply, reset line and start-up: POWER_ON, RSTN_FALL, RESET_QUALIFIED, RSTN_RISE, SETTINGS_LOAD_END,
LOSS_OF_SUPPLY (R144, R145, R160, R161). -/

namespace Sys2Proof.Machine

/-- The levels of the lines as the part holds them. -/
def State.levels (s : State) : Pins :=
  { pres := ⟨s.windows.w0.present, s.windows.w1.present⟩,
    ppos := #v[(s.pos 0).present, (s.pos 1).present, (s.pos 2).present, (s.pos 3).present, (s.pos 4).present, (s.pos 5).present],
    btn := #v[(s.pos 0).pressed, (s.pos 1).pressed, (s.pos 2).pressed, (s.pos 3).pressed, (s.pos 4).pressed, (s.pos 5).pressed],
    holdLow := s.holdLine, service := s.settings.serviceSampled }

/-- The image after whatever stops the part: a store in flight is cut short where it stands (R160). -/
def State.imageLeft (s : State) (cut : StoreCut) : Vector SWord 31 :=
  match s.settings.job with
  | some job => cutImage job cut
  | none => s.settings.image

/-- How far a store in flight had gone when nothing but a free value says so (R160, log entry 8). -/
def State.freeCut (s : State) : StoreCut :=
  match s.settings.job with
  | none => .inReadBack
  | some _ =>
    match Config.cutStage s.free % 4 with
    | 0 => .inWords (Fin.ofNat 29 (Config.cutDone s.free)) (Config.cutWord s.free)
    | 1 => .afterWords (Config.freeBit s.free)
    | 2 => .atMark (Config.freeBit s.free)
    | _ => .inReadBack

/-- Power-on begins start-up (R145): every block takes its power-on values, the counters are 0 (R152), the settings
load begins with SERVICE sampled (R161). The image is kept; POWER_ON with supply present stands for a loss of supply and
its return, which cuts a store in flight short as R160 gives (log entry 17). -/
def execPowerOn (pins : Pins) (s : State) : Host.Outcome State Fault Refusal :=
  .next (startUp pins (s.imageLeft s.freeCut) ⟨0, 0, 0, 0⟩ (s.free + 1) s.pending)

/-- A fall of RSTn starts the 2 ms qualification (R144). -/
def execRstnFall (s : State) : Host.Outcome State Fault Refusal :=
  .next (match s.phase, s.rstLine with
    | .loading, .idle => { s with rstLine := .low Config.resetMs }
    | .running, .idle => { s with rstLine := .low Config.resetMs }
    | _, _ => s)

/-- The part in a qualified reset (R144): every block stopped and at its reset values, queues and frames lost, a store
cut short, LITE lines off, FAULTn released; the counters keep their values (R152). -/
def State.inReset (s : State) (cut : StoreCut) : State :=
  { startUp s.levels (s.imageLeft cut) s.counters s.free s.pending with phase := .inReset, rstLine := .low 0 }

/-- RSTn has been low for 2 ms: the reset is qualified and taken (R144). Without a fall of RSTn there is none. -/
def execResetQualified (cut : StoreCut) (s : State) : Host.Outcome State Fault Refusal :=
  .next (match s.phase, s.rstLine with
    | .loading, .low _ => s.inReset cut
    | .running, .low _ => s.inReset cut
    | _, _ => s)

/-- RSTn rises (R144, R145): a pulse not qualified has no effect; after a qualified reset start-up begins afresh, the
lines sampled and a new load begun. -/
def execRstnRise (pins : Pins) (s : State) : Host.Outcome State Fault Refusal :=
  .next (match s.phase with
    | .inReset => startUp pins s.settings.image s.counters s.free s.pending
    | .off => s
    | _ => { s with rstLine := .idle })

/-- A speed item as a speed code (R163). -/
def speedOf (w : SWord) : Fin 4 := ⟨w.toNat % 4, Nat.mod_lt _ (by decide)⟩

/-- The working copy a load gives (R161): the image's words if every test passes, else the defaults; COLD_LOCK is 0
when SERVICE was sampled asserted. -/
def loadedWords (image : Vector SWord 31) (service : Bool) : Vector SWord 29 :=
  let ws := if loadTest image = .loaded then imageItems image else defaultWords
  if service then ws.set 28 0 else ws

/-- The end of the settings load (R161, R162, R145, R163). -/
def State.endLoad (s : State) : State :=
  let ws := loadedWords s.settings.image s.settings.serviceSampled
  { s with
    phase := .running
    settings := { s.settings with
      work := ws
      loadCause := loadTest s.settings.image
      defaulted := decide (loadTest s.settings.image ≠ .loaded)
      faultAsserted := decide (loadTest s.settings.image ≠ .loaded)
      lastStore := .none }
    exposure := { s.exposure with interval := some Config.accrualMs }
    ports := ⟨{ s.ports.order with speed := speedOf ws[25] }, { s.ports.transport with speed := speedOf ws[26] },
      { s.ports.bench with speed := speedOf ws[27] }⟩ }

/-- The load ends (R161): only while one runs. -/
def execSettingsLoadEnd (s : State) : Host.Outcome State Fault Refusal :=
  .next (if s.phase = .loading then s.endLoad else s)

/-- The supply is lost (R160): the part stops, a store in flight is cut short, everything but the image is lost. -/
def execLossOfSupply (cut : StoreCut) (s : State) : Host.Outcome State Fault Refusal :=
  .next (if s.phase = .off then s
    else { startUp s.levels (s.imageLeft cut) s.counters s.free s.pending with phase := .off })

end Sys2Proof.Machine
end

