-- ==== Sys2Proof/Machine/TaskRequests.lean ====
section
/-! DEFINITION. POST, WITHDRAW and the await deadline (R42, R43, R48, R49). -/

namespace Sys2Proof.Machine

/-- Check 2 of R42: the ranges of a POST's fields. -/
def postInRange (task : TaskId) (tote : ToteId) (orderTote : OrderToteId) (quantity unitVolume crushClass : Byte) : Bool :=
  task != 0 && tote != 0 && orderTote != 0 && decide (1 ≤ quantity.toNat ∧ quantity.toNat ≤ 99) &&
    decide (1 ≤ unitVolume.toNat ∧ unitVolume.toNat ≤ 15) && decide (crushClass.toNat ≤ 3)

/-- The state of a task by its tote at the POST (R43). -/
def State.postState (s : State) (tote : ToteId) : TaskState :=
  match s.tote? tote with
  | none => .waiting
  | some t =>
    match t.state with
    | .inLane _ => .ready
    | .fetching _ => .ready
    | .onLift _ => .active
    | .leavingLane _ => .waiting
    | .leavingWin _ => .waiting

/-- The record an accepted POST makes (R43): the lowest-numbered free record (R172), nothing confirmed, no flag. -/
def State.newTask (s : State) (task : TaskId) (tote : ToteId) (orderTote : OrderToteId) (sku : Sku) (cls : TempClass)
    (quantity unitVolume crushClass : Byte) : Task :=
  { recNo := lowestFree (s.tasks.map fun t => t.recNo), id := task, tote := tote, orderTote := orderTote, sku := sku,
    cls := cls, quantity := quantity.toNat, confirmed := 0, unitVolume := unitVolume.toNat,
    crushClass := crushClass.toNat, state := s.postState tote,
    awaitTimer := if s.postState tote = .waiting then some s.awaitMs else none,
    crush := false, overdue := false, overcount := false }

/-- The effects of an accepted POST (R43) before the windows act: the record; an orphan timer of its tote stops (R11). -/
def State.postTask (s : State) (t : Task) : State :=
  ({ s with tasks := insertByNo Task.recNo t s.tasks }).updTote t.tote fun x => { x with orphanTimer := none }

/-- The task table's answer to POST (R42): the first failing check decides. -/
def ownPost (task : TaskId) (tote : ToteId) (orderTote : OrderToteId) (sku : Sku)
    (cls quantity unitVolume crushClass : Byte) (s : State) : Answer :=
  if s.mode = .service then .refused .mode
  else
    match classOf cls with
    | none => .refused .range
    | some c =>
      if !postInRange task tote orderTote quantity unitVolume crushClass then .refused .range
      else if (s.task? task).isSome then .refused .duplicate
      else if Config.taskRecords ≤ s.tasks.length then .refused .full
      else if (s.tote? tote).any fun t => t.expired then .refused .expired
      else if (s.tote? tote).any fun t => t.cls != c then .refused .cls
      else
        let at? := (s.positionOf orderTote).map s.pos
        if at?.any fun q => q.binding.any fun b => c.exceeds b.cls then .refused .cls
        else if at?.any fun q => q.state == .closing || q.state == .swapping then .refused .state
        else .taken (s.postTask (s.newTask task tote orderTote sku c quantity unitVolume crushClass)).settle .ok

/-- POST (R42, R43). -/
def execPost (r : Req) (task : TaskId) (tote : ToteId) (orderTote : OrderToteId) (sku : Sku)
    (cls quantity unitVolume crushClass : Byte) (s : State) : Host.Outcome State Fault Refusal :=
  .next (s.serve .post r (ownPost task tote orderTote sku cls quantity unitVolume crushClass))

/-- The task table's answer to WITHDRAW (R49). -/
def ownWithdraw (task : TaskId) (s : State) : Answer :=
  if (s.task? task).isSome then .taken (s.endTask .cancelled task).settle .ok else .refused .unknown

/-- WITHDRAW (R49). -/
def execWithdraw (r : Req) (task : TaskId) (s : State) : Host.Outcome State Fault Refusal :=
  .next (s.serve .withdraw r (ownWithdraw task))

/-- A task's await timer expires (R48): the task ends FAILED(NOT_DELIVERED). A timer that does not run does not expire. -/
def execAwaitExpiry (task : TaskId) (s : State) : Host.Outcome State Fault Refusal :=
  .next (if (s.task? task).any fun t => t.awaitTimer.isSome then
      (s.endTask (.failed .notDelivered) task).conclude else s)

end Sys2Proof.Machine
end

