-- ==== Sys2Proof/Machine/ToteRequests.lean ====
section
/-! DEFINITION. The lane side of a tote's life: TOTEIN, TOTEOUT, RUSH, GONE, the orphan expiry and the lane return
timeout (R6 to R15, R33, R96, R110). -/

namespace Sys2Proof.Machine

/-- The record an accepted TOTEIN makes (R7, step 1; R33): the lowest-numbered free record (R172). -/
def State.newTote (s : State) (id : ToteId) (slot : Slot) (cls : TempClass) (brought : BitVec 24) : Tote :=
  { recNo := lowestFree (s.totes.map fun t => t.recNo), id := id, cls := cls, state := .inLane slot,
    account := if cls = .ambient then 0 else brought.toNat, carry := 0, urgent := false, expired := false,
    rush := false, finished := false, orphanTimer := none, laneReturnTimer := none }

/-- Steps 1 and 2 of R7. -/
def State.admitTote (s : State) (t : Tote) (slot : Slot) : State :=
  { (s.setSlot slot (some t.id)) with totes := insertByNo Tote.recNo t s.totes, arrival := s.arrival ++ [t.id] }

/-- The class check at arrival (R8): tasks of another class end FAILED(CLASS) in ascending task id. -/
def State.classCheckTote (s : State) (id : ToteId) (c : TempClass) : State :=
  s.endAll (State.endTask (.failed .cls)) (ascendingIds ((s.tasksOf id).filter fun t => t.cls != c))

/-- The effects of an accepted TOTEIN in the order of R7. -/
def State.arrive (s : State) (t : Tote) (slot : Slot) : State :=
  let s := s.admitTote t slot
  let s := s.classCheckTote t.id t.cls
  let s := s.tasksToReady t.id
  let s := s.thresholdTest t.id
  s.startOrphan t.id

/-- The tote table's answer to TOTEIN (R6): the first failing check decides. -/
def ownToteIn (id : ToteId) (slot cls : Byte) (brought : BitVec 24) (s : State) : Answer :=
  if id = 0 then .refused .range
  else
    match slotOf slot, classOf cls with
    | some l, some c =>
      if (s.tote? id).isSome then .refused .duplicate
      else if s.lane[l].isSome then .refused .slotBusy
      else .taken (s.arrive (s.newTote id l c brought) l).settle .ok
    | _, _ => .refused .range

/-- TOTEIN (R6, R7). -/
def execToteIn (r : Req) (id : ToteId) (slot cls : Byte) (brought : BitVec 24) (s : State) :
    Host.Outcome State Fault Refusal :=
  .next (s.serve .toteIn r (ownToteIn id slot cls brought))

/-- The tote table's answer to TOTEOUT (R10). -/
def ownToteOut (id : ToteId) (s : State) : Answer :=
  match s.tote? id with
  | none => .refused .unknown
  | some t =>
    match t.state with
    | .inLane slot => .taken ((((s.setSlot slot none).leaveArrival id).tasksToWaiting id).dropTote id) .ok
    | _ => .refused .state

/-- TOTEOUT (R10). -/
def execToteOut (r : Req) (id : ToteId) (s : State) : Host.Outcome State Fault Refusal :=
  .next (s.serve .toteOut r (ownToteOut id))

/-- The tote table's answer to RUSH (R110). -/
def ownRush (id : ToteId) (s : State) : Answer :=
  if id = 0 then .refused .range
  else
    match s.tote? id with
    | none => .refused .unknown
    | some t =>
      match t.state with
      | .inLane _ => .taken (s.updTote id fun x => { x with rush := true }).settle .ok
      | _ => .refused .state

/-- RUSH (R110). -/
def execRush (r : Req) (id : ToteId) (s : State) : Host.Outcome State Fault Refusal :=
  .next (s.serve .rush r (ownRush id))

/-- GONE of a tote LEAVING from the lane (R14). -/
def State.goneFromLane (s : State) (t : Tote) (slot : Slot) : State :=
  ((s.setSlot slot none).dropTote t.id).offer (toteEvent .toteReturned t none)

/-- GONE of a tote LEAVING from a window (R96), to the end of the return (R98). -/
def State.goneFromWindow (s : State) (t : Tote) (w : Win) : State :=
  (((s.updWin w fun x => { x with ret := none }).dropTote t.id).offer (toteEvent .toteReturned t (some w))).endReturn w

/-- The owner's answer to GONE (R14, R96). -/
def ownGone (id : ToteId) (s : State) : Answer :=
  match s.tote? id with
  | none => .refused .unknown
  | some t =>
    match t.state with
    | .leavingLane slot => .taken (s.goneFromLane t slot) .ok
    | .leavingWin w => .taken (s.goneFromWindow t w).settle .ok
    | _ => .refused .state

/-- GONE (R14, R96). -/
def execGone (r : Req) (id : ToteId) (s : State) : Host.Outcome State Fault Refusal :=
  .next (s.serve .gone r (ownGone id))

/-- An orphan timer expires: the tote is sent back from the lane (R12). -/
def execOrphanExpiry (id : ToteId) (s : State) : Host.Outcome State Fault Refusal :=
  .next (if (s.tote? id).any fun t => t.orphanTimer.isSome then (s.laneSendBack id).conclude else s)

/-- A lane return timer expires: the slot is emptied, the record removed, RETURN_UNCONFIRMED queued (R15). -/
def execLaneReturnTimeout (id : ToteId) (s : State) : Host.Outcome State Fault Refusal :=
  .next (match s.tote? id with
    | none => s
    | some t =>
      match t.state, t.laneReturnTimer with
      | .leavingLane slot, some _ =>
        (((s.setSlot slot none).dropTote id).noteOrder (.returnUnconfirmed id (.lane slot))).conclude
      | _, _ => s)

end Sys2Proof.Machine
end

