-- ==== Sys2Proof/Machine/WindowRequests.lean ====
section
/-! DEFINITION. The windows: ATWIN, the rises and falls of PRES, the settle, fetch, return and block timers
(R80, R83 to R88, R90, R93, R97). -/

namespace Sys2Proof.Machine

/-- An accepted ATWIN (R83): ATWIN-seen, the fetch timer stopped, then delivery or the settle timer. -/
def State.seeAtWin (s : State) (w : Win) (f : Fetch) : State :=
  if f.presRisen then
    ((s.updWin w fun x => { x with fetch := some { f with atwinSeen := true, fetchTimer := none } }).deliver w false).settle
  else
    s.updWin w fun x => { x with
      fetch := some { f with atwinSeen := true, fetchTimer := none, settleTimer := some Config.settleMs } }

/-- The window controller's answer to ATWIN (R83): the first failing check decides. -/
def ownAtWin (id : ToteId) (window : Byte) (s : State) : Answer :=
  match winOf window with
  | none => .refused .range
  | some w =>
    if id = 0 then .refused .range
    else
      match s.tote? id with
      | none => .refused .unknown
      | some t =>
        match (s.win w).fetch with
        | none => .refused .state
        | some f =>
          if t.state ≠ .fetching w ∨ f.tote ≠ id then .refused .state
          else if f.atwinSeen then .refused .already
          else .taken (s.seeAtWin w f) .ok

/-- ATWIN (R83). -/
def execAtWin (r : Req) (id : ToteId) (window : Byte) (s : State) : Host.Outcome State Fault Refusal :=
  .next (s.serve .atWin r (ownAtWin id window))

/-- PRES rises (R80): with a fetch in flight PRES-risen becomes yes, and with ATWIN seen the fetch is delivered. -/
def State.presRises (s : State) (w : Win) : State :=
  match (s.win w).fetch with
  | none => s.updWin w fun x => { x with present := true }
  | some f =>
    let t := s.updWin w fun x => { x with present := true, fetch := some { f with presRisen := true } }
    if f.atwinSeen then (t.deliver w false).settle else t

/-- A debounced rise of PRES (R80). -/
def execPresRise (w : Win) (s : State) : Host.Outcome State Fault Refusal :=
  .next (if s.followsLines && !(s.win w).present then (s.presRises w).conclude else s)

/-- PRES falls (R80): PRES-risen becomes no during a fetch; nothing more during a return; a PULLED fault at a PRESENTING
window. -/
def State.presFalls (s : State) (w : Win) : State :=
  match (s.win w).fetch with
  | some f => s.updWin w fun x => { x with present := false, fetch := some { f with presRisen := false } }
  | none =>
    let t := s.updWin w fun x => { x with present := false }
    if (s.win w).ret.isNone && !(s.win w).lift.isEmpty then (t.pulledFault w).settle else t

/-- A debounced fall of PRES (R80). -/
def execPresFall (w : Win) (s : State) : Host.Outcome State Fault Refusal :=
  .next (if s.followsLines && (s.win w).present then (s.presFalls w).conclude else s)

/-- The settle timer expires: the fetch is delivered with a SENSOR fault (R87). -/
def execSettleExpiry (w : Win) (s : State) : Host.Outcome State Fault Refusal :=
  .next (if (s.win w).fetch.any fun f => f.settleTimer.isSome then (s.deliver w true).settle.conclude else s)

/-- The tote of a fetch is given up (R88), in the order of its steps. -/
def State.loseFetch (s : State) (w : Win) (f : Fetch) : State :=
  let t := s.updWin w fun x => { x with fetch := none }
  let t := match s.tote? f.tote with
    | some r => t.noteOrder (.toteLost r.id r.cls r.account w)
    | none => t
  ((t.tasksToWaiting f.tote).dropTote f.tote).takeFault w .fetch f.tote

/-- The fetch timer expires (R88). -/
def execFetchTimeout (w : Win) (s : State) : Host.Outcome State Fault Refusal :=
  .next (match (s.win w).fetch with
    | none => s
    | some f => if f.fetchTimer.isSome then (s.loseFetch w f).settle.conclude else s)

/-- A window gives up waiting for GONE (R97), to the end of the return (R98). -/
def State.loseReturn (s : State) (w : Win) (id : ToteId) : State :=
  (((s.updWin w fun x => { x with ret := none }).dropTote id).noteOrder (.returnUnconfirmed id (.window w))).endReturn w

/-- The return timer of a window expires (R97). -/
def execWindowReturnTimeout (w : Win) (s : State) : Host.Outcome State Fault Refusal :=
  .next (match (s.win w).ret with
    | none => s
    | some r => (s.loseReturn w r.tote).settle.conclude)

/-- The block timer of a window expires: the top tote becomes FINISHED (R92, R93). Under a task lit to a CLOSING position
the timer stands at its end and the expiry comes once nothing is lit: the task stays LIT (R68), nothing is lit on a
FINISHED top (R92), and the tasks of a tote whose block timer ran out are ACTIVE (R46); DEDUCED, log entry 13. -/
def execBlockTimerExpiry (w : Win) (s : State) : Host.Outcome State Fault Refusal :=
  .next (if (s.win w).blockTimer.isSome then
      if (s.win w).lit.isSome then s.updWin w fun x => { x with blockTimer := some 0 }
      else ((s.updWin w fun x => { x with blockTimer := none }).markFinished w).settle.conclude
    else s)

end Sys2Proof.Machine
end

