-- ==== Sys2Proof/Machine/Dispatch.lean ====
section
/-! DEFINITION. One arm per command: the direct call of its meaning. -/

namespace Sys2Proof.Machine

def exec (i : Instr) (s : State) : Host.Outcome State Fault Refusal :=
  match i with
  | .powerOn pins => Sys2Proof.Machine.execPowerOn pins s
  | .rstnFall => Sys2Proof.Machine.execRstnFall s
  | .resetQualified cut => Sys2Proof.Machine.execResetQualified cut s
  | .rstnRise pins => Sys2Proof.Machine.execRstnRise pins s
  | .settingsLoadEnd => Sys2Proof.Machine.execSettingsLoadEnd s
  | .frameIgnoredDuringLoad l => Sys2Proof.Machine.execFrameIgnoredDuringLoad l s
  | .byteStopBitAbort l => Sys2Proof.Machine.execByteStopBitAbort l s
  | .frameLengthAbandon l length => Sys2Proof.Machine.execFrameLengthAbandon l length s
  | .frameCrcDiscard l content crc => Sys2Proof.Machine.execFrameCrcDiscard l content crc s
  | .formatRefusal r kind body => Sys2Proof.Machine.execFormatRefusal r kind body s
  | .frameSent l => Sys2Proof.Machine.execFrameSent l s
  | .post r task tote orderTote sku cls quantity unitVolume crushClass => Sys2Proof.Machine.execPost r task tote orderTote sku cls quantity unitVolume crushClass s
  | .withdraw r task => Sys2Proof.Machine.execWithdraw r task s
  | .rush r tote => Sys2Proof.Machine.execRush r tote s
  | .bind r pos orderTote cls capacity => Sys2Proof.Machine.execBind r pos orderTote cls capacity s
  | .close r pos => Sys2Proof.Machine.execClose r pos s
  | .mode r mode => Sys2Proof.Machine.execMode r mode s
  | .clear r => Sys2Proof.Machine.execClear r s
  | .setItem r item value => Sys2Proof.Machine.execSetItem r item value s
  | .store r => Sys2Proof.Machine.execStore r s
  | .storeCompletion readBack => Sys2Proof.Machine.execStoreCompletion readBack s
  | .lock r => Sys2Proof.Machine.execLock r s
  | .toteIn r tote slot cls brought => Sys2Proof.Machine.execToteIn r tote slot cls brought s
  | .toteOut r tote => Sys2Proof.Machine.execToteOut r tote s
  | .atWin r tote window => Sys2Proof.Machine.execAtWin r tote window s
  | .gone r tote => Sys2Proof.Machine.execGone r tote s
  | .swapped r pos => Sys2Proof.Machine.execSwapped r pos s
  | .picked r task count => Sys2Proof.Machine.execPicked r task count s
  | .short r task => Sys2Proof.Machine.execShort r task s
  | .toteBad r tote => Sys2Proof.Machine.execToteBad r tote s
  | .hold r windows => Sys2Proof.Machine.execHold r windows s
  | .resume r windows => Sys2Proof.Machine.execResume r windows s
  | .read r item index => Sys2Proof.Machine.execRead r item index s
  | .list r => Sys2Proof.Machine.execList r s
  | .cursor r kind index => Sys2Proof.Machine.execCursor r kind index s
  | .watch r entry enabled subject low high combine events windows => Sys2Proof.Machine.execWatch r entry enabled subject low high combine events windows s
  | .accrualIntervalExpiry => Sys2Proof.Machine.execAccrualIntervalExpiry s
  | .accrualEvent reading => Sys2Proof.Machine.execAccrualEvent reading s
  | .orphanExpiry tote => Sys2Proof.Machine.execOrphanExpiry tote s
  | .laneReturnTimeout tote => Sys2Proof.Machine.execLaneReturnTimeout tote s
  | .presRise w => Sys2Proof.Machine.execPresRise w s
  | .presFall w => Sys2Proof.Machine.execPresFall w s
  | .settleExpiry w => Sys2Proof.Machine.execSettleExpiry w s
  | .fetchTimeout w => Sys2Proof.Machine.execFetchTimeout w s
  | .windowReturnTimeout w => Sys2Proof.Machine.execWindowReturnTimeout w s
  | .blockTimerExpiry w => Sys2Proof.Machine.execBlockTimerExpiry w s
  | .swapTimeout p => Sys2Proof.Machine.execSwapTimeout p s
  | .pposFall p => Sys2Proof.Machine.execPposFall p s
  | .pposRise p => Sys2Proof.Machine.execPposRise p s
  | .btnPress p => Sys2Proof.Machine.execBtnPress p s
  | .btnRelease p => Sys2Proof.Machine.execBtnRelease p s
  | .guardExpiry w => Sys2Proof.Machine.execGuardExpiry w s
  | .confirmPeriodExpiry w => Sys2Proof.Machine.execConfirmPeriodExpiry w s
  | .awaitExpiry task => Sys2Proof.Machine.execAwaitExpiry task s
  | .holdLineAsserted => Sys2Proof.Machine.execHoldLineAsserted s
  | .holdLineReleased => Sys2Proof.Machine.execHoldLineReleased s
  | .lossOfSupply cut => Sys2Proof.Machine.execLossOfSupply cut s
  | .startByte l => Sys2Proof.Machine.execStartByte l s

end Sys2Proof.Machine
end

