-- ==== Sys2Proof/Machine/Tick.lean ====
section
/-! DEFINITION. The passing of time on an empty queue (log entry 2): one millisecond at every running timer and light
pattern, or, while a timer stands at its end, the command of its expiry. -/

namespace Sys2Proof.Machine

/-- A tote record one millisecond later. -/
def Tote.tick (t : Tote) : Tote :=
  { t with orphanTimer := tickTimer t.orphanTimer, laneReturnTimer := tickTimer t.laneReturnTimer }

/-- A task record one millisecond later. -/
def Task.tick (t : Task) : Task := { t with awaitTimer := tickTimer t.awaitTimer }

/-- A light one millisecond later: FLASH and FAST patterns repeat within 1 s (R115). -/
def Light.tick (l : Light) : Light :=
  match l.mode with
  | .flash => { l with phase := (l.phase + 1) % 1000 }
  | .fast => { l with phase := (l.phase + 1) % 1000 }
  | _ => l

/-- A position one millisecond later. -/
def Position.tick (q : Position) : Position := { q with swapTimer := tickTimer q.swapTimer, light := q.light.tick }

/-- A fetch in flight one millisecond later. -/
def Fetch.tick (f : Fetch) : Fetch :=
  { f with fetchTimer := tickTimer f.fetchTimer, settleTimer := tickTimer f.settleTimer }

/-- A window one millisecond later. -/
def Window.tick (x : Window) : Window :=
  { x with
    fetch := x.fetch.map Fetch.tick
    ret := x.ret.map fun r => { r with timer := r.timer - 1 }
    blockTimer := tickTimer x.blockTimer
    confirmTimer := tickTimer x.confirmTimer
    guardTimer := tickTimer x.guardTimer }

/-- The reset line one millisecond later (R144). -/
def RstLine.tick : RstLine → RstLine
  | .idle => .idle
  | .low left => .low (left - 1)

/-- Every running timer counts one millisecond (00 section 8). -/
def State.countTimers (s : State) : State :=
  { s with
    rstLine := s.rstLine.tick
    totes := s.totes.map Tote.tick
    exposure := { s.exposure with interval := tickTimer s.exposure.interval }
    tasks := s.tasks.map Task.tick
    positions := ⟨⟨s.positions.toList.map Position.tick⟩, by simp⟩
    windows := ⟨s.windows.w0.tick, s.windows.w1.tick⟩ }

/-- A command if its timer has run out. -/
def whenDue (t : Option Ms) (c : Instr) : List Instr := if timerDue t then [c] else []

/-- The block timer whose expiry can come: none while a task is lit (DEDUCED, log entry 13). -/
def Window.blockEnd (x : Window) : Option Ms := if x.lit.isNone then x.blockTimer else none

/-- The expiries due at a window. -/
def Window.due (x : Window) (w : Win) : List Instr :=
  whenDue (x.fetch.bind fun f => f.fetchTimer) (.fetchTimeout w) ++
    whenDue (x.fetch.bind fun f => f.settleTimer) (.settleExpiry w) ++
    whenDue (x.ret.map fun r => r.timer) (.windowReturnTimeout w) ++ whenDue x.blockEnd (.blockTimerExpiry w) ++
    whenDue x.confirmTimer (.confirmPeriodExpiry w) ++ whenDue x.guardTimer (.guardExpiry w)

/-- The qualification of RSTn, when its 2 ms have passed (R144). -/
def State.resetDue (s : State) : List Instr :=
  match s.rstLine with
  | .low 0 => [.resetQualified s.freeCut]
  | _ => []

/-- The expiries due in the whole part while it runs. -/
def State.due (s : State) : List Instr :=
  s.resetDue ++ whenDue s.exposure.interval .accrualIntervalExpiry ++
    (s.totes.flatMap fun t => whenDue t.orphanTimer (.orphanExpiry t.id) ++
      whenDue t.laneReturnTimer (.laneReturnTimeout t.id)) ++
    (s.tasks.flatMap fun t => whenDue t.awaitTimer (.awaitExpiry t.id)) ++
    s.windows.w0.due .w0 ++ s.windows.w1.due .w1 ++
    (allPos.flatMap fun p => whenDue (s.pos p).swapTimer (.swapTimeout p))

/-- One expiry of those that are due comes next; which of several is open (log entry 2). -/
def State.queueDue (s : State) (cs : List Instr) : State :=
  { s with pending := (cs.drop (Config.duePick s.free % cs.length)).take 1, free := s.free + 1 }

/-- What happens on an empty queue. No timer but the qualification of RSTn runs during the load, none in a reset or
without supply (R144, R145). -/
def State.tick (s : State) : State :=
  match s.phase with
  | .off => s
  | .inReset => s
  | .loading =>
    match s.resetDue with
    | [] => { s with rstLine := s.rstLine.tick }
    | cs => s.queueDue cs
  | .running =>
    match s.due with
    | [] => s.countTimers
    | [c] => { s with pending := [c], free := s.free + 1 }
    | cs => s.queueDue cs

end Sys2Proof.Machine
end

