-- ==== Sys2Proof/Safety.lean ====
section
/-! DEFINITION. What the statements speak of: the part of the state that the work of the tables and windows leaves alone,
what a reply does to a port, and the invariants that every step keeps. -/

namespace Sys2Proof.Machine

/-- The state that the tables, the window controllers and the put controller never write, but for the counters. -/
structure Base where
  phase : Phase
  rstLine : RstLine
  exposure : Exposure
  mode : Mode
  holdLine : Bool
  watches : Vector WatchEntry 4
  settings : SettingsStore
  ports : PerLink Port
  pending : List Instr

/-- The base of a state. -/
def State.base (s : State) : Base :=
  { phase := s.phase, rstLine := s.rstLine, exposure := s.exposure, mode := s.mode, holdLine := s.holdLine,
    watches := s.watches, settings := s.settings, ports := s.ports, pending := s.pending }

/-- A state whose only difference from `s` is what link `l`'s port holds. -/
abbrev sameButPort (l : Link) (s t : State) : Prop := { t with ports := t.ports.set l (s.port l) } = s

/-- Reply `r` is placed on link `l` between `s` and `t` (R166, R167): on the line at once from an idle transmitter, else
in the reply slot behind the frame in progress. -/
def placed (l : Link) (r : Reply) (s t : State) : Prop :=
  match (s.port l).transmitter with
  | none => (t.port l).transmitter = some (.reply r) ∧ (t.port l).replySlot = none
  | some f => (t.port l).transmitter = some f ∧ (t.port l).replySlot = some r

/-- The outbound queue of a link as a list of frames (R163). -/
def State.outbound (s : State) : Link → List OutFrame
  | .order => s.orderQueue.entries.map fun n => .notice n false
  | .bench => s.benchQueue.entries.map fun n => .notice n false
  | .transport => s.directions.map .direction

/-- An idle port has nothing to send (R167): its reply slot and its outbound queue are empty. -/
def State.restsEmpty (s : State) (l : Link) : Bool :=
  (s.port l).transmitter.isSome || ((s.port l).replySlot.isNone && (s.outbound l).isEmpty)

/-- The link ports between events: queues within their places (R168, R169), nothing left to send at an idle
transmitter (R167), and a STORE reply waits only for a full slot (R159). -/
def State.linksWf (s : State) : Bool :=
  decide (s.orderQueue.entries.length ≤ Config.noticePlaces) && decide (s.benchQueue.entries.length ≤ Config.noticePlaces) &&
  decide (s.directions.length ≤ Config.directionPlaces) &&
  s.restsEmpty .order && s.restsEmpty .transport && s.restsEmpty .bench &&
  (s.settings.waitingReply.isNone || (s.port .order).replySlot.isSome)

/-- The account of a tote is within its range, the carry an eighth count, and an AMBIENT account 0 (R1, R28). -/
def Tote.accountWf (t : Tote) : Bool :=
  decide (t.account ≤ Config.accountMax) && decide (t.carry ≤ 7) && (t.cls != .ambient || t.account == 0)

/-- No two records of one tote id (R3), and every account well formed. -/
abbrev State.totesWf (s : State) : Prop := (s.totes.map fun t => t.id).Nodup ∧ ∀ t ∈ s.totes, t.accountWf = true

/-- How many totes a window is answerable for: on its lift, fetched to it, returning from it (R79). -/
def Window.load (x : Window) : Nat :=
  x.lift.length + (if x.fetch.isSome then 1 else 0) + (if x.ret.isSome then 1 else 0)

/-- The bounds of R79: at most four in all; the lift with the fetched tote at most three while a return is in flight. -/
def Window.liftWf (x : Window) : Bool :=
  decide (x.load ≤ 4) && decide (x.confirms ≤ 255)

/-- Both windows keep the bounds of R79. -/
def State.liftsWf (s : State) : Bool := s.windows.w0.liftWf && s.windows.w1.liftWf

/-- In SERVICE no window has a tote, on its lift, on its way or returning (R116, R135). -/
def State.serviceClear (s : State) : Bool :=
  s.mode != .service || (s.windowClear .w0 && s.windowClear .w1)

/-- The bounds of a position record (R60): fill and crush floor. -/
def Position.boundsWf (q : Position) : Bool := decide (q.fill ≤ 255) && decide (q.floor ≤ 3)

/-- The bounds of a task record (R39). -/
def Task.boundsWf (t : Task) : Bool :=
  decide (1 ≤ t.quantity ∧ t.quantity ≤ 99) && decide (t.confirmed ≤ t.quantity) &&
    decide (1 ≤ t.unitVolume ∧ t.unitVolume ≤ 15) && decide (t.crushClass ≤ 3)

/-- Task ids are unique among live tasks (R39). -/
abbrev State.tasksDistinct (s : State) : Prop := (s.tasks.map fun t => t.id).Nodup

/-- The tables keep their bounds (R39, R60): at most 64 live tasks, no two of one id, every field in its range. -/
abbrev State.tablesWf (s : State) : Prop :=
  s.tasks.length ≤ Config.taskRecords ∧ s.tasksDistinct ∧ (∀ t ∈ s.tasks, t.boundsWf = true) ∧
    ∀ p : Pos, (s.pos p).boundsWf = true

/-- Is the tote in the lane and not leaving it (R2)? -/
def ToteState.inLaneNow : ToteState → Bool
  | .inLane _ => true
  | _ => false

/-- Does the part hold tote `id` where its record says (R2, R4, R5, R78)? A lane tote fills its slot, and the arrival
order list names it until it leaves; the others are a window's fetch, a place of its lift, or its return. -/
def State.holdsTote (s : State) (id : ToteId) : ToteState → Bool
  | .inLane l => s.lane[l] == some id && s.arrival.contains id
  | .leavingLane l => s.lane[l] == some id
  | .fetching w => (s.win w).fetch.any fun f => f.tote == id
  | .onLift w => (s.win w).lift.contains id
  | .leavingWin w => (s.win w).ret.any fun r => r.tote == id

/-- Has the record of tote `id` a state that passes? -/
def State.toteIs (s : State) (id : ToteId) (ok : ToteState → Bool) : Bool := (s.tote? id).any fun t => ok t.state

/-- The totes of window `w` have the states that its lift, its fetch and its return say (R78), each once on the lift. -/
def State.windowPlaces (s : State) (w : Win) : Bool :=
  decide (s.win w).lift.Nodup && ((s.win w).lift.all fun id => s.toteIs id (· == .onLift w)) &&
    ((s.win w).fetch.all fun f => s.toteIs f.tote (· == .fetching w)) &&
    ((s.win w).ret.all fun r => s.toteIs r.tote (· == .leavingWin w))

/-- The tote records, the lane slot map, the arrival order list and the windows say the same of where every tote is
(R2 to R5, R78), and the records stand in ascending number below 16 (R1, R172). -/
abbrev State.placesWf (s : State) : Prop :=
  (∀ t ∈ s.totes, s.holdsTote t.id t.state = true) ∧
  (∀ l : Slot, (s.lane[l].all fun id => s.toteIs id fun x => x == .inLane l || x == .leavingLane l) = true) ∧
  s.arrival.Nodup ∧ (s.arrival.all fun id => s.toteIs id ToteState.inLaneNow) = true ∧
  s.windowPlaces .w0 = true ∧ s.windowPlaces .w1 = true ∧
  (s.totes.map fun t => t.recNo).Pairwise (fun a b => a < b) ∧ ∀ t ∈ s.totes, t.recNo < Config.toteRecords

/-- The state of a live task by the place of its tote (R40, R44 to R46), for the lit task (R114) aside. -/
def taskStateAt : Option ToteState → TaskState
  | some (.inLane _) => .ready
  | some (.fetching _) => .ready
  | some (.onLift _) => .active
  | _ => .waiting

/-- A task is LIT where a window has it lit (R114), and has otherwise the state of its tote's place; its await timer runs
while it is WAITING (R48), and an EXPIRED tote has none but WAITING tasks (R42, R50). -/
def State.taskFits (s : State) (t : Task) : Bool :=
  (t.state == if (s.litAt t.id).isSome then .lit else taskStateAt ((s.tote? t.tote).map fun x => x.state)) &&
    (t.awaitTimer.isSome == (t.state == .waiting)) &&
    ((s.tote? t.tote).all fun x => !x.expired || t.state == .waiting)

/-- The orphan timer of a tote runs while it is in the lane and no live task names it (R11), the lane return timer while
it leaves the lane (R13). -/
def State.toteTimersFit (s : State) (t : Tote) : Bool :=
  (t.orphanTimer.isSome == (t.state.inLaneNow && !s.named t.id)) &&
    (t.laneReturnTimer.isSome == (match t.state with
      | .leavingLane _ => true
      | _ => false))

/-- The record of the task lit at a window (R114). -/
def State.litTask (s : State) (w : Win) : Option Task := (s.win w).lit.bind s.task?

/-- What a window with a lit task shows (R40, R62, R91, R92, R114, R118, R120): the task's tote on top and not FINISHED, no
fetch and no hold, the lock of the task's position, BOUND or CLOSING, no block timer unless it is CLOSING (R93), and the
confirm timer unless the task is OVERDUE; without one neither of the put controller's timers runs. -/
def State.litFits (s : State) (w : Win) : Bool :=
  match (s.win w).lit with
  | none => (s.win w).confirmTimer.isNone && (s.win w).guardTimer.isNone
  | some id => (s.task? id).any fun t =>
      (s.top? w == some t.tote) && (s.win w).fetch.isNone && !s.held w && !s.topFinished w &&
        ((s.win w).confirmTimer.isSome || t.overdue) &&
        (s.positionOf t.orderTote).any fun p =>
          ((s.pos p).lock == some w) && ((s.pos p).state == .bound || (s.pos p).state == .closing) &&
            ((s.win w).blockTimer.isNone || (s.pos p).state == .closing)

/-- What a position shows (R60, R61, R62, R68): a binding in every state but EMPTY, that names no other position's order
tote; the swap timer in SWAPPING, the state before pull in PULLED; a lock is that of a window whose lit task goes there,
and a CLOSING position has one. -/
def State.positionFits (s : State) (p : Pos) : Bool :=
  ((s.pos p).binding.isSome == ((s.pos p).state != .empty)) &&
    ((s.pos p).binding.all fun b => s.positionOf b.orderTote == some p) &&
    ((s.pos p).swapTimer.isSome == ((s.pos p).state == .swapping)) &&
    ((s.pos p).beforePull.isSome == ((s.pos p).state == .pulled)) &&
    (match (s.pos p).lock with
      | none => (s.pos p).state != .closing
      | some w => (s.litTask w).any fun t => s.positionOf t.orderTote == some p)

/-- Task records, totes, windows and positions agree on what is lit where (R11, R40, R48, R60 to R62, R68, R114), and the
task records stand in ascending number below 64 (R39, R172). -/
abbrev State.litWf (s : State) : Prop :=
  (∀ t ∈ s.tasks, s.taskFits t = true) ∧ (∀ t ∈ s.totes, s.toteTimersFit t = true) ∧
  s.litFits .w0 = true ∧ s.litFits .w1 = true ∧ (∀ p : Pos, s.positionFits p = true) ∧
  (s.tasks.map fun t => t.recNo).Pairwise (fun a b => a < b) ∧ ∀ t ∈ s.tasks, t.recNo < Config.taskRecords

/-- Words a load accepts (R161, test 3): every word within its item's range, the bands in rising order (R153). -/
def wordsWf (ws : Vector SWord 29) : Bool := (allItems.all fun n => wordInRange n ws[n]) && bandsRise ws

/-- The working copy holds only values that R153 allows. -/
def State.settingsWf (s : State) : Bool := wordsWf s.settings.work

/-- The part of a tote record that only an arrival, the accrual pass and the threshold test write (R32, R36). -/
def Tote.charged (t : Tote) : Nat × ToteId × TempClass × Nat × Nat × Bool × Bool :=
  (t.recNo, t.id, t.cls, t.account, t.carry, t.urgent, t.expired)

/-- Does link `l` take the next frame as a request (R144, R145, R165 check 1)? The part runs and the slot is not busy. -/
def State.listens (s : State) (l : Link) : Bool := s.phase == .running && !s.slotBusy l

/-- What a request of kind `k` leaves when it is refused with reason `c`: the receiver HUNTING, the reply placed. -/
def State.refusal (s : State) (r : Req) (k : ReqKind) (c : Reason) : State := (s.heard r.link).refuse r k.code c

/-- Every block at the values of power-on and RST (R17, R19, R57, R76, R101, R131, R134, R146, R163), the lines as
`pins` gives them. -/
abbrev atStart (pins : Pins) (t : State) : Prop :=
  (t.totes = [] ∧ (∀ l : Slot, t.lane[l] = none) ∧ t.arrival = [] ∧ t.tasks = []) ∧
  (t.exposure.sensor = .fault .start ∧ t.exposure.lastRaw = none ∧ t.exposure.corrected = none ∧ t.exposure.band = 3 ∧
    t.exposure.interval = none ∧ t.exposure.readInFlight = false) ∧
  (∀ p : Pos, (t.pos p).state = .empty ∧ (t.pos p).binding = none ∧ (t.pos p).fill = 0 ∧ (t.pos p).floor = 0 ∧
    (t.pos p).lock = none ∧ (t.pos p).present = pins.ppos[p] ∧ (t.pos p).beforePull = none ∧
    (t.pos p).swapTimer = none ∧ (t.pos p).lastHolder = none ∧ (t.pos p).pressed = pins.btn[p] ∧
    (t.pos p).armed = !pins.btn[p] ∧ (t.pos p).light.mode = .off) ∧
  (∀ w : Win, (t.win w).lift = [] ∧ (t.win w).fetch = none ∧ (t.win w).ret = none ∧ (t.win w).confirms = 0 ∧
    (t.win w).holds = ⟨false, false, false, pins.holdLow, false⟩ ∧ (t.win w).faultCause = none ∧
    (t.win w).blockTimer = none ∧ (t.win w).present = pins.pres.get w ∧ (t.win w).lit = none ∧
    (t.win w).confirmTimer = none ∧ (t.win w).guardTimer = none ∧ (t.win w).lastEnded = none) ∧
  (t.mode = .service ∧ t.holdLine = pins.holdLow) ∧
  (∀ n : Fin 4, t.watches[n].owner = none ∧ t.watches[n].subject = .tote ∧ t.watches[n].low = 0 ∧
    t.watches[n].high = 0 ∧ t.watches[n].combine = .both ∧ t.watches[n].events = 0 ∧
    t.watches[n].windows = ⟨false, false⟩) ∧
  (∀ l : Link, (t.port l).receiver = .hunting ∧ (t.port l).replySlot = none ∧ (t.port l).transmitter = none ∧
    (t.port l).cursor = ⟨.tasks, 0⟩) ∧
  (t.orderQueue = ⟨[], false⟩ ∧ t.benchQueue = ⟨[], false⟩ ∧ t.directions = []) ∧
  (t.settings.job = none ∧ t.settings.waitingReply = none)

end Sys2Proof.Machine
end

