-- ==== Sys2Proof/Certificates/Slice0/Obligations.lean ====
section
/-! DEFINITION. The statements for the provers. `listens` is the condition under which a link's next frame is taken as a
request; `answer`, `answerPort` and `refusal` are the three ways to reply (R165, R166), each stated here; `settle` is the
work of the windows at the end of an event and `conclude` the driving of lights and transmitters, each with its own
statements. -/

open Sys2Proof Sys2Proof.Machine

/-! ## The step -/

/-- A step takes the command at the front of the queue and runs it on the state with the queue's rest. -/
def Obligations.StepTakesFrontCommand : Prop :=
  ∀ (s : State) (c : Instr) (rest : List Instr), s.pending = c :: rest → step s = exec c { s with pending := rest }

/-- THE MODEL'S CHOICE (log entry 2): on an empty queue one millisecond passes, or one of the expiries that are due
enters the queue; during the load only RSTn is timed; without supply and in a reset nothing is. A millisecond takes 1
from every running timer and goes on with the light patterns, changing nothing else; due is each timer that stands at 0,
a block timer once nothing is lit at its window (DEDUCED, log entry 13). -/
def Obligations.EmptyQueueCountsTime : Prop :=
  (∀ s : State, s.pending = [] →
    (s.phase = .running → s.due = [] → step s = .next s.countTimers) ∧
    (s.phase = .running → s.due ≠ [] → ∃ c ∈ s.due, step s = .next { s with pending := [c], free := s.free + 1 }) ∧
    (s.phase = .loading → s.resetDue = [] → step s = .next { s with rstLine := s.rstLine.tick }) ∧
    (s.phase = .loading → s.resetDue ≠ [] → step s = .next { s with pending := s.resetDue, free := s.free + 1 }) ∧
    (s.phase = .off ∨ s.phase = .inReset → step s = .next s)) ∧
  (∀ s : State,
    let less (t : Option Ms) : Option Ms := t.map fun ms => ms - 1
    let u : State := s.countTimers
    u.rstLine = s.rstLine.tick ∧
    u.totes = (s.totes.map fun t => { t with
      orphanTimer := less t.orphanTimer, laneReturnTimer := less t.laneReturnTimer }) ∧
    u.exposure = { s.exposure with interval := less s.exposure.interval } ∧
    u.tasks = (s.tasks.map fun t => { t with awaitTimer := less t.awaitTimer }) ∧
    (∀ p : Pos, u.pos p = { s.pos p with
      swapTimer := less (s.pos p).swapTimer
      light := ⟨(s.pos p).light.mode,
        if (s.pos p).light.mode = .flash ∨ (s.pos p).light.mode = .fast then ((s.pos p).light.phase + 1) % 1000
        else (s.pos p).light.phase⟩ }) ∧
    (∀ w : Win, u.win w = { s.win w with
      fetch := (s.win w).fetch.map fun f => { f with
        fetchTimer := less f.fetchTimer, settleTimer := less f.settleTimer }
      ret := (s.win w).ret.map fun r => { r with timer := r.timer - 1 }
      blockTimer := less (s.win w).blockTimer
      confirmTimer := less (s.win w).confirmTimer
      guardTimer := less (s.win w).guardTimer }) ∧
    { u with rstLine := s.rstLine, totes := s.totes, exposure := s.exposure, tasks := s.tasks, positions := s.positions,
             windows := s.windows } = s) ∧
  (RstLine.tick .idle = .idle ∧ ∀ left : Ms, RstLine.tick (.low left) = .low (left - 1)) ∧
  (∀ s : State, s.resetDue = if s.rstLine = .low 0 then [.resetQualified s.freeCut] else []) ∧
  ∀ (s : State) (c : Instr), c ∈ s.due ↔
    c ∈ s.resetDue ∨ (c = .accrualIntervalExpiry ∧ s.exposure.interval = some 0) ∨
    (∃ t ∈ s.totes, (c = .orphanExpiry t.id ∧ t.orphanTimer = some 0) ∨
      (c = .laneReturnTimeout t.id ∧ t.laneReturnTimer = some 0)) ∨
    (∃ t ∈ s.tasks, c = .awaitExpiry t.id ∧ t.awaitTimer = some 0) ∨
    (∃ w : Win, (c = .fetchTimeout w ∧ ((s.win w).fetch.bind fun f => f.fetchTimer) = some 0) ∨
      (c = .settleExpiry w ∧ ((s.win w).fetch.bind fun f => f.settleTimer) = some 0) ∨
      (c = .windowReturnTimeout w ∧ ((s.win w).ret.map fun r => r.timer) = some 0) ∨
      (c = .blockTimerExpiry w ∧ (s.win w).blockTimer = some 0 ∧ (s.win w).lit = none) ∨
      (c = .confirmPeriodExpiry w ∧ (s.win w).confirmTimer = some 0) ∨
      (c = .guardExpiry w ∧ (s.win w).guardTimer = some 0)) ∨
    (∃ p : Pos, c = .swapTimeout p ∧ (s.pos p).swapTimer = some 0)

/-! ## Supply, reset line, start-up -/

/-- POWER_ON: every block takes its power-on values with the lines as they stand, the counters are 0 and the settings
load begins with SERVICE sampled; the image is kept. LOSS_OF_SUPPLY stops the part and cuts a store in flight short;
after the next POWER_ON nothing but the image is left (R145, R152, R160, R161). The model's choices: POWER_ON in any
phase begins start-up, and with a store in flight cuts it short (log entry 17); what a cut leaves of the image, an
operand or free (log entry 8). -/
def Obligations.SupplyComesAndGoes : Prop :=
  (∀ (pins : Pins) (s : State), ∃ t : State, exec (.powerOn pins) s = .next t ∧
    t.phase = .loading ∧ t.rstLine = .idle ∧ atStart pins t ∧ t.counters = ⟨0, 0, 0, 0⟩ ∧
    (s.settings.job = none → t.settings.image = s.settings.image) ∧
    (∀ job : StoreJob, s.settings.job = some job → ∃ cut : StoreCut, t.settings.image = cutImage job cut) ∧
    t.settings.serviceSampled = pins.service ∧ t.pending = s.pending) ∧
  (∀ (s : State) (cut : StoreCut), s.phase ≠ .off → ∃ t : State, exec (.lossOfSupply cut) s = .next t ∧
    t.phase = .off ∧
    t.settings.image = (match s.settings.job with
      | some job => cutImage job cut
      | none => s.settings.image) ∧
    ∀ pins : Pins, ∃ u : State, exec (.powerOn pins) t = .next u ∧ u.phase = .loading ∧ atStart pins u ∧
      u.counters = ⟨0, 0, 0, 0⟩ ∧ u.settings.image = t.settings.image)

/-- RSTN_FALL starts the 2 ms qualification; a rise that comes before RESET_QUALIFIED has no effect; RESET_QUALIFIED
stops every block at its reset values, cuts a store short, releases FAULTn and keeps the counters; the RSTN_RISE after
it begins start-up afresh with SERVICE sampled (R144, R145, R152, R160, R161). The model's choices: that the
qualification is a command of its own, whose 2 ms the tick counts (log entry 2); the fields in a reset as at start-up
with the levels last seen (log entry 17); a cut store's words as an operand (log entry 8). -/
def Obligations.ResetLine : Prop :=
  ∀ (s : State), s.phase = .running ∨ s.phase = .loading →
    (s.rstLine = .idle → exec .rstnFall s = .next { s with rstLine := .low 2 }) ∧
    (∀ pins : Pins, exec (.rstnRise pins) s = .next { s with rstLine := .idle }) ∧
    (∀ (left : Ms) (cut : StoreCut), s.rstLine = .low left → ∃ t : State,
      exec (.resetQualified cut) s = .next t ∧ t.phase = .inReset ∧ atStart s.levels t ∧ t.counters = s.counters ∧
      t.settings.image = (match s.settings.job with
        | some job => cutImage job cut
        | none => s.settings.image) ∧
      t.settings.faultAsserted = false ∧
      ∀ pins : Pins, ∃ u : State, exec (.rstnRise pins) t = .next u ∧ u.phase = .loading ∧ u.rstLine = .idle ∧
        atStart pins u ∧ u.counters = s.counters ∧ u.settings.image = t.settings.image ∧
        u.settings.serviceSampled = pins.service)

/-- SETTINGS_LOAD_END: the first of three tests that fails gives the load cause; the working copy takes the image's
words or every default, with COLD_LOCK 0 when SERVICE was sampled asserted; the flags of R162 follow, the accrual
interval starts, the links take their speeds; nothing else changes (R145, R153, R157, R161, R162, R163, R20). -/
def Obligations.LoadGivesTheWorkingCopy : Prop :=
  (∀ (n : Fin 29) (w : SWord),
    itemValue n w = (if n.val ≤ 2 then w.toInt
      else if n = 4 ∧ w.toNat / 256 % 2 = 1 then -((w.toNat % 256 : Nat) : Int)
      else if n = 4 then ((w.toNat % 256 : Nat) : Int) else (w.toNat : Int)) ∧
    (wordInRange n w = true ↔
      if n = 4 then w.toNat ≤ 511 else (itemRow n).lo ≤ itemValue n w ∧ itemValue n w ≤ (itemRow n).hi)) ∧
  (∀ ws : Vector SWord 29, (checkWord ws).toNat =
    65535 - (((List.finRange 29).map fun n => ws[n].toNat % (itemRow n).modulus).sum % 65536)) ∧
  (∀ im : Vector SWord 31,
    let mark : Prop := im[30] = 1
    let check : Prop := im[29] = checkWord (imageItems im)
    let values : Prop := (∀ n : Fin 29, wordInRange n (imageItems im)[n] = true) ∧
      itemValue 0 (imageItems im)[0] < itemValue 1 (imageItems im)[1] ∧
      itemValue 1 (imageItems im)[1] < itemValue 2 (imageItems im)[2]
    (∀ n : Fin 29, (imageItems im)[n] = im[n.val]) ∧
    (loadTest im = .noMark ↔ ¬ mark) ∧ (loadTest im = .badCheck ↔ mark ∧ ¬ check) ∧
    (loadTest im = .badValue ↔ mark ∧ check ∧ ¬ values) ∧ (loadTest im = .loaded ↔ mark ∧ check ∧ values)) ∧
  ∀ s : State, s.phase = .loading → ∃ t : State, exec .settingsLoadEnd s = .next t ∧ t.phase = .running ∧
    (∀ n : Fin 29, t.item n = if n = 28 ∧ s.settings.serviceSampled = true then 0
      else if loadTest s.settings.image = .loaded then (imageItems s.settings.image)[n] else defaultWords[n]) ∧
    t.settings = { s.settings with
      work := t.settings.work
      loadCause := loadTest s.settings.image
      defaulted := decide (loadTest s.settings.image ≠ .loaded)
      faultAsserted := decide (loadTest s.settings.image ≠ .loaded)
      lastStore := .none } ∧
    t.exposure = { s.exposure with interval := some 1000 } ∧
    t.port .order = { s.port .order with speed := speedOf (t.item 25) } ∧
    t.port .transport = { s.port .transport with speed := speedOf (t.item 26) } ∧
    t.port .bench = { s.port .bench with speed := speedOf (t.item 27) } ∧
    { t with phase := s.phase, settings := s.settings, exposure := s.exposure, ports := s.ports } = s

/-- A stored image loads as the whole snapshot; an image cut short loads as the whole snapshot or fails the mark test: a
load never mixes two stores (R157, R158, R160, R161). -/
def Obligations.StoreNeverMixes : Prop :=
  ∀ (ws : Vector SWord 29) (tag : Tag) (cut : StoreCut), wordsWf ws = true →
    (loadTest (storeWords ws) = .loaded ∧ imageItems (storeWords ws) = ws) ∧
    ((loadTest (cutImage ⟨storeWords ws, tag⟩ cut) = .loaded ∧ imageItems (cutImage ⟨storeWords ws, tag⟩ cut) = ws) ∨
      loadTest (cutImage ⟨storeWords ws, tag⟩ cut) = .noMark)

/-! ## Receiving and sending -/

/-- The receiver: START_BYTE begins a frame in any receiver state; a missing stop bit, a length above 48 and a CRC that
does not match return it to HUNTING without a reply; a frame completed during the load does nothing; each changes
nothing else (R145, R163, R164). That START_BYTE leaves IN_FRAME with no byte received is the model's choice (log entry
9). -/
def Obligations.ReceiverEvents : Prop :=
  (∀ (l : Link) (s : State), s.phase = .running →
    exec (.startByte l) s = .next (s.updPort l fun p => { p with receiver := .inFrame [] }) ∧
    exec (.byteStopBitAbort l) s = .next (s.updPort l fun p => { p with receiver := .hunting }) ∧
    (∀ n : Byte, 48 < n.toNat →
      exec (.frameLengthAbandon l n) s = .next (s.updPort l fun p => { p with receiver := .hunting })) ∧
    (∀ (content : List Byte) (crc : BitVec 16), crc16 content ≠ crc →
      exec (.frameCrcDiscard l content crc) s = .next (s.updPort l fun p => { p with receiver := .hunting }))) ∧
  (∀ (l : Link) (s : State), s.phase = .loading → exec (.frameIgnoredDuringLoad l) s = .next s)

/-- Frames turned away: before the load has ended or without supply none is taken; while the reply slot of its link is
busy a frame is discarded, its receiver HUNTING again; a frame of a wrong format is refused FORMAT; a request on a link
that its kind is not allowed on is refused AUTHORITY: order kinds are 0x20 to 0x2F, transport kinds 0x30 to 0x3F, bench
kinds 0x40 to 0x4F, and WATCH belongs to the order and bench links (R144, R145, R147, R165, R170). -/
def Obligations.FramesTurnedAway : Prop :=
  (∀ (s : State) (c : Instr) (r : Req) (k : ReqKind) (body : List Byte), c.request = some (r, k, body) →
    (s.phase ≠ .running → exec c s = .next s) ∧
    (s.phase = .running → s.slotBusy r.link = true → exec c s = .next (s.heard r.link)) ∧
    (s.listens r.link = true →
      (k.code.toNat / 16 = 2 ∧ r.link ≠ .order) ∨ (k.code.toNat / 16 = 3 ∧ r.link ≠ .transport) ∨
        (k.code.toNat / 16 = 4 ∧ r.link ≠ .bench) ∨ (k = .watch ∧ r.link = .transport) →
      exec c s = .next (s.refusal r k .authority))) ∧
  (∀ (r : Req) (kind : Byte) (body : List Byte) (s : State),
    (∀ k : ReqKind, k.code = kind → k.bodyLength ≠ body.length) →
    (s.phase ≠ .running → exec (.formatRefusal r kind body) s = .next s) ∧
    (s.phase = .running → s.slotBusy r.link = true → exec (.formatRefusal r kind body) s = .next (s.heard r.link)) ∧
    (s.listens r.link = true →
      exec (.formatRefusal r kind body) s = .next ((s.heard r.link).refuse r kind .format)))

/-- Every request that a link takes is answered: the reply carries the request's tag and kind and is on the line at
once, or in the slot behind the frame in progress; a refused one then changes nothing but its link's port. A tag of all
ones asks for no reply: a refusal then changes nothing beyond the receiver, and of a request that is taken only that it
completes is said here. A refusal sends REFUSED with its reason and no result; an answer sends TAKEN with its reason,
and its result where it has one. A STORE that goes in flight is answered at its completion (R165, R166, R167, 00 section
8). That an idle transmitter takes the reply in the same event is the model's choice (log entry 4). -/
def Obligations.EveryRequestAnswered : Prop :=
  (∀ (s : State) (c : Instr) (q : Req) (k : ReqKind) (body : List Byte), c.request = some (q, k, body) →
    s.linksWf = true → s.listens q.link = true →
    ∃ t : State, exec c s = .next t ∧
      ((k = .store ∧ s.settings.job = none ∧ t.settings.job.isSome = true) ∨
        ∃ r : Reply, r.tag = q.tag ∧ r.kind = k.code ∧ (q.tag ≠ 0xFFFFFF → placed q.link r s t) ∧
          (r.taken = true ↔ r.reason = .ok ∨ r.reason = .clamped) ∧ (r.taken = false → sameButPort q.link s t))) ∧
  (∀ (s : State) (q : Req) (k : ReqKind) (c : Reason) (result : List Byte), s.slotBusy q.link = false → q.tag ≠ 0xFFFFFF →
    placed q.link ⟨false, q.tag, k.code, c, []⟩ s (s.refusal q k c) ∧
    (s.linksWf = true → sameButPort q.link s (s.refusal q k c)) ∧ ((s.refusal q k c).port q.link).receiver = .hunting ∧
    placed q.link ⟨true, q.tag, k.code, c, []⟩ s (s.answer q k c) ∧
    placed q.link ⟨true, q.tag, k.code, c, result⟩ s (s.answerPort q k c result)) ∧
  ∀ (s : State) (q : Req) (kind : Byte) (c : Reason), s.slotBusy q.link = false →
    (q.tag ≠ 0xFFFFFF → placed q.link ⟨false, q.tag, kind, c, []⟩ s (s.refuse q kind c)) ∧
    (q.tag = 0xFFFFFF → s.linksWf = true → s.refuse q kind c = s)

/-- Every request's frame, as section 11.7 lays it out, starts with 0x7E and reads back as that very request from the
bytes after it: escaping, CRC, numbers and bodies agree (R164, R173). -/
def Obligations.RequestFramesReadBack : Prop :=
  ∀ (c : Instr) (l : Link) (line : List Byte), c.requestFrame = some (l, line) →
    ∃ rest : List Byte, line = 0x7E :: rest ∧ 0x7E ∉ rest ∧ lineCommand l rest = some c

/-- FRAME_SENT, whole, at a link whose transmitter has a frame: it takes the reply in the slot, a STORE reply that
waited moving into the slot, else the head of its queue, a notice carrying LOST, which clears, else it is idle. READ
answers with the item asked for, field by field, or RANGE or UNKNOWN; LIST with the next records at or above the cursor,
at most four, leaving the cursor after the last of them, or at 0 with END; CURSOR sets kind and index within 63 tasks or
15 totes. None of the four changes anything else (R159, R166 to R169, R171, R172). The model's choices: the layouts (log
entries 10 and 11), that return and block timers are sent rounded up and items of one unit name share a unit code (log
entry 27), and that the SKU 0 of a task without one is sent as 0 (log entry 28). -/
def Obligations.FrameSentReadListCursor : Prop :=
  (∀ (l : Link) (s : State), s.linksWf = true → (s.port l).transmitter.isSome = true →
    (∀ r : Reply, (s.port l).replySlot = some r →
      exec (.frameSent l) s = .next
        (if l = .order then { s with
            ports := s.ports.set .order { s.port .order with
              transmitter := some (.reply r), replySlot := s.settings.waitingReply }
            settings := { s.settings with waitingReply := none } }
         else s.updPort l fun p => { p with transmitter := some (.reply r), replySlot := none })) ∧
    ((s.port l).replySlot = none → s.outbound l = [] →
      exec (.frameSent l) s = .next (s.updPort l fun p => { p with transmitter := none })) ∧
    ((s.port l).replySlot = none → l = .order → ∀ (n : Notice) (ns : List Notice), s.orderQueue.entries = n :: ns →
      exec (.frameSent l) s = .next { s.updPort .order (fun p => { p with
        transmitter := some (.notice n s.orderQueue.lost) }) with orderQueue := ⟨ns, false⟩ }) ∧
    ((s.port l).replySlot = none → l = .bench → ∀ (n : Notice) (ns : List Notice), s.benchQueue.entries = n :: ns →
      exec (.frameSent l) s = .next { s.updPort .bench (fun p => { p with
        transmitter := some (.notice n s.benchQueue.lost) }) with benchQueue := ⟨ns, false⟩ }) ∧
    ((s.port l).replySlot = none → l = .transport → ∀ (d : Direction) (ds : List Direction), s.directions = d :: ds →
      exec (.frameSent l) s = .next { s.updPort .transport (fun p => { p with
        transmitter := some (.direction d) }) with directions := ds })) ∧
  (∀ (r : Req) (item : Byte) (index : BitVec 32) (s : State), s.listens r.link = true →
    let answer (bytes : List Byte) : State := (s.heard r.link).answerPort r .read .ok bytes
    let e : Exposure := s.exposure
    let st : SettingsStore := s.settings
    let window (w : Win) : List Byte :=
      let x : Window := s.win w
      num1 x.derivedCode ++ num1 (if x.ret.isSome then 3 else 4) ++ num1 x.lift.length ++
        ((x.lift.zip (List.range x.lift.length)).flatMap fun e => bytes4 e.1 ++ num1 e.2) ++
        orAbsent 1 (fun t => flag t.finished) (x.lift.head?.bind s.tote?) ++
        orAbsent 8 (fun f => bytes4 f.tote ++ num1 f.kind.code ++ flag f.atwinSeen ++ flag f.presRisen ++
          orAbsent 1 secs1 (f.fetchTimer.orElse fun _ => f.settleTimer)) x.fetch ++
        orAbsent 5 (fun q => bytes4 q.tote ++ secs1 q.timer) x.ret ++ num1 x.confirms ++
        bitSet [x.holds.order, x.holds.transport, x.holds.bench, x.holds.line, x.holds.fault] ++
        orAbsent 1 (fun c => num1 c.code) x.faultCause ++ orAbsent 1 secs1 x.blockTimer ++ flag x.present ++
        orAbsent 2 bytes2 x.lit
    let position (p : Pos) : List Byte :=
      let q : Position := s.pos p
      num1 q.state.code ++ orAbsent 1 (fun b => num1 b.code) q.beforePull ++
        orAbsent 6 (fun b => bytes4 b.orderTote ++ num1 (classCode b.cls) ++ num1 b.capacity) q.binding ++ num1 q.fill ++
        num1 q.floor ++ num1 (lockCode q.lock) ++ flag q.present ++ orAbsent 1 secs1 q.swapTimer ++
        num1 (match q.binding with
          | some b => (s.tasks.filter fun t => t.orderTote == b.orderTote).length
          | none => 0) ++
        num1 q.light.mode.readCode ++ flag q.pressed
    (item.toNat = 0 → exec (.read r item index) s = .next (answer (
      (match e.sensor with
        | .valid => num1 0 ++ absent 1
        | .fault c => num1 1 ++ num1 c.code) ++
      orAbsent 2 signed2 e.lastRaw ++ orAbsent 2 signed2 e.corrected ++ num1 e.band.val ++
      (allPos.flatMap fun p => num1 (s.pos p).state.code) ++
      num1 (s.win .w0).derivedCode ++ flag (s.held .w0) ++ num1 (s.win .w1).derivedCode ++ flag (s.held .w1) ++
      num1 s.tasks.length ++ num1 s.mode.code ++ flag s.holdLine ++
      s.watches[0].bytes ++ s.watches[1].bytes ++ s.watches[2].bytes ++ s.watches[3].bytes ++
      flag st.defaulted ++ num1 st.loadCause.code ++ flag st.serviceSampled ++ num1 (s.setting 28) ++
      flag st.job.isSome ++ num1 st.lastStore.code))) ∧
    (item.toNat = 1 → exec (.read r item index) s = .next (
      if index.toNat = 0 then answer (window .w0) else if index.toNat = 1 then answer (window .w1)
      else s.refusal r .read .range)) ∧
    (item.toNat = 2 → exec (.read r item index) s = .next (
      if h : index.toNat < 6 then answer (position ⟨index.toNat, h⟩) else s.refusal r .read .range)) ∧
    (item.toNat = 3 → exec (.read r item index) s = .next (match s.tote? index with
      | none => s.refusal r .read .unknown
      | some t => answer (
          bytes4 t.id ++ num1 (classCode t.cls) ++ num1 t.state.code ++ placeBytes t.state (s.levelOf t) ++
          num3 t.account ++ num1 t.carry ++ flag t.urgent ++ flag t.expired ++ flag t.rush ++ flag t.finished ++
          orAbsent 2 secs2 t.orphanTimer ++
          num3 (match s.limit t.cls with
            | none => 16777215
            | some limit => limit - t.account)))) ∧
    (item.toNat = 4 → exec (.read r item index) s = .next (match s.tasks.find? fun t => t.id.toNat == index.toNat with
      | none => s.refusal r .read .unknown
      | some t => answer (
          bytes2 t.id ++ bytes4 t.tote ++ bytes4 t.orderTote ++ bytes3 t.sku ++ num1 (classCode t.cls) ++
          num1 t.quantity ++ num1 t.confirmed ++ num1 t.unitVolume ++ num1 t.crushClass ++ num1 t.state.code ++
          orAbsent 2 secs2 t.awaitTimer ++ flag t.crush ++ flag t.overdue ++ flag t.overcount ++
          (if t.state = .active ∨ t.state = .lit then
            orAbsent 2 (fun x => placeBytes x.state (s.levelOf x)) (s.tote? t.tote) else absent 2) ++
          orAbsent 1 (fun p => num1 p.val) (s.positionOf t.orderTote) ++
          (match s.litAt t.id with
            | some w => orAbsent 2 secs2 (s.win w).confirmTimer ++ flag (s.win w).guardTimer.isSome
            | none => absent 3)))) ∧
    (item.toNat = 5 → exec (.read r item index) s = .next (answer (bytes4 s.counters.presentations ++
      bytes4 s.counters.units ++ bytes4 s.counters.shorts ++ bytes4 s.counters.expiries))) ∧
    (item.toNat = 6 → exec (.read r item index) s = .next (
      if h : index.toNat < 29 then
        let n : Fin 29 := ⟨index.toNat, h⟩
        answer ((if n.val ≤ 2 ∨ n.val = 4 then signed2 (s.signedSetting n)
          else if (itemRow n).hi ≤ 255 then num1 (s.setting n) else num2 (s.setting n)) ++ num1 (itemRow n).unit.code)
      else s.refusal r .read .range)) ∧
    (6 < item.toNat → exec (.read r item index) s = .next (s.refusal r .read .range))) ∧
  (∀ (r : Req) (s : State), s.listens r.link = true →
    let c : Cursor := (s.port r.link).cursor
    let rows : List (Nat × List Byte) :=
      if c.kind = .tasks then
        (s.tasks.filter fun t => decide (c.index ≤ t.recNo)).map fun t =>
          (t.recNo, bytes2 t.id ++ num1 t.state.code ++ bytes4 t.tote)
      else
        (s.totes.filter fun t => decide (c.index ≤ t.recNo)).map fun t =>
          (t.recNo, bytes4 t.id ++ num1 t.state.code ++ placeBytes t.state (s.levelOf t) ++
            bitSet [t.urgent, t.expired, t.rush, t.finished])
    let kind : List Byte := num1 (if c.kind = .tasks then 0 else 1)
    (rows.length ≤ 4 → exec (.list r) s = .next (State.answerPort
      ((s.heard r.link).updPort r.link fun p => { p with cursor := ⟨c.kind, 0⟩ }) r .list .ok
      (num1 rows.length ++ (rows.flatMap fun e => e.2) ++ kind ++ num1 1 ++ num1 0))) ∧
    (∀ (a b d e : Nat × List Byte) (more : List (Nat × List Byte)), rows = a :: b :: d :: e :: more → more ≠ [] →
      exec (.list r) s = .next (State.answerPort
        ((s.heard r.link).updPort r.link fun p => { p with cursor := ⟨c.kind, e.1 + 1⟩ }) r .list .ok
        (num1 4 ++ (a.2 ++ b.2 ++ d.2 ++ e.2) ++ kind ++ num1 0 ++ num1 (e.1 + 1))))) ∧
  (∀ (r : Req) (kind index : Byte) (s : State), s.listens r.link = true →
    exec (.cursor r kind index) s = .next (
      if 2 ≤ kind.toNat ∨ (kind.toNat = 0 ∧ 63 < index.toNat) ∨ (kind.toNat = 1 ∧ 15 < index.toNat) then
        s.refusal r .cursor .range
      else ((s.heard r.link).updPort r.link fun p => { p with
        cursor := ⟨if kind.toNat = 0 then .tasks else .totes, index.toNat⟩ }).answerPort r .cursor .ok []))

/-- A notice joins the end of its queue while fewer than 16 stand there, else it is lost and LOST is set; a direction
joins while fewer than 24 stand there, else it is discarded; nothing else changes (R168, R169). -/
def Obligations.QueuesDiscardWhenFull : Prop :=
  (∀ (q : NoticeQueue) (n : Notice), (q.entries.length < 16 → q.push n = ⟨q.entries ++ [n], q.lost⟩) ∧
    (16 ≤ q.entries.length → q.push n = ⟨q.entries, true⟩)) ∧
  (∀ (s : State) (n : Notice), s.noteOrder n = { s with orderQueue := s.orderQueue.push n } ∧
    s.noteBench n = { s with benchQueue := s.benchQueue.push n } ∧
    s.noteBoth n = { s with orderQueue := s.orderQueue.push n, benchQueue := s.benchQueue.push n }) ∧
  (∀ (s : State) (d : Direction),
    (s.directions.length < 24 → s.direct d = { s with directions := s.directions ++ [d] }) ∧
    (24 ≤ s.directions.length → s.direct d = s))

/-- The end of an event: each light is in the mode that the records give, its pattern afresh when the mode is new, and
no idle transmitter has anything left to send; nothing but lights, ports and queues changes (R115, R159, R167). That
idle transmitters take their frames at the end of the event is the model's choice (log entry 4), and so is that a light
takes its mode once, at the end of the event, its pattern afresh only where that mode is not the one before the event
(against R126 step 4 and R118 step 5, log entry 25). -/
def Obligations.EventEnd : Prop :=
  ∀ s : State,
    (∀ p : Pos, (s.conclude.pos p).light =
      (let m : LightMode := match s.litTo p with
        | some (_, x) => if x.crush = true ∨ x.overdue = true then .flash else .steady
        | none => if (s.pos p).state = .closing then .fast else .off
       if (s.pos p).light.mode = m then (s.pos p).light else ⟨m, 0⟩)) ∧
    (∀ p : Pos, { s.conclude.pos p with light := (s.pos p).light } = s.pos p) ∧
    (∀ l : Link, s.conclude.restsEmpty l = true) ∧
    { s.conclude with positions := s.positions, ports := s.ports, orderQueue := s.orderQueue, benchQueue := s.benchQueue,
                      directions := s.directions,
                      settings := { s.conclude.settings with waitingReply := s.settings.waitingReply } } = s

/-! ## Settings -/

/-- SETITEM, whole: the value read signed for items 0, 1, 2 and 4, the five checks in order, the clamp before the last
of them, CLAMPED, and the one word written (R153, R154). That item 4 at 0 is the word 0 also over a loaded trim of sign
set and magnitude 0 is the model's choice (log entry 29). -/
def Obligations.SetItem : Prop :=
  ∀ (r : Req) (item : Byte) (value : BitVec 16) (s : State), r.link = .order → s.listens .order = true →
    exec (.setItem r item value) s = .next (
      if s.mode ≠ .service then s.refusal r .setItem .mode
      else if s.settings.job.isSome then s.refusal r .setItem .busy
      else if h : item.toNat < 28 then
        let n : Fin 29 := ⟨item.toNat, by omega⟩
        let asked : Int := if n = 0 ∨ n = 1 ∨ n = 2 ∨ n = 4 then value.toInt else (value.toNat : Int)
        let v : Int := max (itemRow n).lo (min (itemRow n).hi asked)
        let new (m : Fin 29) : Int := if m = n then v else s.signedSetting m
        if n.val ≤ 16 ∧ s.setting 28 = 1 then s.refusal r .setItem .locked
        else if n.val ≤ 2 ∧ ¬ (new 0 < new 1 ∧ new 1 < new 2) then s.refusal r .setItem .order
        else ((s.heard .order).updSettings fun st => { st with work := st.work.set n (itemWord n v) }).answerPort r
          .setItem (if v = asked then .ok else .clamped) []
      else s.refusal r .setItem .range)

/-- The range, the default and the check modulus of every item, as the table of R153 lists them. The word of a value in
range stands for that value, passes the range test of a load, and written to the working copy leaves every other item as
it was (R153, R154, R161). -/
def Obligations.SettingWordsRoundTrip : Prop :=
  ((List.finRange 29).map fun n =>
      ((itemRow n).lo, (itemRow n).hi, itemValue n defaultWords[n], (itemRow n).modulus)) =
    [(-640, 1360, 32, 65536), (-640, 1360, 128, 65536), (-640, 1360, 288, 65536), (0, 32, 8, 64), (-255, 255, 0, 512)] ++
    [(0, 1023, 2, 1024), (0, 1023, 6, 1024), (0, 1023, 14, 1024), (0, 1023, 30, 1024)] ++
    [(0, 1023, 8, 1024), (0, 1023, 20, 1024), (0, 1023, 37, 1024), (0, 1023, 80, 1024)] ++
    [(0, 8, 4, 16), (1, 65535, 64, 65536), (1, 65535, 24, 65536), (1, 15, 12, 16), (0, 7, 2, 8), (0, 3, 1, 4)] ++
    [(5, 120, 30, 128), (5, 120, 45, 128), (10, 600, 120, 1024), (6, 360, 90, 512), (0, 255, 20, 256), (0, 1, 1, 2)] ++
    [(0, 3, 1, 4), (0, 3, 1, 4), (0, 3, 1, 4), (0, 1, 0, 2)] ∧
  ∀ (n : Fin 29) (v : Int), (itemRow n).lo ≤ v → v ≤ (itemRow n).hi →
    itemValue n (itemWord n v) = v ∧ wordInRange n (itemWord n v) = true ∧
    ∀ (s : State) (m : Fin 29), (s.writeItem n v).signedSetting m = if m = n then v else s.signedSetting m

/-- LOCK sets COLD_LOCK; STORE takes the snapshot with its check word and complete mark and keeps the reply tag; both
are refused outside SERVICE and while a store is in flight. At STORE_COMPLETION the store is good when the read-back
agrees with what was written: SETTINGS_DEFAULTED clears and FAULTn is released; else it fails and both stand. The reply
waits for the order link's slot (R156 to R159, R162, R166). The model's choices: the image changes as one at the
completion, to the words that the command reads back (log entries 8 and 18). -/
def Obligations.LockAndStore : Prop :=
  (∀ (r : Req) (s : State), r.link = .order → s.listens .order = true →
    exec (.lock r) s = .next (
      if s.mode ≠ .service then s.refusal r .lock .mode
      else if s.settings.job.isSome then s.refusal r .lock .busy
      else ((s.heard .order).updSettings fun st => { st with work := st.work.set 28 1 }).answerPort r .lock .ok []) ∧
    exec (.store r) s = .next (
      if s.mode ≠ .service then s.refusal r .store .mode
      else if s.settings.job.isSome then s.refusal r .store .busy
      else (s.heard .order).updSettings fun st => { st with
        job := some ⟨imageOf st.work (checkWord st.work) 1, r.tag⟩ })) ∧
  ∀ (s : State) (job : StoreJob), s.settings.job = some job → ∀ readBack : Vector SWord 31,
    exec (.storeCompletion readBack) s = .next (State.pump { s with settings := { s.settings with
      job := none
      image := readBack
      lastStore := if readBack = job.words then .good else .failed
      defaulted := if readBack = job.words then false else s.settings.defaulted
      faultAsserted := if readBack = job.words ∧ s.settings.defaulted = true then false else s.settings.faultAsserted
      waitingReply := if job.tag = 0xFFFFFF then s.settings.waitingReply
        else if readBack = job.words then some ⟨true, job.tag, 0x28, .ok, []⟩
        else some ⟨false, job.tag, 0x28, .storeFail, []⟩ } } .order)

/-- While COLD_LOCK is 1 and the part runs on, no step changes the cold-chain policy, items 0 to 16, or COLD_LOCK itself
(R154, R156). -/
def Obligations.ColdLockStays : Prop :=
  ∀ s t : State, step s = .next t → s.phase = .running ∧ t.phase = .running ∧ s.item 28 = 1 →
    t.item 28 = 1 ∧ ∀ n : Fin 29, n.val ≤ 16 → t.item n = s.item n

/-! ## Exposure and counters -/

/-- The counters rise only in the events of their causes: PRESENTATIONS by 1 at a delivery (ATWIN, a rise of PRES, a
settle expiry), UNITS at a confirm (PICKED, a button press), SHORTS by 1 at SHORT, EXPIRIES at an arrival or an accrual
event; power-on sets them to 0 (R151, R152). -/
def Obligations.CountersRiseOnlyInTheirEvents : Prop :=
  ∀ (s : State) (c : Instr) (t : State), exec c s = .next t →
    ((∃ pins : Pins, c = .powerOn pins) ∧ t.counters = ⟨0, 0, 0, 0⟩) ∨
    ((t.counters.presentations = s.counters.presentations ∨
        (t.counters.presentations = s.counters.presentations + 1 ∧
          ((∃ r i w, c = .atWin r i w) ∨ (∃ w, c = .presRise w) ∨ (∃ w, c = .settleExpiry w)))) ∧
      (t.counters.units = s.counters.units ∨ (∃ r i n, c = .picked r i n) ∨ (∃ p, c = .btnPress p)) ∧
      (t.counters.shorts = s.counters.shorts ∨
        (t.counters.shorts = s.counters.shorts + 1 ∧ ∃ r i, c = .short r i)) ∧
      (t.counters.expiries = s.counters.expiries ∨ (∃ r i l k b, c = .toteIn r i l k b) ∨
        (∃ x, c = .accrualEvent x)))

/-- ACCRUAL_INTERVAL_EXPIRY restarts the interval and begins a read; ACCRUAL_EVENT settles the sensor, then charges and
tests every record in ascending tote id, each in full before the next (R20, R25, R26). -/
def Obligations.AccrualRuns : Prop :=
  (∀ (s : State) (left : Ms), s.exposure.interval = some left →
    exec .accrualIntervalExpiry s =
      .next { s with exposure := { s.exposure with interval := some 1000, readInFlight := true } }) ∧
  (∀ (reading : Option (BitVec 16)) (s : State), s.exposure.readInFlight = true →
    ∃ ids : List ToteId, ids.Perm (s.totes.map fun t => t.id) ∧ ids.Pairwise (fun a b => a.toNat ≤ b.toNat) ∧
      exec (.accrualEvent reading) s = .next
        (ids.foldl State.chargeTote
          (State.settleSensor { s with exposure := { s.exposure with readInFlight := false } } reading)).settle.conclude)

/-- A reading is judged raw against -640 to 1360; a valid one is trimmed and clamped and gives the band; any other one
makes the corrected temperature absent and the band 3; SENSOR_FAULT and SENSOR_RESTORED go out when the state changes,
but not from START; nothing else changes (R21 to R24). -/
def Obligations.SensorJudged : Prop :=
  ∀ (s : State),
    (∀ w : BitVec 16, -640 ≤ w.toInt → w.toInt ≤ 1360 →
      let temp : Int := max (-640) (min 1360 (w.toInt + s.signedSetting 4))
      let band : Fin 4 := bandOf (s.nextBand temp s.exposure.band.val)
      let t : State := { s with exposure := { s.exposure with
        sensor := .valid, lastRaw := some w.toInt, corrected := some temp, band := band } }
      s.settleSensor (some w) =
        if s.exposure.sensor = .fault .noAnswer ∨ s.exposure.sensor = .fault .outOfRange
          then t.noteBoth (.sensorRestored temp band) else t) ∧
    (∀ w : BitVec 16, w.toInt < -640 ∨ 1360 < w.toInt →
      let t : State := { s with exposure := { s.exposure with
        sensor := .fault .outOfRange, lastRaw := some w.toInt, corrected := none, band := 3 } }
      s.settleSensor (some w) =
        if s.exposure.sensor = .valid then t.noteBoth (.sensorFault .outOfRange (some w.toInt)) else t) ∧
    (let t : State := { s with exposure := { s.exposure with
        sensor := .fault .noAnswer, lastRaw := none, corrected := none, band := 3 } }
     s.settleSensor none = if s.exposure.sensor = .valid then t.noteBoth (.sensorFault .noAnswer none) else t)

/-- The band rises to the first threshold above the temperature, or else falls only past a threshold less the
hysteresis, or else stays (R24). -/
def Obligations.BandMoves : Prop :=
  ∀ (s : State) (temp : Int) (b : Nat), b ≤ 3 →
    let c : Nat := s.nextBand temp b
    c ≤ 3 ∧
    (b < 3 → s.threshold b ≤ temp →
      b < c ∧ (∀ k, b ≤ k → k < c → s.threshold k ≤ temp) ∧ (c = 3 ∨ temp < s.threshold c)) ∧
    ((b = 3 ∨ temp < s.threshold b) →
      c ≤ b ∧ (∀ k, c ≤ k → k < b → temp < s.threshold k - (s.setting 3 : Int)) ∧
        (c = 0 ∨ s.threshold (c - 1) - (s.setting 3 : Int) ≤ temp))

/-- A charge is exact: the account takes the whole EP of rate times weight and carry and saturates at 16,777,215, the
carry takes the eighths left, also at saturation; below saturation the eighths of account and carry rise by rate times
weight; the account never falls and never passes 16,777,215. The weight is LANE_WEIGHT in the lane, 8 fetched or lifted,
none LEAVING or AMBIENT; the rate is that of the class in the band (R27, R28). -/
def Obligations.ChargeIsExact : Prop :=
  (∀ (t : Tote) (r w : Nat), t.carry ≤ 7 → t.account ≤ 16777215 →
    ((t.charge r w).account = min (t.account + (r * w + t.carry) / 8) 16777215 ∧
      (t.charge r w).carry = (r * w + t.carry) % 8 ∧ (t.charge r w).carry ≤ 7 ∧ t.account ≤ (t.charge r w).account ∧
      (t.charge r w).account ≤ 16777215 ∧
      ((t.charge r w).account < 16777215 →
        8 * (t.charge r w).account + (t.charge r w).carry = 8 * t.account + t.carry + r * w) ∧
      { t.charge r w with account := t.account, carry := t.carry } = t)) ∧
  (∀ (s : State) (t : Tote), s.weight t =
    if t.cls = .ambient then none
    else match t.state with
      | .inLane _ => some (s.setting 13)
      | .fetching _ => some 8
      | .onLift _ => some 8
      | .leavingLane _ => none
      | .leavingWin _ => none) ∧
  (∀ (s : State), s.rate .chilled = s.setting ⟨5 + s.exposure.band.val, by omega⟩ ∧
    s.rate .frozen = s.setting ⟨9 + s.exposure.band.val, by omega⟩) ∧
  (∀ (s : State) (id : ToteId) (t : Tote) (w : Nat), s.tote? id = some t → s.weight t = some w →
    s.chargeTote id = (s.updTote id fun x => x.charge (s.rate t.cls) w).thresholdTest id) ∧
  (∀ (s : State) (id : ToteId) (t : Tote), s.tote? id = some t → s.weight t = none → s.chargeTote id = s)

/-- The limit and the warn threshold of each class, their bounds in every setting, and their values with the defaults
(R29, whole). -/
def Obligations.LimitsAndWarn : Prop :=
  (∀ s : State, s.limit .ambient = none ∧ s.limit .chilled = some (s.setting 14 * 256) ∧
    s.limit .frozen = some (s.setting 15 * 256)) ∧
  (∀ (s : State) (limit : Nat), s.warnOf limit = limit * s.setting 16 / 16) ∧
  (∀ (s : State) (c : TempClass) (limit : Nat), s.settingsWf = true → s.limit c = some limit →
    256 ≤ limit ∧ limit ≤ 16776960 ∧ limit / 16 ≤ s.warnOf limit ∧ s.warnOf limit ≤ limit * 15 / 16 ∧
      16 ≤ s.warnOf limit ∧ 0 < s.warnOf limit ∧ s.warnOf limit < limit) ∧
  (∀ s : State, s.settings.work = defaultWords →
    s.limit .chilled = some 16384 ∧ s.warnOf 16384 = 12288 ∧ s.limit .frozen = some 6144 ∧ s.warnOf 6144 = 4608)

/-- The threshold test: URGENT at the warn threshold with EXPOSURE_WARN and TOTE_URGENT, then EXPIRED at the limit with
TOTE_EXPIRED, its event and the counter before the owners act; a flag that is set is not set again (R30, R31, R34). Then
its tasks that are not WAITING fail EXPIRED in ascending task id, one lit on it unlit with that cause, and the tote
leaves the lane, or is FINISHED on top of its lift and sent back when the window may (R9, R13, R31, R50, R94, R99,
R126). That the steps 1 to 3 of R126 come first there, then the terminal notice, the freed record, the lock and
TASK_UNLIT, is DEDUCED (log entry 16). -/
def Obligations.ThresholdTest : Prop :=
  (∀ (s : State) (id : ToteId) (t : Tote), s.tote? id = some t →
    (s.limit t.cls = none → s.thresholdTest id = s) ∧
    ∀ limit : Nat, s.limit t.cls = some limit →
      let info : ExposureInfo := { tote := t.id, cls := t.cls, account := t.account, warn := s.warnOf limit,
                                   limit := limit, state := t.state, level := s.levelOf t }
      let ev (k : EventKind) : WatchEvent := { kind := k, value := t.id, window := t.state.atWindow, tote := t.id,
                                               detail := .tote t.cls t.account }
      let u : State := if t.urgent = false ∧ s.warnOf limit ≤ t.account then
          ((s.updTote t.id fun x => { x with urgent := true }).noteBoth (.exposureWarn info)).offer (ev .toteUrgent)
        else s
      let v : State := ((u.updTote t.id fun x => { x with expired := true }).noteBoth (.toteExpired info)).offer
        (ev .toteExpired)
      s.thresholdTest id =
        if t.expired = false ∧ limit ≤ t.account then
          State.ownersExpire t { v with counters := { v.counters with expiries := v.counters.expiries + 1 } }
        else u) ∧
  ∀ (s : State) (t : Tote),
    let ids : List TaskId := ascendingIds (s.tasks.filter fun x => x.tote == t.id && x.state != .waiting)
    let leave (u : State) : State := match t.state, ((u.tote? t.id).map fun x => x.state : Option ToteState) with
      | .inLane _, some (.inLane l) => { u.direct (.sendBack t.id (.lane l)) with
          arrival := u.arrival.filter fun a => a != t.id
          totes := u.totes.map fun x => if x.id = t.id then
            { x with state := .leavingLane l, orphanTimer := none, laneReturnTimer := some u.returnMs } else x }
      | .onLift w, _ => if u.top? w = some t.id then State.sendIfDue w (u.finishTest w) else u
      | _, _ => u
    ((∀ x ∈ s.tasks, x.tote = t.id → s.litAt x.id = none) →
      s.ownersExpire t = leave (ids.foldl (fun u id => u.endTask (.failed .expired) id) s)) ∧
    ∀ (w : Win) (l : TaskId) (x : Task), (s.win w).lit = some l → s.task? l = some x → x.tote = t.id →
      s.top? w = some t.id → (s.win w.other).lit ≠ some l →
      (∀ y ∈ s.tasks, y.tote = t.id → y.id ≠ l → s.litAt y.id = none) →
      let unlit : State := { s.updWin w (fun y => { y with
          lit := none, confirmTimer := none, guardTimer := none, lastEnded := some l }) with
        tasks := s.tasks.map fun y => if y.id = l then { y with state := .active } else y }
      let failLit (u : State) : State :=
        let p : Option Pos := u.positionOf x.orderTote
        State.releaseTote x.tote (State.swapIfReady State.swapOut p
          (((State.offerTaskEnd (.failed .expired) x (u.noteOrder
              (.taskEnded (.failed .expired) { x with state := .lit, awaitTimer := none } p))).dropTask l).releaseLock p
            |>.noteBench (.taskUnlit l w p x.confirmed .expired)))
      s.ownersExpire t = leave (ids.foldl (fun u id =>
        if id = l ∧ (u.task? l).isSome = true then failLit u else u.endTask (.failed .expired) id) unlit)

/-- The life of a tote record: over any step that leaves it in the table its number and class are unchanged, its account
never falls, and URGENT and EXPIRED once set stay set (R28, R32, R36). -/
def Obligations.ToteRecordIsSticky : Prop :=
  ∀ (s t : State), step s = .next t → s.totesWf →
    ∀ (id : ToteId) (x : Tote), s.tote? id = some x → ∀ y : Tote, t.tote? id = some y →
    y.recNo = x.recNo ∧ y.cls = x.cls ∧ x.account ≤ y.account ∧ (x.urgent = true → y.urgent = true) ∧
      (x.expired = true → y.expired = true)

/-- What the work of the windows at the end of an event (FINISHED, send-backs, choices, block timers, fetches) leaves as
it is: the base, the counters, the numbers, classes, accounts and flags of the totes, the holds and PRES of the windows,
the lines and bindings of the positions; live tasks only end, notices only join (00 section 8, R32, R91). That this work
stands at the end of the event is the model's choice (log entry 15). -/
def Obligations.WindowWorkFrame : Prop :=
  ∀ s : State, s.settle.base = s.base ∧ s.settle.counters = s.counters ∧
    s.settle.totes.map Tote.charged = s.totes.map Tote.charged ∧
    (s.settle.tasks.map fun t => t.id).Sublist (s.tasks.map fun t => t.id) ∧
    (∀ w : Win, (s.settle.win w).holds = (s.win w).holds ∧ (s.settle.win w).faultCause = (s.win w).faultCause ∧
      (s.settle.win w).present = (s.win w).present) ∧
    (∀ p : Pos, (s.settle.pos p).binding = (s.pos p).binding ∧ (s.settle.pos p).fill = (s.pos p).fill ∧
      (s.settle.pos p).floor = (s.pos p).floor ∧ (s.settle.pos p).present = (s.pos p).present ∧
      (s.settle.pos p).pressed = (s.pos p).pressed ∧ (s.settle.pos p).armed = (s.pos p).armed ∧
      (s.settle.pos p).light = (s.pos p).light) ∧
    s.orderQueue.entries <+: s.settle.orderQueue.entries ∧ s.benchQueue.entries <+: s.settle.benchQueue.entries ∧
    s.directions <+: s.settle.directions

/-- After the work of the windows nothing that they must do in the same event is left: no FINISHED top at a window not
held and with no return in flight, so that no send-back is due; nothing lit on a FINISHED top, where the lit tasks stood
on tops that were neither FINISHED nor EXPIRED; no CLOSING position with a binding and a free lock; no window has a
fetch opportunity with a candidate, none has a task to choose (R68, R92, R94, R108, R116). That this work stands at the
end of the event is the model's choice (log entry 15). -/
def Obligations.NothingLeftDue : Prop :=
  ∀ (s : State) (w : Win), s.settle.sendBackDue w = false ∧ s.settle.fetchChoice w = none ∧ s.settle.choice w = none ∧
    (∀ (id : ToteId) (t : Tote), (s.settle.win w).lift.head? = some id → s.settle.tote? id = some t → t.finished = true →
      s.settle.held w = true ∨ (s.settle.win w).ret.isSome = true) ∧
    ((∀ (v : Win) (l : TaskId), (s.win v).lit = some l → ∃ (x : Task) (t : Tote), s.task? l = some x ∧ x.state = .lit ∧
        (s.win v).lift.head? = some x.tote ∧ s.tote? x.tote = some t ∧ t.finished = false ∧ t.expired = false ∧
        x.tote ∉ (s.win v.other).lift) →
      s.settle.topFinished w = true → (s.settle.win w).lit = none) ∧
    (s.sendBackDue w = true ↔ (∃ (id : ToteId) (t : Tote), (s.win w).lift.head? = some id ∧ s.tote? id = some t ∧
      t.finished = true) ∧ s.held w = false ∧ (s.win w).ret = none) ∧
    ∀ p : Pos, (s.settle.pos p).state = .closing → (s.settle.pos p).lock = none → (s.settle.pos p).binding = none

/-! ## Totes in the lane -/

/-- TOTEIN: the three checks in order (R6, whole); an accepted one makes the record and enters lane and arrival order,
then in this order fails the tasks of another class in ascending task id, makes the others READY, tests the thresholds
and starts the orphan timer (R7, R8, R33). -/
def Obligations.ToteIn : Prop :=
  ∀ (r : Req) (id : ToteId) (slot cls : Byte) (brought : BitVec 24) (s : State),
    r.link = .transport → s.listens .transport = true →
    (id = 0 ∨ 8 ≤ slot.toNat ∨ 3 ≤ cls.toNat →
      exec (.toteIn r id slot cls brought) s = .next (s.refusal r .toteIn .range)) ∧
    ∀ (l : Slot) (c : TempClass), id ≠ 0 → slot.toNat = l.val → cls.toNat = c.rank →
      exec (.toteIn r id slot cls brought) s = .next (
        if (s.tote? id).isSome then s.refusal r .toteIn .duplicate
        else if s.lane[l].isSome then s.refusal r .toteIn .slotBusy
        else
          let t : Tote := { recNo := lowestFree (s.totes.map fun x => x.recNo), id := id, cls := c, state := .inLane l,
                            account := if c = .ambient then 0 else brought.toNat, carry := 0, urgent := false,
                            expired := false, rush := false, finished := false, orphanTimer := none,
                            laneReturnTimer := none }
          let u : State := { s.heard .transport with
            totes := insertByNo Tote.recNo t s.totes, lane := s.lane.set l (some id), arrival := s.arrival ++ [id] }
          let v : State := u.endAll (State.endTask (.failed .cls))
            (ascendingIds (u.tasks.filter fun x => x.tote == id && x.cls != c))
          (((v.tasksToReady id).thresholdTest id).startOrphan id).settle.answer r .toteIn .ok)

/-- TOTEOUT takes a lane tote away, its slot, arrival entry and record with it, its tasks WAITING afresh; RUSH latches a
lane tote; both are refused UNKNOWN without a record and STATE in any other state, RUSH of id 0 RANGE (R10, R46,
R110). -/
def Obligations.ToteOutAndRush : Prop :=
  (∀ (r : Req) (id : ToteId) (s : State), r.link = .transport → s.listens .transport = true →
    exec (.toteOut r id) s = .next (
      match s.tote? id with
      | none => s.refusal r .toteOut .unknown
      | some t =>
        match t.state with
        | .inLane l => State.answer { s.heard .transport with
            lane := s.lane.set l none
            arrival := s.arrival.filter fun a => a != id
            tasks := s.tasks.map fun x =>
              if x.tote = id then { x with state := .waiting, awaitTimer := some s.awaitMs } else x
            totes := s.totes.filter fun x => x.id != id } r .toteOut .ok
        | _ => s.refusal r .toteOut .state)) ∧
  (∀ (r : Req) (id : ToteId) (s : State), r.link = .order → s.listens .order = true →
    exec (.rush r id) s = .next (
      if id = 0 then s.refusal r .rush .range
      else match s.tote? id with
      | none => s.refusal r .rush .unknown
      | some t =>
        match t.state with
        | .inLane _ => ((s.heard .order).updTote id fun x => { x with rush := true }).settle.answer r .rush .ok
        | _ => s.refusal r .rush .state))

/-- A lane tote that no live task names has its orphan timer started with ORPHAN_HOLD (item 21) in seconds. Leaving: an
ORPHAN_EXPIRY sends the tote back from the lane (SENDBACK queued, LEAVING with the slot kept, arrival entry gone, return
timer started with RETURN_TIMEOUT, item 20, in seconds); GONE ends a return from the lane or from a window and offers
TOTE_RETURNED; a LANE_RETURN_TIMEOUT ends it with RETURN_UNCONFIRMED (R11 to R15, R96). -/
def Obligations.LaneReturns : Prop :=
  (∀ (s : State) (id : ToteId) (t : Tote), s.tote? id = some t → ∀ l : Slot, t.state = .inLane l →
    t.orphanTimer.isSome = true →
    exec (.orphanExpiry id) s = .next (State.conclude { s.direct (.sendBack id (.lane l)) with
      arrival := s.arrival.filter fun a => a != id
      totes := s.totes.map fun x => if x.id = id then { x with
        state := .leavingLane l, orphanTimer := none, laneReturnTimer := some (s.setting 20 * 1000) } else x })) ∧
  (∀ (s : State) (id : ToteId) (t : Tote), s.tote? id = some t → ∀ l : Slot, t.state = .inLane l →
    s.startOrphan id = if ∃ x ∈ s.tasks, x.tote = id then s
      else s.updTote id fun x => { x with orphanTimer := some (s.setting 21 * 1000) }) ∧
  (∀ (r : Req) (id : ToteId) (s : State), r.link = .transport → s.listens .transport = true →
    exec (.gone r id) s = .next (
      match s.tote? id with
      | none => s.refusal r .gone .unknown
      | some t =>
        match t.state with
        | .leavingLane l => (State.offer { s.heard .transport with
            lane := s.lane.set l none, totes := s.totes.filter fun x => x.id != t.id }
            { kind := .toteReturned, value := t.id, window := none, tote := t.id,
              detail := .tote t.cls t.account }).answer r .gone .ok
        | .leavingWin w => (((State.offer { (s.heard .transport).updWin w (fun x => { x with ret := none }) with
            totes := s.totes.filter fun x => x.id != t.id }
            { kind := .toteReturned, value := t.id, window := some w, tote := t.id,
              detail := .tote t.cls t.account }).endReturn w).settle).answer r .gone .ok
        | _ => s.refusal r .gone .state)) ∧
  (∀ (s : State) (id : ToteId) (t : Tote), s.tote? id = some t → ∀ l : Slot, t.state = .leavingLane l →
    t.laneReturnTimer.isSome = true →
    exec (.laneReturnTimeout id) s = .next (State.conclude ({ s with
      lane := s.lane.set l none
      totes := s.totes.filter fun x => x.id != id
      orderQueue := s.orderQueue.push (.returnUnconfirmed id (.lane l)) })))

/-! ## Tasks -/

/-- POST: the eight checks in order, a refused POST changing no state (R42, whole); an accepted one makes the record, in
the state its tote gives, and stops the orphan timer of its tote; the windows then act (R43). -/
def Obligations.Post : Prop :=
  ∀ (r : Req) (task : TaskId) (tote : ToteId) (orderTote : OrderToteId) (sku : Sku)
    (cls quantity unitVolume crushClass : Byte) (s : State), r.link = .order → s.listens .order = true →
    exec (.post r task tote orderTote sku cls quantity unitVolume crushClass) s = .next (
      if s.mode = .service then s.refusal r .post .mode
      else if task = 0 ∨ tote = 0 ∨ orderTote = 0 ∨ 2 < cls.toNat ∨ quantity.toNat = 0 ∨ 99 < quantity.toNat ∨
          unitVolume.toNat = 0 ∨ 15 < unitVolume.toNat ∨ 3 < crushClass.toNat then s.refusal r .post .range
      else if (s.task? task).isSome then s.refusal r .post .duplicate
      else if 64 ≤ s.tasks.length then s.refusal r .post .full
      else if (s.tote? tote).any fun t => t.expired then s.refusal r .post .expired
      else if (s.tote? tote).any fun t => t.cls.rank != cls.toNat then s.refusal r .post .cls
      else if (s.positionOf orderTote).any fun p => (s.pos p).binding.any fun b => decide (b.cls.rank < cls.toNat) then
        s.refusal r .post .cls
      else if (s.positionOf orderTote).any fun p => (s.pos p).state == .closing || (s.pos p).state == .swapping then
        s.refusal r .post .state
      else
        let c : TempClass := if cls.toNat = 0 then .ambient else if cls.toNat = 1 then .chilled else .frozen
        let st : TaskState := match s.tote? tote with
          | none => .waiting
          | some t =>
            match t.state with
            | .inLane _ => .ready
            | .fetching _ => .ready
            | .onLift _ => .active
            | _ => .waiting
        let x : Task := { recNo := lowestFree (s.tasks.map fun t => t.recNo), id := task, tote := tote,
                          orderTote := orderTote, sku := sku, cls := c, quantity := quantity.toNat, confirmed := 0,
                          unitVolume := unitVolume.toNat, crushClass := crushClass.toNat, state := st,
                          awaitTimer := if st = .waiting then some s.awaitMs else none, crush := false,
                          overdue := false, overcount := false }
        State.answer (State.settle { s.heard .order with
          tasks := insertByNo Task.recNo x s.tasks
          totes := s.totes.map fun t => if t.id = tote then { t with orphanTimer := none } else t }) r .post .ok)

/-- WITHDRAW ends a live task CANCELLED, and is refused UNKNOWN without one; an AWAIT_EXPIRY ends its task
FAILED(NOT_DELIVERED) (R48, R49). -/
def Obligations.WithdrawAndAwait : Prop :=
  (∀ (r : Req) (id : TaskId) (s : State), r.link = .order → s.listens .order = true →
    exec (.withdraw r id) s = .next (
      if (s.task? id).isSome then ((s.heard .order).endTask .cancelled id).settle.answer r .withdraw .ok
      else s.refusal r .withdraw .unknown)) ∧
  (∀ (s : State) (id : TaskId) (t : Task), s.task? id = some t → t.awaitTimer.isSome = true →
    exec (.awaitExpiry id) s = .next (s.endTask (.failed .notDelivered) id).conclude)

/-- Ending a task: its terminal notice, carrying the task as it stood, is the first the end queues on the order link;
its record is freed and no task is added; lit nowhere it is ended by notice, event, freeing and the release of its tote
alone; lit at a window it is unlit first, becomes that window's last ended task, gives the lock back and queues
TASK_UNLIT; then its position goes on swapping and its tote is released, in an open order where both follow and it has
not failed (R54, R55, R62, R68, R126). Released, a tote that no task names starts its orphan timer in the lane, and is
FINISHED on top of a lift and sent back when the window may (R11, R92, R94). Unlighting without an end keeps the task
ACTIVE with its count and flags, stops the timers, gives the lock back and queues TASK_UNLIT with its cause (R47, R126
steps 1 to 5). The model's choices: what decides the open order (log entry 3), and that step 6 of R126 stands at the end
of the event (log entry 22). -/
def Obligations.EndingATask : Prop :=
  (∀ (s : State) (o : TaskOutcome) (id : TaskId) (t : Task), s.task? id = some t →
    (s.endTask o id).task? id = none ∧
    ((s.endTask o id).tasks.map fun x => x.id).Sublist (s.tasks.map fun x => x.id) ∧
    (s.orderQueue.push (.taskEnded o { t with
      state := if (s.litAt id).isSome then .lit else t.state, awaitTimer := none } (s.positionOf t.orderTote))).entries <+:
      (s.endTask o id).orderQueue.entries ∧
    (s.endTask o id).base = s.base ∧ (s.endTask o id).counters = s.counters ∧
    (s.endTask o id).totes.map Tote.charged = s.totes.map Tote.charged ∧
    (s.litAt id = none → s.endTask o id =
      (State.offerTaskEnd o t (s.noteOrder (.taskEnded o { t with awaitTimer := none } (s.positionOf t.orderTote)))
        |>.dropTask t.id).releaseTote t.tote) ∧
    (∀ w : Win, s.litAt id = some w → ((s.endTask o id).win w).lastEnded = some id) ∧
    (∀ w : Win, s.litAt id = some w →
      let p : Option Pos := s.positionOf t.orderTote
      let unlit : State := { s.updWin w (fun x => { x with
          lit := none, confirmTimer := none, guardTimer := none, lastEnded := some id }) with
        tasks := s.tasks.map fun x => if x.id = id then { x with state := .active } else x }
      let u : State := ((State.offerTaskEnd o t (unlit.noteOrder
        (.taskEnded o { t with state := .lit, awaitTimer := none } p))).dropTask id).releaseLock p
          |>.noteBench (.taskUnlit id w p t.confirmed (.ended o))
      let swap (v : State) : State := match p with
        | some q => if (v.pos q).state = .closing ∧ (v.pos q).lock = none then v.swapOut q else v
        | none => v
      s.endTask o id =
        if o.orderOpen = true ∧ u.swapReady p = true ∧ u.willSend t.tote = true then
          u.eitherOrder swap (State.releaseTote t.tote)
        else State.releaseTote t.tote (swap u))) ∧
  (∀ (s : State) (o : TaskOutcome) (t : Task),
    let ev (k : EventKind) (r : Option FailReason) : WatchEvent :=
      { kind := k, value := t.sku.setWidth 32, window := s.taskWindow t.tote, tote := t.tote, detail := .task t.id r }
    s.offerTaskEnd o t = match o with
      | .done => s.offer (ev .taskDone none)
      | .short => s.offer (ev .taskShort none)
      | .failed r => s.offer (ev .taskFailed (some r))
      | .cancelled => s) ∧
  (∀ (s : State) (p : Option Pos), s.releaseLock p = match p with
    | some q => s.updPos q fun x => { x with lock := none }
    | none => s) ∧
  (∀ (s : State) (id : ToteId), (s.named id = true → s.releaseTote id = s) ∧
    (s.named id = false → ∀ t : Tote, s.tote? id = some t →
      (∀ l : Slot, t.state = .inLane l → s.top? .w0 ≠ some id → s.top? .w1 ≠ some id →
        s.releaseTote id = s.updTote id fun x => { x with orphanTimer := some s.orphanMs }) ∧
      (∀ w : Win, t.state = .onLift w → s.top? w = some id → (w = .w1 → s.top? .w0 ≠ some id) →
        s.releaseTote id =
          let u : State := s.updTote id fun x => { x with finished := true }
          if s.held w = false ∧ (s.win w).ret = none then u.sendBack w else u))) ∧
  ∀ (s : State) (w : Win) (cause : UnlitCause),
    ((s.win w).lit = none → s.unlight w cause = s) ∧
    ∀ (id : TaskId) (t : Task), (s.win w).lit = some id → s.task? id = some t →
      s.unlight w cause =
        (State.releaseLock (s.positionOf t.orderTote) { s.updWin w (fun x => { x with
            lit := none, confirmTimer := none, guardTimer := none }) with
          tasks := s.tasks.map fun x => if x.id = id then { x with state := .active } else x }).noteBench
          (.taskUnlit id w (s.positionOf t.orderTote) t.confirmed cause)

/-! ## Order-tote positions -/

/-- BIND: the four checks in order, a refused BIND changing no state (R64, whole); an accepted one sets the record, then
fails the tasks above the order tote's class in ascending task id; the windows then choose (R51, R65). -/
def Obligations.Bind : Prop :=
  ∀ (r : Req) (pos : Byte) (orderTote : OrderToteId) (cls capacity : Byte) (s : State),
    r.link = .order → s.listens .order = true →
    (6 ≤ pos.toNat ∨ orderTote = 0 ∨ 3 ≤ cls.toNat ∨ capacity.toNat = 0 →
      exec (.bind r pos orderTote cls capacity) s = .next (s.refusal r .bind .range)) ∧
    ∀ (p : Pos) (c : TempClass), pos.toNat = p.val → orderTote ≠ 0 → cls.toNat = c.rank → capacity.toNat ≠ 0 →
      exec (.bind r pos orderTote cls capacity) s = .next (
        if (s.pos p).state ≠ .empty then s.refusal r .bind .state
        else if (s.pos p).present = false then s.refusal r .bind .noTote
        else if ∃ q : Pos, (s.pos q).binding.any (fun b => b.orderTote == orderTote) = true then
          s.refusal r .bind .duplicate
        else
          let u : State := (s.heard .order).updPos p fun q => { q with
            state := .bound, binding := some ⟨orderTote, c, capacity.toNat⟩, fill := 0, floor := 0, lock := none }
          (u.endAll (State.endTask (.failed .cls)) (ascendingIds (s.tasks.filter fun t =>
            t.orderTote == orderTote && t.cls.exceeds c))).settle.answer r .bind .ok)

/-- CLOSE by the position's state: BOUND and PULLED go CLOSING, the state before pull discarded, and on to SWAPPING at
once when the lock is free; every other state is refused STATE, a number above 5 RANGE (R68, R70). -/
def Obligations.Close : Prop :=
  ∀ (r : Req) (pos : Byte) (s : State), r.link = .order → s.listens .order = true →
    (6 ≤ pos.toNat → exec (.close r pos) s = .next (s.refusal r .close .range)) ∧
    ∀ p : Pos, pos.toNat = p.val →
      exec (.close r pos) s = .next (
        if (s.pos p).state = .bound ∨ (s.pos p).state = .pulled then
          let u : State := (s.heard .order).updPos p fun q => { q with state := .closing, beforePull := none }
          (if (s.pos p).lock = none then u.swapOut p else u).settle.answer r .close .ok
        else s.refusal r .close .state)

/-- The swap: SWAPOUT, the timer, every task naming the order tote, none of them lit, ended FAILED(ORDER_TOTE_LEFT) in
ascending task id (R52, R53, R69); SWAPPED ends it at EMPTY with the presence kept, refused STATE in any other state and
RANGE above 5 (R71, whole); SWAP_TIMEOUT ends it so with SWAP_UNCONFIRMED on the order link (R72). -/
def Obligations.Swaps : Prop :=
  (∀ (s : State) (p : Pos) (b : Binding), (s.pos p).binding = some b →
    s.swapOut p = ((s.direct (.swapOut p b.orderTote)).updPos p fun q => { q with
        state := .swapping, swapTimer := some s.returnMs }).endAll State.endInSwap
      (ascendingIds (s.tasks.filter fun t => t.orderTote == b.orderTote))) ∧
  (∀ (s : State) (id : TaskId) (t : Task), s.task? id = some t → s.litAt id = none →
    s.endInSwap id = s.endTask (.failed .orderToteLeft) id ∧
    s.endInSwap id = State.releaseTote t.tote ((State.offer (s.noteOrder (.taskEnded (.failed .orderToteLeft)
        { t with awaitTimer := none } (s.positionOf t.orderTote)))
      { kind := .taskFailed, value := t.sku.setWidth 32, window := s.taskWindow t.tote, tote := t.tote,
        detail := .task t.id (some .orderToteLeft) }).dropTask id)) ∧
  (∀ (r : Req) (pos : Byte) (s : State), r.link = .transport → s.listens .transport = true →
    (6 ≤ pos.toNat → exec (.swapped r pos) s = .next (s.refusal r .swapped .range)) ∧
    ∀ p : Pos, pos.toNat = p.val →
      exec (.swapped r pos) s = .next (
        if (s.pos p).state = .swapping then
          ((s.heard .transport).updPos p fun q => { q with
            state := .empty, binding := none, fill := 0, floor := 0, lock := none, beforePull := none,
            swapTimer := none, lastHolder := none }).answer r .swapped .ok
        else s.refusal r .swapped .state)) ∧
  (∀ (s : State) (p : Pos) (b : Binding), (s.pos p).binding = some b → (s.pos p).state = .swapping →
    (s.pos p).swapTimer.isSome = true →
    exec (.swapTimeout p) s = .next ((s.noteOrder (.swapUnconfirmed p b.orderTote)).updPos p fun q => { q with
      state := .empty, binding := none, fill := 0, floor := 0, lock := none, beforePull := none,
      swapTimer := none, lastHolder := none }).conclude)

/-- PPOS_FALL makes presence absent, and a BOUND or CLOSING position goes PULLED with its lit task unlit; PPOS_RISE
makes it present, and a PULLED position returns to its state before pull, on to SWAPPING from CLOSING with a free lock;
both during the load and while running (R63, R73, R74). -/
def Obligations.PositionSensor : Prop :=
  ∀ (p : Pos) (s : State), s.phase = .loading ∨ s.phase = .running →
    ((s.pos p).present = true →
      exec (.pposFall p) s = .next (State.conclude (
        let pulled (before : PrePull) : State :=
          let u : State := s.updPos p fun q => { q with present := false, state := .pulled, beforePull := some before }
          State.settle (match (s.pos p).lock with
            | some w => u.unlight w .positionPulled
            | none => u)
        if (s.pos p).state = .bound then pulled .bound
        else if (s.pos p).state = .closing then pulled .closing
        else s.updPos p fun q => { q with present := false }))) ∧
    ((s.pos p).present = false →
      exec (.pposRise p) s = .next (State.conclude (
        if (s.pos p).state = .pulled ∧ (s.pos p).beforePull = some .bound then
          State.settle (s.updPos p fun q => { q with present := true, state := .bound, beforePull := none })
        else if (s.pos p).state = .pulled ∧ (s.pos p).beforePull = some .closing then
          let u : State := s.updPos p fun q => { q with present := true, state := .closing, beforePull := none }
          State.settle (if (s.pos p).lock = none then u.swapOut p else u)
        else s.updPos p fun q => { q with present := true })))

/-- The confirm buttons: a press of an ARMED button spends it and, past the guard, confirms all units remaining of the
task lit to its position; early, or with no task lit there, it confirms nothing; a release re-arms it (R123, R124). -/
def Obligations.Buttons : Prop :=
  ∀ (p : Pos) (s : State), s.phase = .loading ∨ s.phase = .running →
    ((s.pos p).pressed = false → (s.pos p).armed = true →
      (∀ (w : Win) (t : Task), s.litTo p = some (w, t) → (s.win w).guardTimer = none →
        exec (.btnPress p) s = .next ((State.confirm w t (t.quantity - t.confirmed)
          (s.updPos p fun q => { q with pressed := true, armed := false })).settle).conclude) ∧
      ((s.litTo p = none ∨ ∃ (w : Win) (t : Task), s.litTo p = some (w, t) ∧ (s.win w).guardTimer.isSome = true) →
        exec (.btnPress p) s = .next (s.updPos p fun q => { q with pressed := true, armed := false }).conclude)) ∧
    ((s.pos p).pressed = true →
      exec (.btnRelease p) s = .next (s.updPos p fun q => { q with pressed := false, armed := true }))

/-! ## Windows -/

/-- ATWIN: the four checks in order, a refused ATWIN changing no state; a taken one sets ATWIN-seen and stops the fetch
timer, and delivers when PRES has risen, or else starts the settle timer with 2 s (R83, whole). -/
def Obligations.AtWin : Prop :=
  ∀ (r : Req) (id : ToteId) (window : Byte) (s : State), r.link = .transport → s.listens .transport = true →
    (id = 0 ∨ 2 ≤ window.toNat → exec (.atWin r id window) s = .next (s.refusal r .atWin .range)) ∧
    ∀ w : Win, id ≠ 0 → window.toNat = w.num →
      exec (.atWin r id window) s = .next (
        match s.tote? id, (s.win w).fetch with
        | none, _ => s.refusal r .atWin .unknown
        | some _, none => s.refusal r .atWin .state
        | some t, some f =>
          if t.state ≠ .fetching w ∨ f.tote ≠ id then s.refusal r .atWin .state
          else if f.atwinSeen then s.refusal r .atWin .already
          else if f.presRisen then
            (((s.heard .transport).updWin w fun x => { x with
              fetch := some { f with atwinSeen := true, fetchTimer := none } }).deliver w false).settle.answer r .atWin .ok
          else ((s.heard .transport).updWin w fun x => { x with
            fetch := some { f with atwinSeen := true, fetchTimer := none, settleTimer := some 2000 } }).answer r .atWin .ok)

/-- A fetch from its choice to its delivery. An opportunity is open to a window in RUN, not held, with no fetch: plain
on an empty lift, preempting on a top that is not FINISHED, after a confirm and with room. With a candidate it gives
one, the first by urgency and headroom, rush, conflict and place in the arrival order (R103 to R107). Its issue queues
FETCH, empties slot and arrival entry, clears RUSH, starts the fetch timer with FETCH_TIMEOUT (item 19) in seconds and
unlights the top (R16, R81, R82, R108, R111); two windows fetch in an open order (R109). Delivery pushes the tote, makes
its READY tasks ACTIVE, counts and offers TOTE_PRESENTED and, after a settle expiry, takes the SENSOR fault (R45, R86,
R87, R89). The model's choices: what decides the open order (log entry 3), and that the second window fetches before the
choice and the SWAPOUT that the first one's unlighting brings (log entry 23). -/
def Obligations.FetchFromChoiceToDelivery : Prop :=
  (∀ (s : State) (w : Win),
    let goes (x : Task) (id : ToteId) (ok : Pos → Bool) : Bool := x.tote == id && x.state == .ready &&
      (s.positionOf x.orderTote).any fun p => (s.pos p).state == .bound && ok p
    let candidate (t : Tote) : Bool := t.state.inLaneNow && !t.expired && s.tasks.any fun x => goes x t.id fun _ => true
    let conflicting (t : Tote) : Bool := s.tasks.any fun x => goes x t.id fun p => decide (x.crushClass < (s.pos p).floor)
    let headroom (t : Tote) : Nat := match s.limit t.cls with
      | none => 16777215
      | some limit => limit - t.account
    let key (t : Tote) : List Nat := [if t.urgent then 0 else 1, if t.urgent then headroom t else 0,
      if t.rush then 0 else 1, if conflicting t then 1 else 0]
    let opened : Prop := s.mode = .run ∧ s.held w = false ∧ (s.win w).fetch = none ∧
      ((s.win w).lift ≠ [] → s.topFinished w = false ∧ 1 ≤ (s.win w).confirms ∧
        (s.win w).lift.length + 1 ≤ (if (s.win w).ret.isSome then 3 else 4))
    let pool : List Tote := (s.arrival.filterMap s.tote?).filter fun t =>
      candidate t && (decide ((s.win w).lift = []) || t.urgent || (t.rush && s.setting 24 == 1))
    (opened → pool ≠ [] → (s.fetchChoice w).isSome = true) ∧
    (s.fetchChoice w = none → s.takeFetch w = s) ∧
    ∀ t : Tote, s.fetchChoice w = some t →
      opened ∧
      (∃ before after : List Tote, pool = before ++ t :: after ∧
        (∀ u ∈ before, keyLt (key t) (key u) = true) ∧ (∀ u ∈ after, keyLt (key u) (key t) = false)) ∧
      ∀ slot : Slot, t.state = .inLane slot →
        s.takeFetch w = State.unlight w .preempt { (s.direct (.fetch t.id slot w)).updWin w (fun x => { x with
            fetch := some { tote := t.id, kind := if x.lift = [] then .plain else .preempting,
                            fetchTimer := some (s.setting 19 * 1000), atwinSeen := false, presRisen := false,
                            settleTimer := none }
            blockTimer := none }) with
          lane := s.lane.set slot none
          arrival := s.arrival.filter fun a => a != t.id
          totes := s.totes.map fun x =>
            if x.id = t.id then { x with state := .fetching w, rush := false, orphanTimer := none } else x }) ∧
  (∀ s : State, s.fetchFirst =
    if (s.fetchChoice .w0).isSome = true ∧ (s.fetchChoice .w1).isSome = true then
      (if Config.freeBit s.free = true then State.takeFetch .w1 (State.takeFetch .w0 { s with free := s.free + 1 })
        else State.takeFetch .w0 (State.takeFetch .w1 { s with free := s.free + 1 }))
    else State.takeFetch .w1 (State.takeFetch .w0 s)) ∧
  ∀ (s : State) (settled : Bool) (w : Win) (f : Fetch), (s.win w).fetch = some f → (s.win w).lit = none →
    let u : State := { s.updWin w (fun x => { x with
        lift := f.tote :: x.lift, fetch := none, confirms := 0, blockTimer := none }) with
      totes := s.totes.map fun t => if t.id = f.tote then { t with state := .onLift w } else t
      tasks := s.tasks.map fun x => if x.tote = f.tote ∧ x.state = .ready then { x with state := .active } else x
      counters := { s.counters with presentations := s.counters.presentations + 1 } }
    let v : State := match s.tote? f.tote with
      | some t => u.offer { kind := .totePresented, value := t.id, window := some w, tote := t.id,
                            detail := .tote t.cls t.account }
      | none => u
    s.deliver w settled =
      if settled = true then
        (v.updWin w fun x => { x with holds := { x.holds with fault := true }, faultCause := some .sensor }).noteBoth
          (.windowFault w .sensor f.tote)
      else v

/-- PRES_RISE during a fetch counts and, after ATWIN, delivers; PRES_FALL during a fetch is taken back, at a PRESENTING
window with no return in flight it unlights and takes a PULLED fault, and is presence alone otherwise; a fault sets the
FAULT hold with its cause and queues WINDOW_FAULT on both links (R80, R85, R89, R90). That the hold is taken before the
swap-out of a CLOSING position whose task was unlit is DEDUCED (log entry 22). -/
def Obligations.WindowSensor : Prop :=
  (∀ (w : Win) (s : State), s.phase = .loading ∨ s.phase = .running →
    ((s.win w).present = false →
      exec (.presRise w) s = .next (State.conclude (match (s.win w).fetch with
        | none => s.updWin w fun x => { x with present := true }
        | some f =>
          let u : State := s.updWin w fun x => { x with present := true, fetch := some { f with presRisen := true } }
          if f.atwinSeen then (u.deliver w false).settle else u))) ∧
    ((s.win w).present = true →
      exec (.presFall w) s = .next (State.conclude (match (s.win w).fetch, (s.win w).ret, (s.win w).lift with
        | some f, _, _ => s.updWin w fun x => { x with present := false, fetch := some { f with presRisen := false } }
        | none, none, id :: _ => State.settle (State.takeFault w .pulled id
            ((s.updWin w fun x => { x with present := false }).unlight w .windowPulled))
        | _, _, _ => s.updWin w fun x => { x with present := false })))) ∧
  (∀ (w : Win) (cause : WinFault) (id : ToteId) (s : State), (s.win w).lit = none →
    s.takeFault w cause id =
      (s.updWin w fun x => { x with holds := { x.holds with fault := true }, faultCause := some cause }).noteBoth
        (.windowFault w cause id))

/-- The timers of a window: SETTLE_EXPIRY delivers with the SENSOR fault; FETCH_TIMEOUT gives the tote up, with
TOTE_LOST, its tasks WAITING and a FETCH fault; WINDOW_RETURN_TIMEOUT ends the return with RETURN_UNCONFIRMED;
BLOCK_TIMER_EXPIRY finishes the top, or under a lit task leaves the timer at its end; the block timer runs with
BLOCK_HOLD (item 23) in seconds, or expires at once with 0, while the window is PRESENTING, not held, its top not
FINISHED, and every task of the top goes to a position that is not BOUND, of which it has one at least; GUARD_EXPIRY
ends the guard; CONFIRM_PERIOD_EXPIRY makes the lit task OVERDUE with its notice on both links (R87, R88, R92, R93, R97,
R98, R120, R128). That the expiry of the block timer, with BLOCK_HOLD 0 too, waits until a task lit to a CLOSING
position is no longer lit (R46, R68) is DEDUCED (log entry 13), and so is a PULLED hold before the swap-out that its
unlighting brings (log entry 22). -/
def Obligations.WindowTimers : Prop :=
  (∀ (s : State) (w : Win) (f : Fetch), (s.win w).fetch = some f → f.settleTimer.isSome = true →
    exec (.settleExpiry w) s = .next (s.deliver w true).settle.conclude) ∧
  (∀ (s : State) (w : Win) (f : Fetch), (s.win w).fetch = some f → f.fetchTimer.isSome = true →
    ∀ x : Tote, s.tote? f.tote = some x →
    exec (.fetchTimeout w) s = .next (State.takeFault w .fetch f.tote
      { (s.updWin w fun y => { y with fetch := none }).noteOrder (.toteLost x.id x.cls x.account w) with
        tasks := s.tasks.map fun y =>
          if y.tote = f.tote then { y with state := .waiting, awaitTimer := some (s.setting 22 * 10000) } else y
        totes := s.totes.filter fun y => y.id != f.tote }).settle.conclude) ∧
  (∀ (s : State) (w : Win) (q : Return), (s.win w).ret = some q →
    let u : State := { s.updWin w (fun x => { x with ret := none }) with
      totes := s.totes.filter fun y => y.id != q.tote
      orderQueue := s.orderQueue.push (.returnUnconfirmed q.tote (.window w)) }
    exec (.windowReturnTimeout w) s = .next (State.conclude (State.settle (match (s.win w).fetch, (s.win w).lift with
      | none, id :: _ =>
        if (s.win w).present = false then (u.unlight w .windowPulled).takeFault w .pulled id else u
      | _, _ => u)))) ∧
  (∀ (s : State) (w : Win), (s.win w).blockTimer.isSome = true → (s.win w).lit.isSome = true →
    exec (.blockTimerExpiry w) s = .next (s.updWin w fun x => { x with blockTimer := some 0 })) ∧
  (∀ (s : State) (w : Win), (s.win w).blockTimer.isSome = true → (s.win w).lit = none →
    exec (.blockTimerExpiry w) s = .next (State.conclude (State.settle
      (let u : State := s.updWin w fun x => { x with blockTimer := none }
       match (s.win w).lift with
       | id :: _ => u.updTote id fun x => { x with finished := true }
       | [] => u)))) ∧
  (∀ (s : State) (w : Win) (id : ToteId) (t : Tote), s.top? w = some id → s.tote? id = some t →
    s.finishTest w =
      if t.expired = true ∨ ¬ ∃ x ∈ s.tasks, x.tote = id then
        s.updTote id fun x => { x with finished := true }
      else s) ∧
  (∀ (s : State) (w : Win), (s.win w).guardTimer.isSome = true →
    exec (.guardExpiry w) s = .next (s.updWin w fun x => { x with guardTimer := none })) ∧
  (∀ (s : State) (w : Win) (id : TaskId), (s.win w).lit = some id → (s.win w).confirmTimer.isSome = true →
    ∀ t : Task, s.task? id = some t →
    exec (.confirmPeriodExpiry w) s = .next (State.conclude
      (((s.updWin w fun x => { x with confirmTimer := none }).updTask id fun x => { x with overdue := true }).noteBoth
        (.overdue id w (s.positionOf t.orderTote) t.confirmed t.quantity)))) ∧
  ∀ (s : State) (w : Win),
    (s.blocked w = true ↔ (s.win w).fetch = none ∧ s.held w = false ∧ s.topFinished w = false ∧
      ∃ id : ToteId, (s.win w).lift.head? = some id ∧ (∃ t ∈ s.tasks, t.tote = id) ∧
        ∀ t ∈ s.tasks, t.tote = id → ∀ p : Pos, s.positionOf t.orderTote = some p → (s.pos p).state ≠ .bound) ∧
    (s.blocked w = false → s.setBlock w = s.updWin w fun x => { x with blockTimer := none }) ∧
    (s.blocked w = true → (s.win w).blockTimer.isSome = true → s.setBlock w = s) ∧
    (s.blocked w = true → (s.win w).blockTimer = none → s.setting 23 ≠ 0 ∨ (s.win w).lit ≠ none →
      s.setBlock w = s.updWin w fun x => { x with blockTimer := some (s.setting 23 * 1000) }) ∧
    (s.blocked w = true → (s.win w).blockTimer = none → s.setting 23 = 0 → (s.win w).lit = none →
      ∀ id : ToteId, s.top? w = some id → s.setBlock w = s.updTote id fun t => { t with finished := true }) ∧
    (s.setting 23 ≠ 0 ∨ (s.settle.win w).lit ≠ none → (s.settle.win w).blockTimer.isSome = s.settle.blocked w)

/-- The window SENDBACK: the direction, the pop with the fetch of an emptied lift PLAIN, the tasks WAITING afresh with
AWAIT_DEADLINE (item 22) times 10 s, the return with a timer of RETURN_TIMEOUT (item 20) in seconds, confirms 0 for the
tote brought up, which is tested for FINISHED (R46, R48, R94, R95). -/
def Obligations.WindowSendBack : Prop :=
  ∀ (s : State) (w : Win) (id : ToteId) (rest : List ToteId), (s.win w).lift = id :: rest → id ∉ rest →
    let t : State := s.sendBack w
    t.directions = (s.direct (.sendBack id (.window w))).directions ∧
    (t.win w).lift = rest ∧ (t.win w).ret = some ⟨id, s.setting 20 * 1000⟩ ∧ (t.win w).blockTimer = none ∧
    (rest = [] → (t.win w).fetch = (s.win w).fetch.map fun f => { f with kind := .plain }) ∧
    (rest ≠ [] → (t.win w).fetch = (s.win w).fetch ∧ (t.win w).confirms = 0) ∧
    (∀ x : Tote, t.tote? id = some x → x.state = .leavingWin w ∧ x.finished = false) ∧
    t.tasks = (s.tasks.map fun x =>
      if x.tote = id then { x with state := .waiting, awaitTimer := some (s.setting 22 * 10000) } else x) ∧
    (∀ (top : ToteId) (x : Tote), rest.head? = some top → s.tote? top = some x →
      x.expired = true ∨ s.named top = false → t.topFinished w = true) ∧
    t.totes.map Tote.charged = s.totes.map Tote.charged ∧ t.base = s.base ∧ t.counters = s.counters ∧
    t.positions = s.positions ∧ t.orderQueue = s.orderQueue ∧ t.benchQueue = s.benchQueue

/-! ## Picking -/

/-- PICKED: the checks in order, ALREADY for the last ended task of a window; CLAMPED when the count exceeds the units
remaining; the confirm is that of R122 (R121). That ALREADY follows the table of R121, so that it also answers an id
that was posted again since and ended unlit, is the model's choice (log entry 24). -/
def Obligations.Picked : Prop :=
  ∀ (r : Req) (id : TaskId) (count : Byte) (s : State), r.link = .bench → s.listens .bench = true →
    exec (.picked r id count) s = .next (
      if id = 0 ∨ count.toNat = 0 ∨ 99 < count.toNat then s.refusal r .picked .range
      else match s.task? id with
      | none =>
        if (s.win .w0).lastEnded = some id ∨ (s.win .w1).lastEnded = some id then s.refusal r .picked .already
        else s.refusal r .picked .unknown
      | some t =>
        match (if t.state = .lit then s.litAt id else none) with
        | none => s.refusal r .picked .notLit
        | some w =>
          if (s.win w).guardTimer.isSome then s.refusal r .picked .early
          else (State.confirm w t count.toNat (s.heard .bench)).settle.answer r .picked
            (if t.quantity - t.confirmed < count.toNat then .clamped else .ok))

/-- A confirm of a lit task takes the count or the units remaining: UNITS, fill, floor and confirms since top rise,
OVERCOUNT marks an excess, a full BOUND position closes, and nothing else changes; a task with units left stays lit, its
timers running; one with none left then ends DONE, OVERCOUNT in its notice (R66, R67, R122). -/
def Obligations.ConfirmTakesUnits : Prop :=
  ∀ (s : State) (count : Nat) (w : Win) (id : TaskId) (t : Task), s.task? id = some t →
    ∀ p : Pos, s.positionOf t.orderTote = some p → ∀ b : Binding, (s.pos p).binding = some b → (s.pos p).lock = some w →
    t.confirmed ≤ t.quantity →
    let k : Nat := min count (t.quantity - t.confirmed)
    let x : Task := { t with
      confirmed := t.confirmed + k, overcount := t.overcount || decide (t.quantity - t.confirmed < count) }
    let fill : Nat := min ((s.pos p).fill + t.unitVolume * k) 255
    let full : Prop := (s.pos p).state = .bound ∧ b.capacity ≤ fill
    let put : State := s.updPos p fun q => { q with
      fill := fill, floor := max q.floor t.crushClass, state := if full then .closing else q.state
      beforePull := if full then none else q.beforePull }
    let v : State := { put.updWin w (fun y => { y with confirms := min (y.confirms + 1) 255 }) with
      tasks := s.tasks.map fun y => if y.id = t.id then { y with
        confirmed := y.confirmed + k, overcount := y.overcount || decide (t.quantity - t.confirmed < count) } else y
      counters := { s.counters with units := s.counters.units + BitVec.ofNat 32 k } }
    let u : State := s.confirm w t count
    (t.confirmed + k < t.quantity → u = v) ∧ (t.confirmed + k = t.quantity → u = State.endTask .done t.id v) ∧
    v.task? t.id = some x ∧
    u.counters = { s.counters with units := s.counters.units + BitVec.ofNat 32 k } ∧ u.base = s.base ∧
    u.totes.map Tote.charged = s.totes.map Tote.charged ∧
    (u.pos p).fill = fill ∧
    (u.pos p).floor = max (s.pos p).floor t.crushClass ∧
    (t.confirmed + k = t.quantity →
      u.task? t.id = none ∧
        (s.orderQueue.push (.taskEnded .done { x with
          state := if (s.litAt t.id).isSome = true then .lit else t.state, awaitTimer := none } (some p))).entries <+:
          u.orderQueue.entries)

/-- SHORT ends a lit task SHORT with SHORTS one more; TOTEBAD finishes a top tote, ends its tasks FAILED(TOTE_BAD) in
ascending task id and sends it back when the window may; both with their refusals (R125, R127). -/
def Obligations.ShortAndToteBad : Prop :=
  (∀ (r : Req) (id : TaskId) (s : State), r.link = .bench → s.listens .bench = true →
    exec (.short r id) s = .next (
      if id = 0 then s.refusal r .short .range
      else match s.task? id with
      | none => s.refusal r .short .unknown
      | some t =>
        if t.state = .lit ∧ (s.litAt id).isSome then
          (State.endTask .short id { s.heard .bench with
            counters := { s.counters with shorts := s.counters.shorts + 1 } }).settle.answer r .short .ok
        else s.refusal r .short .notLit)) ∧
  (∀ (r : Req) (id : ToteId) (s : State), r.link = .bench → s.listens .bench = true →
    exec (.toteBad r id) s = .next (
      if id = 0 then s.refusal r .toteBad .range
      else if s.tote? id = none then s.refusal r .toteBad .unknown
      else
        let bad (w : Win) : State :=
          State.answer (State.settle (State.sendIfDue w
            (((s.heard .bench).updTote id fun x => { x with finished := true }).endAll (State.endTask (.failed .toteBad))
              (ascendingIds (s.tasks.filter fun t => t.tote == id))))) r .toteBad .ok
        if (s.win .w0).lift.head? = some id then bad .w0
        else if (s.win .w1).lift.head? = some id then bad .w1
        else s.refusal r .toteBad .notLit))

/-- A window chooses when it is PRESENTING, not held, its top not FINISHED and nothing lit: it takes a litable task that
no other litable one precedes under the four keys (conflict-free, lower crush class, lower position, lower task id), and
takes one whenever there is any; lighting it takes the lock, starts the timers, P = 4 s × 2^code of item 17 and G = P ×
code / 8 of item 18, and queues TASK_LIT (R116 to R118, R120). A task is litable when it is ACTIVE, its tote on top of a
window not held, its position BOUND and not locked by the other window (R40). Where both windows choose and each has a
litable task to one position, the lowest such position's arbiter lets the window choose first that was not the last to
hold it, W0 if none was (R119); else the order is open (log entry 3). -/
def Obligations.ChoiceIsFirst : Prop :=
  (∀ (s : State) (w : Win) (c : Task × Pos), s.choice w = some c →
    s.chooses w = true ∧ c ∈ s.litable w ∧ ∀ d ∈ s.litable w,
      keyLt [if s.conflicts d.1 d.2 then 1 else 0, d.1.crushClass, d.2.val, d.1.id.toNat]
        [if s.conflicts c.1 c.2 then 1 else 0, c.1.crushClass, c.2.val, c.1.id.toNat] = false) ∧
  (∀ (s : State) (w : Win), s.chooses w = true → s.litable w ≠ [] → (s.choice w).isSome = true) ∧
  (∀ (s : State) (w : Win) (c : Task × Pos), s.choice w = some c → s.task? c.1.id = some c.1 →
    let u : State := State.light w c s
    let period : Ms := 4000 * 2 ^ s.setting 17
    let guard : Ms := period * s.setting 18 / 8
    let x : Task := { c.1 with state := .lit, crush := c.1.crush || s.conflicts c.1 c.2 }
    u.task? c.1.id = some x ∧ (u.pos c.2).lock = some w ∧ (u.pos c.2).lastHolder = some w ∧
    u.win w = { s.win w with
      lit := some c.1.id, confirmTimer := some period,
      guardTimer := if guard = 0 then none else some guard } ∧
    u.benchQueue = s.benchQueue.push
      (.taskLit x w c.2 (if x.crush || x.overdue then .flash else .steady) period guard) ∧
    u.base = s.base ∧ u.counters = s.counters ∧ u.totes = s.totes ∧ u.orderQueue = s.orderQueue ∧
    u.directions = s.directions ∧ (∀ v : Win, v ≠ w → u.win v = s.win v) ∧ (∀ q : Pos, q ≠ c.2 → u.pos q = s.pos q)) ∧
  (∀ (s : State) (w : Win),
    (s.chooses w = true ↔ (s.win w).lift ≠ [] ∧ (s.win w).fetch = none ∧ s.held w = false ∧ s.topFinished w = false ∧
      (s.win w).lit = none) ∧
    (∀ (t : Task) (p : Pos), (t, p) ∈ s.litable w ↔ t ∈ s.tasks ∧ t.state = .active ∧ s.top? w = some t.tote ∧
      s.held w = false ∧ s.positionOf t.orderTote = some p ∧ (s.pos p).state = .bound ∧
      (s.pos p).lock ≠ some w.other) ∧
    (s.choice w = none → s.chooseAt w = s) ∧
    (∀ c : Task × Pos, s.choice w = some c → s.chooseAt w = s.light w c)) ∧
  ∀ s : State,
    (s.choice .w0 = none ∨ s.choice .w1 = none → s.chooseBoth = State.chooseAt .w1 (s.chooseAt .w0)) ∧
    (s.choice .w0 ≠ none → s.choice .w1 ≠ none →
      let shared (p : Pos) : Prop := (∃ t : Task, (t, p) ∈ s.litable .w0) ∧ ∃ t : Task, (t, p) ∈ s.litable .w1
      (∀ p : Pos, shared p → (∀ q : Pos, q < p → ¬ shared q) →
        let first : Win := match (s.pos p).lastHolder with
          | some w => w.other
          | none => .w0
        s.chooseBoth = State.chooseAt first.other (s.chooseAt first)) ∧
      ((∀ p : Pos, ¬ shared p) → s.chooseBoth =
        if Config.freeBit s.free = true then State.chooseAt .w1 (State.chooseAt .w0 { s with free := s.free + 1 })
        else State.chooseAt .w0 (State.chooseAt .w1 { s with free := s.free + 1 })))

/-! ## Bench control and watches -/

/-- MODE: the three checks in order, a refused MODE changing no state (R135, whole); a change to RUN lets the windows
take their fetch opportunities, any other acts on the mode alone (R136). -/
def Obligations.ModeRequest : Prop :=
  ∀ (r : Req) (mode : Byte) (s : State), r.link = .order → s.listens .order = true →
    exec (.mode r mode) s = .next (
      if 2 < mode.toNat then s.refusal r .mode .range
      else if s.settings.job.isSome then s.refusal r .mode .busy
      else
        let m : Mode := if mode.toNat = 0 then .run else if mode.toNat = 1 then .drain else .service
        let clear (w : Win) : Bool := (s.win w).lift == [] && (s.win w).fetch.isNone && (s.win w).ret.isNone
        if m = .service ∧ s.mode ≠ .service ∧ ¬ (clear .w0 = true ∧ clear .w1 = true) then s.refusal r .mode .busy
        else if m = s.mode then (s.heard .order).answer r .mode .ok
        else
          let u : State := { s.heard .order with mode := m }
          (if m = .run then u.settle else u).answer r .mode .ok)

/-- CLEAR is refused BUSY while a store is in flight; else no task is left, nothing is lit or locked, the mode is DRAIN,
the link holds are released with LINE and FAULT kept, every watch is disabled, every cursor at 0; records, accounts,
bindings, fills, settings and counters are kept (R58, R77, R132, R142, R146, R163). BENCH_CLEARED is the first notice it
queues, on both links; lane, arrival order and presence are kept, and so are fetches and returns in flight, confirms
since top and the records and timers of FETCHING and LEAVING totes; a lane tote that had a task starts its orphan timer;
a CLOSING position goes SWAPPING; the top of a window not held, with no return in flight, is sent back (R18, R68, R77,
R94, R102, R142). That the queue's head goes on the line within the event is the model's choice (log entry 4). -/
def Obligations.Clear : Prop :=
  ∀ (r : Req) (s : State), r.link = .order → s.listens .order = true →
    (s.settings.job.isSome = true → exec (.clear r) s = .next (s.refusal r .clear .busy)) ∧
    (s.settings.job = none → ∃ t : State, exec (.clear r) s = .next t ∧
      t.tasks = [] ∧ t.mode = .drain ∧ t.counters = s.counters ∧ t.settings = s.settings ∧ t.exposure = s.exposure ∧
      t.phase = s.phase ∧ t.holdLine = s.holdLine ∧ t.totes.map Tote.charged = s.totes.map Tote.charged ∧
      (∀ w : Win, (t.win w).lit = none ∧ (t.win w).confirmTimer = none ∧ (t.win w).guardTimer = none ∧
        (t.win w).lastEnded = (s.win w).lastEnded ∧ (t.win w).faultCause = (s.win w).faultCause ∧
        (t.win w).holds = { (s.win w).holds with order := false, transport := false, bench := false }) ∧
      (∀ p : Pos, (t.pos p).lock = none ∧ (t.pos p).binding = (s.pos p).binding ∧ (t.pos p).fill = (s.pos p).fill ∧
        (t.pos p).floor = (s.pos p).floor ∧ (t.pos p).lastHolder = (s.pos p).lastHolder) ∧
      (∀ n : Fin 4, t.watches[n] = { s.watches[n] with owner := none }) ∧
      (∀ l : Link, (t.port l).cursor = ⟨(s.port l).cursor.kind, 0⟩) ∧
      t.lane = s.lane ∧ t.arrival = s.arrival ∧
      (∀ w : Win, (t.win w).present = (s.win w).present) ∧ (∀ p : Pos, (t.pos p).present = (s.pos p).present) ∧
      (s.linksWf = true →
        (if (s.port .bench).transmitter.isSome = true then
          (s.benchQueue.push .benchCleared).entries <+: t.benchQueue.entries
         else (t.port .bench).transmitter = some (.notice .benchCleared s.benchQueue.lost)) ∧
        (if (s.port .order).transmitter.isSome = true then
          (s.orderQueue.push .benchCleared).entries <+: t.orderQueue.entries
         else if r.tag = 0xFFFFFF then (t.port .order).transmitter = some (.notice .benchCleared s.orderQueue.lost)
         else (t.port .order).transmitter = some (.reply ⟨true, r.tag, 0x26, .ok, []⟩) ∧
          [.benchCleared] <+: t.orderQueue.entries)) ∧
      (s.totesWf → s.placesWf → ∀ (id : ToteId) (x : Tote) (l : Slot), s.tote? id = some x → x.state = .inLane l →
        t.tote? id = some { x with orphanTimer := if s.named id = true then some s.orphanMs else x.orphanTimer }) ∧
      (∀ p : Pos, (s.pos p).state = .closing → (s.pos p).binding ≠ none →
        (t.pos p).state = .swapping ∧ (t.pos p).swapTimer = some s.returnMs) ∧
      (∀ p : Pos, (s.pos p).state ≠ .closing → (t.pos p).state = (s.pos p).state ∧
        (t.pos p).swapTimer = (s.pos p).swapTimer) ∧
      (s.totesWf → s.placesWf → ∀ (w : Win) (id : ToteId) (rest : List ToteId), (s.win w).lift = id :: rest →
        if (s.win w).holds.line = false ∧ (s.win w).holds.fault = false ∧ (s.win w).ret = none then
          (t.win w).lift = rest ∧ (t.win w).ret = some ⟨id, s.returnMs⟩
        else (t.win w).lift = id :: rest ∧ (t.win w).ret = (s.win w).ret) ∧
      (∀ w : Win, (t.win w).blockTimer = none ∧
        (if (t.win w).lift = (s.win w).lift then (t.win w).fetch = (s.win w).fetch ∧
          (t.win w).confirms = (s.win w).confirms
         else if (t.win w).lift = [] then
          (t.win w).fetch = ((s.win w).fetch.map fun f => { f with kind := .plain }) ∧
            (t.win w).confirms = (s.win w).confirms
         else (t.win w).fetch = (s.win w).fetch ∧ (t.win w).confirms = 0) ∧
        ((s.win w).lift = [] → (t.win w).lift = [] ∧ (t.win w).ret = (s.win w).ret) ∧
        ((s.win w).ret.isSome = true → (t.win w).lift = (s.win w).lift ∧ (t.win w).ret = (s.win w).ret)) ∧
      (s.totesWf → s.placesWf → ∀ (id : ToteId) (x : Tote), s.tote? id = some x → ∃ y : Tote, t.tote? id = some y ∧
        match x.state with
        | .inLane _ => { y with orphanTimer := x.orphanTimer } = x
        | .onLift _ => { y with state := x.state, finished := x.finished } = x
        | _ => y = x))

/-- HOLD adds and RESUME removes the source of its link, ORDER, TRANSPORT or BENCH, at the windows named, a bench RESUME
FAULT with its cause too; the pedal adds and removes LINE at both; a window newly held unlights its task with cause
HOLD, in an open order where both do; then the windows act on the sources as they stand, a released one sending back its
FINISHED top, choosing, setting its block timer and fetching; a set naming no window is RANGE (R91, R138 to R141). What
decides the open order is the model's choice (log entry 3). -/
def Obligations.HoldSources : Prop :=
  (∀ (r : Req) (windows : Byte) (s : State), s.listens r.link = true →
    (windows.toNat = 0 ∨ 3 < windows.toNat →
      exec (.hold r windows) s = .next (s.refusal r .hold .range) ∧
      exec (.resume r windows) s = .next (s.refusal r .resume .range)) ∧
    (1 ≤ windows.toNat → windows.toNat ≤ 3 →
      let named (w : Win) : Bool := windows.getLsbD w.num
      let set (l : Link) (b : Bool) (h : Holds) : Holds := match l with
        | .order => { h with order := b }
        | .transport => { h with transport := b }
        | .bench => { h with bench := b }
      (∃ t : State, exec (.hold r windows) s = .next t ∧ t.counters = s.counters ∧
        t.totes.map Tote.charged = s.totes.map Tote.charged ∧ t.mode = s.mode ∧
        ∀ w : Win, (t.win w).holds = (if named w then set r.link true (s.win w).holds else (s.win w).holds) ∧
          (t.win w).faultCause = (s.win w).faultCause ∧
          (∀ id : TaskId, (s.win w).lit = some id → named w = true → s.held w = false → (s.task? id).isSome = true →
            (t.win w).lit = none ∧ (t.win w).confirmTimer = none ∧ (t.win w).guardTimer = none)) ∧
      (∃ t : State, exec (.resume r windows) s = .next t ∧ t.counters = s.counters ∧
        t.totes.map Tote.charged = s.totes.map Tote.charged ∧ t.mode = s.mode ∧
        ∀ w : Win, (t.win w).holds = (if named w then
            (if r.link = .bench then { (s.win w).holds with bench := false, fault := false }
              else set r.link false (s.win w).holds)
            else (s.win w).holds) ∧
          (t.win w).faultCause = (if named w = true ∧ r.link = .bench then none else (s.win w).faultCause)))) ∧
  (∀ s : State, s.phase = .loading ∨ s.phase = .running →
    (s.holdLine = false → ∃ t : State, exec .holdLineAsserted s = .next t ∧ t.holdLine = true ∧ t.counters = s.counters ∧
      t.totes.map Tote.charged = s.totes.map Tote.charged ∧
      ∀ w : Win, (t.win w).holds = { (s.win w).holds with line := true } ∧
        (∀ id : TaskId, (s.win w).lit = some id → s.held w = false → (s.task? id).isSome = true →
          (t.win w).lit = none ∧ (t.win w).confirmTimer = none ∧ (t.win w).guardTimer = none)) ∧
    (s.holdLine = true → ∃ t : State, exec .holdLineReleased s = .next t ∧ t.holdLine = false ∧ t.counters = s.counters ∧
      t.totes.map Tote.charged = s.totes.map Tote.charged ∧
      ∀ w : Win, (t.win w).holds = { (s.win w).holds with line := false })) ∧
  ∀ s : State,
    let change (ws : Win → Bool) (f : Window → Window) (x : State) : State :=
      let one (w : Win) (x : State) : State := if ws w then x.updWin w f else x
      one .w1 (one .w0 x)
    let unlit (v : State) : State :=
      let newly (w : Win) : Bool := !s.held w && v.held w
      let one (w : Win) (x : State) : State := if newly w then x.unlight w .hold else x
      if newly .w0 && newly .w1 && (s.win .w0).lit.isSome && (s.win .w1).lit.isSome then
        (if Config.freeBit s.free = true then one .w1 (one .w0 { v with free := s.free + 1 })
          else one .w0 (one .w1 { v with free := s.free + 1 }))
      else one .w1 (one .w0 v)
    let set (l : Link) (b : Bool) (h : Holds) : Holds := match l with
      | .order => { h with order := b }
      | .transport => { h with transport := b }
      | .bench => { h with bench := b }
    (∀ (r : Req) (windows : Byte), s.listens r.link = true → 1 ≤ windows.toNat → windows.toNat ≤ 3 →
      let named (w : Win) : Bool := windows.getLsbD w.num
      exec (.hold r windows) s = .next (State.answer (State.settle (unlit (change named
        (fun x => { x with holds := set r.link true x.holds }) (s.heard r.link)))) r .hold .ok) ∧
      exec (.resume r windows) s = .next (State.answer (State.settle (change named
        (fun x => if r.link = .bench then { x with
            holds := { x.holds with bench := false, fault := false }, faultCause := none }
          else { x with holds := set r.link false x.holds }) (s.heard r.link))) r .resume .ok)) ∧
    (s.phase = .loading ∨ s.phase = .running →
      (s.holdLine = false → exec .holdLineAsserted s = .next (State.conclude (State.settle (unlit (change (fun _ => true)
        (fun x => { x with holds := { x.holds with line := true } }) { s with holdLine := true }))))) ∧
      (s.holdLine = true → exec .holdLineReleased s = .next (State.conclude (State.settle (change (fun _ => true)
        (fun x => { x with holds := { x.holds with line := false } }) { s with holdLine := false })))))

/-- WATCH: the checks in order, a refused WATCH changing no state, and its two effects, the other fields of a disabling
one neither checked nor stored (R147, whole). -/
def Obligations.Watch : Prop :=
  ∀ (r : Req) (entry enabled subject : Byte) (low high : BitVec 32) (combine events windows : Byte) (s : State),
    s.listens r.link = true →
    (r.link = .transport →
      exec (.watch r entry enabled subject low high combine events windows) s = .next (s.refusal r .watch .authority)) ∧
    ∀ l : NoticeLink, (l = .order ∧ r.link = .order) ∨ (l = .bench ∧ r.link = .bench) →
      (4 ≤ entry.toNat ∨ 2 ≤ enabled.toNat ∨
          (enabled.toNat = 1 ∧ (2 ≤ subject.toNat ∨ 2 ≤ combine.toNat ∨ events.toNat = 0 ∨
            (subject.toNat = 0 ∧ 15 < events.toNat) ∨ (subject.toNat = 1 ∧ 7 < events.toNat) ∨ windows.toNat = 0 ∨
            3 < windows.toNat ∨ (combine.toNat = 0 ∧ high.toNat < low.toNat))) →
        exec (.watch r entry enabled subject low high combine events windows) s = .next (s.refusal r .watch .range)) ∧
      ∀ n : Fin 4, entry.toNat = n.val →
        (enabled.toNat = 0 →
          exec (.watch r entry enabled subject low high combine events windows) s = .next (
            if s.watches[n].owner = none ∨ s.watches[n].owner = some l then
              ((s.heard r.link).setWatch n { s.watches[n] with owner := none }).answerPort r .watch .ok []
            else s.refusal r .watch .owned)) ∧
        (enabled.toNat = 1 → subject.toNat < 2 → combine.toNat < 2 → events.toNat ≠ 0 →
          events.toNat ≤ (if subject.toNat = 0 then 15 else 7) → windows.toNat ≠ 0 → windows.toNat ≤ 3 →
          (combine.toNat = 0 → low.toNat ≤ high.toNat) →
          exec (.watch r entry enabled subject low high combine events windows) s = .next (
            if s.watches[n].owner = none ∨ s.watches[n].owner = some l then
              ((s.heard r.link).setWatch n
                { owner := some l, subject := if subject.toNat = 0 then .tote else .sku, low := low, high := high,
                  combine := if combine.toNat = 0 then .both else .either, events := events,
                  windows := ⟨windows.getLsbD 0, windows.getLsbD 1⟩ }).answerPort r .watch .ok []
            else s.refusal r .watch .owned))

/-- An offered event is tested against the four entries in entry number order; an entry matches when it is enabled, the
event is of its subject and set, the value within its bounds and the window in its set (both windows for an event at
none), and each match queues one WATCH notice on its owner's link, nothing else changing (R146, R148, R149). -/
def Obligations.Matching : Prop :=
  (∀ (s : State) (ev : WatchEvent), s.offer ev = State.offerTo ev 3 (State.offerTo ev 2 (State.offerTo ev 1
    (State.offerTo ev 0 s)))) ∧
  (∀ (s : State) (ev : WatchEvent) (n : Fin 4),
    (s.watches[n].accepts ev = false → State.offerTo ev n s = s) ∧
    (s.watches[n].accepts ev = true → s.watches[n].owner = some .order →
      State.offerTo ev n s = { s with orderQueue := s.orderQueue.push (.watch n ev) }) ∧
    (s.watches[n].accepts ev = true → s.watches[n].owner = some .bench →
      State.offerTo ev n s = { s with benchQueue := s.benchQueue.push (.watch n ev) })) ∧
  (∀ (e : WatchEntry) (ev : WatchEvent), e.accepts ev = true ↔
    e.owner ≠ none ∧
    (match ev.kind with
      | .totePresented => e.subject = .tote ∧ e.events.getLsbD 0 = true
      | .toteReturned => e.subject = .tote ∧ e.events.getLsbD 1 = true
      | .toteUrgent => e.subject = .tote ∧ e.events.getLsbD 2 = true
      | .toteExpired => e.subject = .tote ∧ e.events.getLsbD 3 = true
      | .taskDone => e.subject = .sku ∧ e.events.getLsbD 0 = true
      | .taskShort => e.subject = .sku ∧ e.events.getLsbD 1 = true
      | .taskFailed => e.subject = .sku ∧ e.events.getLsbD 2 = true) ∧
    (if e.combine = .both then e.low ≤ ev.value ∧ ev.value ≤ e.high else e.low ≤ ev.value ∨ ev.value ≤ e.high) ∧
    (match ev.window with
      | some .w0 => e.windows.w0 = true
      | some .w1 => e.windows.w1 = true
      | none => e.windows.w0 = true ∧ e.windows.w1 = true))

/-! ## Invariants -/

/-- The part right after power-on meets every invariant stated below (R3, R39, R60, R79, R145). Line levels, image and
working copy before the load ends are the model's choices (log entries 5, 6 and 7). -/
def Obligations.ResetMeetsInvariants : Prop :=
  State.reset.linksWf = true ∧ State.reset.totesWf ∧ State.reset.tablesWf ∧ State.reset.liftsWf = true ∧
    State.reset.serviceClear = true ∧ State.reset.settingsWf = true ∧ State.reset.placesWf ∧ State.reset.litWf

/-- Every step keeps the link ports well formed: at most 16 notices and 24 directions queued, nothing left to send at an
idle transmitter, a STORE reply waiting only for a full slot (R159, R167 to R169). -/
def Obligations.StepKeepsLinks : Prop :=
  ∀ s t : State, step s = .next t → s.linksWf = true → t.linksWf = true

/-- Every step keeps the tote table well formed: no two records of one tote id, accounts at most 16,777,215 and 0 for
AMBIENT totes, carries at most 7 (R1, R3, R27, R28). -/
def Obligations.StepKeepsTotes : Prop :=
  ∀ s t : State, step s = .next t → s.totesWf → t.totesWf

/-- Every step keeps the tables within their bounds: at most 64 live tasks, no two of one id, confirmed at most the
quantity, fills at most 255, floors at most 3 (R39, R60, R122). -/
def Obligations.StepKeepsTables : Prop :=
  ∀ s t : State, step s = .next t → s.tablesWf → t.tablesWf

/-- Every step keeps the bound of four totes for a window, on its lift, fetched to it and returning from it, and in
SERVICE no window has a tote (R79, R135). -/
def Obligations.StepKeepsLifts : Prop :=
  ∀ s t : State, step s = .next t → s.liftsWf = true → s.serviceClear = true →
    t.liftsWf = true ∧ t.serviceClear = true

/-- Every step keeps the places of totes in agreement: the record of each tote, the lane slot map, the arrival order
list and the windows name the same place, a tote stands in one place only, and at most 16 records are in use, in
ascending number (R1 to R5, R78, R79, R172). -/
def Obligations.StepKeepsPlaces : Prop :=
  (∀ s t : State, step s = .next t → s.totesWf → s.placesWf → s.liftsWf = true → t.placesWf) ∧
  ∀ s : State, s.totesWf → s.placesWf → s.liftsWf = true → s.totes.length ≤ 16

/-- Every step keeps tasks, totes, windows and positions in agreement: a task has the state of its tote's place or is
LIT at a window; the lit task of a window not held stands on its top, which is not FINISHED, and has the lock of its
BOUND or CLOSING position, each other lock being free; a CLOSING position is locked; each timer runs in its states only,
a block timer beside a lit task only where its position is CLOSING (R11, R13, R40, R42, R48, R50, R60 to R62, R68, R91
to R93, R114, R120). That nothing is lit on a FINISHED top rests there on log entry 13: the expiry of a block timer
waits for a task lit to a CLOSING position (DEDUCED). -/
def Obligations.StepKeepsLit : Prop :=
  ∀ s t : State, step s = .next t → s.totesWf → s.placesWf → s.liftsWf = true → s.tablesWf → s.litWf → t.litWf

/-- Every step keeps every setting of the working copy within its range and the three bands in rising order (R153, R154,
R161). -/
def Obligations.StepKeepsSettings : Prop :=
  ∀ s t : State, step s = .next t → s.settingsWf = true → t.settingsWf = true
end

