-- ==== Sys2Proof/Laws/State.lean ====
section
/-! SUPPORT. One lemma per field per update of the state, each true by unfolding, so that no proof unfolds a record
update. -/

namespace Sys2Proof.Machine

variable (s : State)

/-! ### updTote -/

@[simp] theorem State.updTote_phase (id : ToteId) (f : Tote → Tote) : (s.updTote id f).phase = s.phase := rfl
@[simp] theorem State.updTote_rstLine (id : ToteId) (f : Tote → Tote) : (s.updTote id f).rstLine = s.rstLine := rfl
@[simp] theorem State.updTote_totes (id : ToteId) (f : Tote → Tote) : (s.updTote id f).totes = s.totes.map fun t => if t.id = id then f t else t := rfl
@[simp] theorem State.updTote_lane (id : ToteId) (f : Tote → Tote) : (s.updTote id f).lane = s.lane := rfl
@[simp] theorem State.updTote_arrival (id : ToteId) (f : Tote → Tote) : (s.updTote id f).arrival = s.arrival := rfl
@[simp] theorem State.updTote_exposure (id : ToteId) (f : Tote → Tote) : (s.updTote id f).exposure = s.exposure := rfl
@[simp] theorem State.updTote_tasks (id : ToteId) (f : Tote → Tote) : (s.updTote id f).tasks = s.tasks := rfl
@[simp] theorem State.updTote_positions (id : ToteId) (f : Tote → Tote) : (s.updTote id f).positions = s.positions := rfl
@[simp] theorem State.updTote_windows (id : ToteId) (f : Tote → Tote) : (s.updTote id f).windows = s.windows := rfl
@[simp] theorem State.updTote_mode (id : ToteId) (f : Tote → Tote) : (s.updTote id f).mode = s.mode := rfl
@[simp] theorem State.updTote_holdLine (id : ToteId) (f : Tote → Tote) : (s.updTote id f).holdLine = s.holdLine := rfl
@[simp] theorem State.updTote_counters (id : ToteId) (f : Tote → Tote) : (s.updTote id f).counters = s.counters := rfl
@[simp] theorem State.updTote_watches (id : ToteId) (f : Tote → Tote) : (s.updTote id f).watches = s.watches := rfl
@[simp] theorem State.updTote_settings (id : ToteId) (f : Tote → Tote) : (s.updTote id f).settings = s.settings := rfl
@[simp] theorem State.updTote_ports (id : ToteId) (f : Tote → Tote) : (s.updTote id f).ports = s.ports := rfl
@[simp] theorem State.updTote_orderQueue (id : ToteId) (f : Tote → Tote) : (s.updTote id f).orderQueue = s.orderQueue := rfl
@[simp] theorem State.updTote_benchQueue (id : ToteId) (f : Tote → Tote) : (s.updTote id f).benchQueue = s.benchQueue := rfl
@[simp] theorem State.updTote_directions (id : ToteId) (f : Tote → Tote) : (s.updTote id f).directions = s.directions := rfl
@[simp] theorem State.updTote_free (id : ToteId) (f : Tote → Tote) : (s.updTote id f).free = s.free := rfl
@[simp] theorem State.updTote_pending (id : ToteId) (f : Tote → Tote) : (s.updTote id f).pending = s.pending := rfl
@[simp] theorem State.updTote_base (id : ToteId) (f : Tote → Tote) : (s.updTote id f).base = s.base := rfl

/-! ### dropTote -/

@[simp] theorem State.dropTote_phase (id : ToteId) : (s.dropTote id).phase = s.phase := rfl
@[simp] theorem State.dropTote_rstLine (id : ToteId) : (s.dropTote id).rstLine = s.rstLine := rfl
@[simp] theorem State.dropTote_totes (id : ToteId) : (s.dropTote id).totes = s.totes.filter fun t => t.id != id := rfl
@[simp] theorem State.dropTote_lane (id : ToteId) : (s.dropTote id).lane = s.lane := rfl
@[simp] theorem State.dropTote_arrival (id : ToteId) : (s.dropTote id).arrival = s.arrival := rfl
@[simp] theorem State.dropTote_exposure (id : ToteId) : (s.dropTote id).exposure = s.exposure := rfl
@[simp] theorem State.dropTote_tasks (id : ToteId) : (s.dropTote id).tasks = s.tasks := rfl
@[simp] theorem State.dropTote_positions (id : ToteId) : (s.dropTote id).positions = s.positions := rfl
@[simp] theorem State.dropTote_windows (id : ToteId) : (s.dropTote id).windows = s.windows := rfl
@[simp] theorem State.dropTote_mode (id : ToteId) : (s.dropTote id).mode = s.mode := rfl
@[simp] theorem State.dropTote_holdLine (id : ToteId) : (s.dropTote id).holdLine = s.holdLine := rfl
@[simp] theorem State.dropTote_counters (id : ToteId) : (s.dropTote id).counters = s.counters := rfl
@[simp] theorem State.dropTote_watches (id : ToteId) : (s.dropTote id).watches = s.watches := rfl
@[simp] theorem State.dropTote_settings (id : ToteId) : (s.dropTote id).settings = s.settings := rfl
@[simp] theorem State.dropTote_ports (id : ToteId) : (s.dropTote id).ports = s.ports := rfl
@[simp] theorem State.dropTote_orderQueue (id : ToteId) : (s.dropTote id).orderQueue = s.orderQueue := rfl
@[simp] theorem State.dropTote_benchQueue (id : ToteId) : (s.dropTote id).benchQueue = s.benchQueue := rfl
@[simp] theorem State.dropTote_directions (id : ToteId) : (s.dropTote id).directions = s.directions := rfl
@[simp] theorem State.dropTote_free (id : ToteId) : (s.dropTote id).free = s.free := rfl
@[simp] theorem State.dropTote_pending (id : ToteId) : (s.dropTote id).pending = s.pending := rfl
@[simp] theorem State.dropTote_base (id : ToteId) : (s.dropTote id).base = s.base := rfl

/-! ### updTask -/

@[simp] theorem State.updTask_phase (id : TaskId) (f : Task → Task) : (s.updTask id f).phase = s.phase := rfl
@[simp] theorem State.updTask_rstLine (id : TaskId) (f : Task → Task) : (s.updTask id f).rstLine = s.rstLine := rfl
@[simp] theorem State.updTask_totes (id : TaskId) (f : Task → Task) : (s.updTask id f).totes = s.totes := rfl
@[simp] theorem State.updTask_lane (id : TaskId) (f : Task → Task) : (s.updTask id f).lane = s.lane := rfl
@[simp] theorem State.updTask_arrival (id : TaskId) (f : Task → Task) : (s.updTask id f).arrival = s.arrival := rfl
@[simp] theorem State.updTask_exposure (id : TaskId) (f : Task → Task) : (s.updTask id f).exposure = s.exposure := rfl
@[simp] theorem State.updTask_tasks (id : TaskId) (f : Task → Task) : (s.updTask id f).tasks = s.tasks.map fun t => if t.id = id then f t else t := rfl
@[simp] theorem State.updTask_positions (id : TaskId) (f : Task → Task) : (s.updTask id f).positions = s.positions := rfl
@[simp] theorem State.updTask_windows (id : TaskId) (f : Task → Task) : (s.updTask id f).windows = s.windows := rfl
@[simp] theorem State.updTask_mode (id : TaskId) (f : Task → Task) : (s.updTask id f).mode = s.mode := rfl
@[simp] theorem State.updTask_holdLine (id : TaskId) (f : Task → Task) : (s.updTask id f).holdLine = s.holdLine := rfl
@[simp] theorem State.updTask_counters (id : TaskId) (f : Task → Task) : (s.updTask id f).counters = s.counters := rfl
@[simp] theorem State.updTask_watches (id : TaskId) (f : Task → Task) : (s.updTask id f).watches = s.watches := rfl
@[simp] theorem State.updTask_settings (id : TaskId) (f : Task → Task) : (s.updTask id f).settings = s.settings := rfl
@[simp] theorem State.updTask_ports (id : TaskId) (f : Task → Task) : (s.updTask id f).ports = s.ports := rfl
@[simp] theorem State.updTask_orderQueue (id : TaskId) (f : Task → Task) : (s.updTask id f).orderQueue = s.orderQueue := rfl
@[simp] theorem State.updTask_benchQueue (id : TaskId) (f : Task → Task) : (s.updTask id f).benchQueue = s.benchQueue := rfl
@[simp] theorem State.updTask_directions (id : TaskId) (f : Task → Task) : (s.updTask id f).directions = s.directions := rfl
@[simp] theorem State.updTask_free (id : TaskId) (f : Task → Task) : (s.updTask id f).free = s.free := rfl
@[simp] theorem State.updTask_pending (id : TaskId) (f : Task → Task) : (s.updTask id f).pending = s.pending := rfl
@[simp] theorem State.updTask_base (id : TaskId) (f : Task → Task) : (s.updTask id f).base = s.base := rfl

/-! ### dropTask -/

@[simp] theorem State.dropTask_phase (id : TaskId) : (s.dropTask id).phase = s.phase := rfl
@[simp] theorem State.dropTask_rstLine (id : TaskId) : (s.dropTask id).rstLine = s.rstLine := rfl
@[simp] theorem State.dropTask_totes (id : TaskId) : (s.dropTask id).totes = s.totes := rfl
@[simp] theorem State.dropTask_lane (id : TaskId) : (s.dropTask id).lane = s.lane := rfl
@[simp] theorem State.dropTask_arrival (id : TaskId) : (s.dropTask id).arrival = s.arrival := rfl
@[simp] theorem State.dropTask_exposure (id : TaskId) : (s.dropTask id).exposure = s.exposure := rfl
@[simp] theorem State.dropTask_tasks (id : TaskId) : (s.dropTask id).tasks = s.tasks.filter fun t => t.id != id := rfl
@[simp] theorem State.dropTask_positions (id : TaskId) : (s.dropTask id).positions = s.positions := rfl
@[simp] theorem State.dropTask_windows (id : TaskId) : (s.dropTask id).windows = s.windows := rfl
@[simp] theorem State.dropTask_mode (id : TaskId) : (s.dropTask id).mode = s.mode := rfl
@[simp] theorem State.dropTask_holdLine (id : TaskId) : (s.dropTask id).holdLine = s.holdLine := rfl
@[simp] theorem State.dropTask_counters (id : TaskId) : (s.dropTask id).counters = s.counters := rfl
@[simp] theorem State.dropTask_watches (id : TaskId) : (s.dropTask id).watches = s.watches := rfl
@[simp] theorem State.dropTask_settings (id : TaskId) : (s.dropTask id).settings = s.settings := rfl
@[simp] theorem State.dropTask_ports (id : TaskId) : (s.dropTask id).ports = s.ports := rfl
@[simp] theorem State.dropTask_orderQueue (id : TaskId) : (s.dropTask id).orderQueue = s.orderQueue := rfl
@[simp] theorem State.dropTask_benchQueue (id : TaskId) : (s.dropTask id).benchQueue = s.benchQueue := rfl
@[simp] theorem State.dropTask_directions (id : TaskId) : (s.dropTask id).directions = s.directions := rfl
@[simp] theorem State.dropTask_free (id : TaskId) : (s.dropTask id).free = s.free := rfl
@[simp] theorem State.dropTask_pending (id : TaskId) : (s.dropTask id).pending = s.pending := rfl
@[simp] theorem State.dropTask_base (id : TaskId) : (s.dropTask id).base = s.base := rfl

/-! ### updWin -/

@[simp] theorem State.updWin_phase (w : Win) (f : Window → Window) : (s.updWin w f).phase = s.phase := rfl
@[simp] theorem State.updWin_rstLine (w : Win) (f : Window → Window) : (s.updWin w f).rstLine = s.rstLine := rfl
@[simp] theorem State.updWin_totes (w : Win) (f : Window → Window) : (s.updWin w f).totes = s.totes := rfl
@[simp] theorem State.updWin_lane (w : Win) (f : Window → Window) : (s.updWin w f).lane = s.lane := rfl
@[simp] theorem State.updWin_arrival (w : Win) (f : Window → Window) : (s.updWin w f).arrival = s.arrival := rfl
@[simp] theorem State.updWin_exposure (w : Win) (f : Window → Window) : (s.updWin w f).exposure = s.exposure := rfl
@[simp] theorem State.updWin_tasks (w : Win) (f : Window → Window) : (s.updWin w f).tasks = s.tasks := rfl
@[simp] theorem State.updWin_positions (w : Win) (f : Window → Window) : (s.updWin w f).positions = s.positions := rfl
@[simp] theorem State.updWin_windows (w : Win) (f : Window → Window) : (s.updWin w f).windows = s.windows.set w (f (s.windows.get w)) := rfl
@[simp] theorem State.updWin_mode (w : Win) (f : Window → Window) : (s.updWin w f).mode = s.mode := rfl
@[simp] theorem State.updWin_holdLine (w : Win) (f : Window → Window) : (s.updWin w f).holdLine = s.holdLine := rfl
@[simp] theorem State.updWin_counters (w : Win) (f : Window → Window) : (s.updWin w f).counters = s.counters := rfl
@[simp] theorem State.updWin_watches (w : Win) (f : Window → Window) : (s.updWin w f).watches = s.watches := rfl
@[simp] theorem State.updWin_settings (w : Win) (f : Window → Window) : (s.updWin w f).settings = s.settings := rfl
@[simp] theorem State.updWin_ports (w : Win) (f : Window → Window) : (s.updWin w f).ports = s.ports := rfl
@[simp] theorem State.updWin_orderQueue (w : Win) (f : Window → Window) : (s.updWin w f).orderQueue = s.orderQueue := rfl
@[simp] theorem State.updWin_benchQueue (w : Win) (f : Window → Window) : (s.updWin w f).benchQueue = s.benchQueue := rfl
@[simp] theorem State.updWin_directions (w : Win) (f : Window → Window) : (s.updWin w f).directions = s.directions := rfl
@[simp] theorem State.updWin_free (w : Win) (f : Window → Window) : (s.updWin w f).free = s.free := rfl
@[simp] theorem State.updWin_pending (w : Win) (f : Window → Window) : (s.updWin w f).pending = s.pending := rfl
@[simp] theorem State.updWin_base (w : Win) (f : Window → Window) : (s.updWin w f).base = s.base := rfl

/-! ### updPos -/

@[simp] theorem State.updPos_phase (p : Pos) (f : Position → Position) : (s.updPos p f).phase = s.phase := rfl
@[simp] theorem State.updPos_rstLine (p : Pos) (f : Position → Position) : (s.updPos p f).rstLine = s.rstLine := rfl
@[simp] theorem State.updPos_totes (p : Pos) (f : Position → Position) : (s.updPos p f).totes = s.totes := rfl
@[simp] theorem State.updPos_lane (p : Pos) (f : Position → Position) : (s.updPos p f).lane = s.lane := rfl
@[simp] theorem State.updPos_arrival (p : Pos) (f : Position → Position) : (s.updPos p f).arrival = s.arrival := rfl
@[simp] theorem State.updPos_exposure (p : Pos) (f : Position → Position) : (s.updPos p f).exposure = s.exposure := rfl
@[simp] theorem State.updPos_tasks (p : Pos) (f : Position → Position) : (s.updPos p f).tasks = s.tasks := rfl
@[simp] theorem State.updPos_positions (p : Pos) (f : Position → Position) : (s.updPos p f).positions = s.positions.set p (f s.positions[p]) := rfl
@[simp] theorem State.updPos_windows (p : Pos) (f : Position → Position) : (s.updPos p f).windows = s.windows := rfl
@[simp] theorem State.updPos_mode (p : Pos) (f : Position → Position) : (s.updPos p f).mode = s.mode := rfl
@[simp] theorem State.updPos_holdLine (p : Pos) (f : Position → Position) : (s.updPos p f).holdLine = s.holdLine := rfl
@[simp] theorem State.updPos_counters (p : Pos) (f : Position → Position) : (s.updPos p f).counters = s.counters := rfl
@[simp] theorem State.updPos_watches (p : Pos) (f : Position → Position) : (s.updPos p f).watches = s.watches := rfl
@[simp] theorem State.updPos_settings (p : Pos) (f : Position → Position) : (s.updPos p f).settings = s.settings := rfl
@[simp] theorem State.updPos_ports (p : Pos) (f : Position → Position) : (s.updPos p f).ports = s.ports := rfl
@[simp] theorem State.updPos_orderQueue (p : Pos) (f : Position → Position) : (s.updPos p f).orderQueue = s.orderQueue := rfl
@[simp] theorem State.updPos_benchQueue (p : Pos) (f : Position → Position) : (s.updPos p f).benchQueue = s.benchQueue := rfl
@[simp] theorem State.updPos_directions (p : Pos) (f : Position → Position) : (s.updPos p f).directions = s.directions := rfl
@[simp] theorem State.updPos_free (p : Pos) (f : Position → Position) : (s.updPos p f).free = s.free := rfl
@[simp] theorem State.updPos_pending (p : Pos) (f : Position → Position) : (s.updPos p f).pending = s.pending := rfl
@[simp] theorem State.updPos_base (p : Pos) (f : Position → Position) : (s.updPos p f).base = s.base := rfl

/-! ### updPort -/

@[simp] theorem State.updPort_phase (l : Link) (f : Port → Port) : (s.updPort l f).phase = s.phase := rfl
@[simp] theorem State.updPort_rstLine (l : Link) (f : Port → Port) : (s.updPort l f).rstLine = s.rstLine := rfl
@[simp] theorem State.updPort_totes (l : Link) (f : Port → Port) : (s.updPort l f).totes = s.totes := rfl
@[simp] theorem State.updPort_lane (l : Link) (f : Port → Port) : (s.updPort l f).lane = s.lane := rfl
@[simp] theorem State.updPort_arrival (l : Link) (f : Port → Port) : (s.updPort l f).arrival = s.arrival := rfl
@[simp] theorem State.updPort_exposure (l : Link) (f : Port → Port) : (s.updPort l f).exposure = s.exposure := rfl
@[simp] theorem State.updPort_tasks (l : Link) (f : Port → Port) : (s.updPort l f).tasks = s.tasks := rfl
@[simp] theorem State.updPort_positions (l : Link) (f : Port → Port) : (s.updPort l f).positions = s.positions := rfl
@[simp] theorem State.updPort_windows (l : Link) (f : Port → Port) : (s.updPort l f).windows = s.windows := rfl
@[simp] theorem State.updPort_mode (l : Link) (f : Port → Port) : (s.updPort l f).mode = s.mode := rfl
@[simp] theorem State.updPort_holdLine (l : Link) (f : Port → Port) : (s.updPort l f).holdLine = s.holdLine := rfl
@[simp] theorem State.updPort_counters (l : Link) (f : Port → Port) : (s.updPort l f).counters = s.counters := rfl
@[simp] theorem State.updPort_watches (l : Link) (f : Port → Port) : (s.updPort l f).watches = s.watches := rfl
@[simp] theorem State.updPort_settings (l : Link) (f : Port → Port) : (s.updPort l f).settings = s.settings := rfl
@[simp] theorem State.updPort_ports (l : Link) (f : Port → Port) : (s.updPort l f).ports = s.ports.set l (f (s.ports.get l)) := rfl
@[simp] theorem State.updPort_orderQueue (l : Link) (f : Port → Port) : (s.updPort l f).orderQueue = s.orderQueue := rfl
@[simp] theorem State.updPort_benchQueue (l : Link) (f : Port → Port) : (s.updPort l f).benchQueue = s.benchQueue := rfl
@[simp] theorem State.updPort_directions (l : Link) (f : Port → Port) : (s.updPort l f).directions = s.directions := rfl
@[simp] theorem State.updPort_free (l : Link) (f : Port → Port) : (s.updPort l f).free = s.free := rfl
@[simp] theorem State.updPort_pending (l : Link) (f : Port → Port) : (s.updPort l f).pending = s.pending := rfl

/-! ### updSettings -/

@[simp] theorem State.updSettings_phase (f : SettingsStore → SettingsStore) : (s.updSettings f).phase = s.phase := rfl
@[simp] theorem State.updSettings_rstLine (f : SettingsStore → SettingsStore) : (s.updSettings f).rstLine = s.rstLine := rfl
@[simp] theorem State.updSettings_totes (f : SettingsStore → SettingsStore) : (s.updSettings f).totes = s.totes := rfl
@[simp] theorem State.updSettings_lane (f : SettingsStore → SettingsStore) : (s.updSettings f).lane = s.lane := rfl
@[simp] theorem State.updSettings_arrival (f : SettingsStore → SettingsStore) : (s.updSettings f).arrival = s.arrival := rfl
@[simp] theorem State.updSettings_exposure (f : SettingsStore → SettingsStore) : (s.updSettings f).exposure = s.exposure := rfl
@[simp] theorem State.updSettings_tasks (f : SettingsStore → SettingsStore) : (s.updSettings f).tasks = s.tasks := rfl
@[simp] theorem State.updSettings_positions (f : SettingsStore → SettingsStore) : (s.updSettings f).positions = s.positions := rfl
@[simp] theorem State.updSettings_windows (f : SettingsStore → SettingsStore) : (s.updSettings f).windows = s.windows := rfl
@[simp] theorem State.updSettings_mode (f : SettingsStore → SettingsStore) : (s.updSettings f).mode = s.mode := rfl
@[simp] theorem State.updSettings_holdLine (f : SettingsStore → SettingsStore) : (s.updSettings f).holdLine = s.holdLine := rfl
@[simp] theorem State.updSettings_counters (f : SettingsStore → SettingsStore) : (s.updSettings f).counters = s.counters := rfl
@[simp] theorem State.updSettings_watches (f : SettingsStore → SettingsStore) : (s.updSettings f).watches = s.watches := rfl
@[simp] theorem State.updSettings_settings (f : SettingsStore → SettingsStore) : (s.updSettings f).settings = f s.settings := rfl
@[simp] theorem State.updSettings_ports (f : SettingsStore → SettingsStore) : (s.updSettings f).ports = s.ports := rfl
@[simp] theorem State.updSettings_orderQueue (f : SettingsStore → SettingsStore) : (s.updSettings f).orderQueue = s.orderQueue := rfl
@[simp] theorem State.updSettings_benchQueue (f : SettingsStore → SettingsStore) : (s.updSettings f).benchQueue = s.benchQueue := rfl
@[simp] theorem State.updSettings_directions (f : SettingsStore → SettingsStore) : (s.updSettings f).directions = s.directions := rfl
@[simp] theorem State.updSettings_free (f : SettingsStore → SettingsStore) : (s.updSettings f).free = s.free := rfl
@[simp] theorem State.updSettings_pending (f : SettingsStore → SettingsStore) : (s.updSettings f).pending = s.pending := rfl

/-! ### setSlot -/

@[simp] theorem State.setSlot_phase (slot : Slot) (t : Option ToteId) : (s.setSlot slot t).phase = s.phase := rfl
@[simp] theorem State.setSlot_rstLine (slot : Slot) (t : Option ToteId) : (s.setSlot slot t).rstLine = s.rstLine := rfl
@[simp] theorem State.setSlot_totes (slot : Slot) (t : Option ToteId) : (s.setSlot slot t).totes = s.totes := rfl
@[simp] theorem State.setSlot_lane (slot : Slot) (t : Option ToteId) : (s.setSlot slot t).lane = s.lane.set slot t := rfl
@[simp] theorem State.setSlot_arrival (slot : Slot) (t : Option ToteId) : (s.setSlot slot t).arrival = s.arrival := rfl
@[simp] theorem State.setSlot_exposure (slot : Slot) (t : Option ToteId) : (s.setSlot slot t).exposure = s.exposure := rfl
@[simp] theorem State.setSlot_tasks (slot : Slot) (t : Option ToteId) : (s.setSlot slot t).tasks = s.tasks := rfl
@[simp] theorem State.setSlot_positions (slot : Slot) (t : Option ToteId) : (s.setSlot slot t).positions = s.positions := rfl
@[simp] theorem State.setSlot_windows (slot : Slot) (t : Option ToteId) : (s.setSlot slot t).windows = s.windows := rfl
@[simp] theorem State.setSlot_mode (slot : Slot) (t : Option ToteId) : (s.setSlot slot t).mode = s.mode := rfl
@[simp] theorem State.setSlot_holdLine (slot : Slot) (t : Option ToteId) : (s.setSlot slot t).holdLine = s.holdLine := rfl
@[simp] theorem State.setSlot_counters (slot : Slot) (t : Option ToteId) : (s.setSlot slot t).counters = s.counters := rfl
@[simp] theorem State.setSlot_watches (slot : Slot) (t : Option ToteId) : (s.setSlot slot t).watches = s.watches := rfl
@[simp] theorem State.setSlot_settings (slot : Slot) (t : Option ToteId) : (s.setSlot slot t).settings = s.settings := rfl
@[simp] theorem State.setSlot_ports (slot : Slot) (t : Option ToteId) : (s.setSlot slot t).ports = s.ports := rfl
@[simp] theorem State.setSlot_orderQueue (slot : Slot) (t : Option ToteId) : (s.setSlot slot t).orderQueue = s.orderQueue := rfl
@[simp] theorem State.setSlot_benchQueue (slot : Slot) (t : Option ToteId) : (s.setSlot slot t).benchQueue = s.benchQueue := rfl
@[simp] theorem State.setSlot_directions (slot : Slot) (t : Option ToteId) : (s.setSlot slot t).directions = s.directions := rfl
@[simp] theorem State.setSlot_free (slot : Slot) (t : Option ToteId) : (s.setSlot slot t).free = s.free := rfl
@[simp] theorem State.setSlot_pending (slot : Slot) (t : Option ToteId) : (s.setSlot slot t).pending = s.pending := rfl
@[simp] theorem State.setSlot_base (slot : Slot) (t : Option ToteId) : (s.setSlot slot t).base = s.base := rfl

/-! ### leaveArrival -/

@[simp] theorem State.leaveArrival_phase (id : ToteId) : (s.leaveArrival id).phase = s.phase := rfl
@[simp] theorem State.leaveArrival_rstLine (id : ToteId) : (s.leaveArrival id).rstLine = s.rstLine := rfl
@[simp] theorem State.leaveArrival_totes (id : ToteId) : (s.leaveArrival id).totes = s.totes := rfl
@[simp] theorem State.leaveArrival_lane (id : ToteId) : (s.leaveArrival id).lane = s.lane := rfl
@[simp] theorem State.leaveArrival_arrival (id : ToteId) : (s.leaveArrival id).arrival = s.arrival.filter fun a => a != id := rfl
@[simp] theorem State.leaveArrival_exposure (id : ToteId) : (s.leaveArrival id).exposure = s.exposure := rfl
@[simp] theorem State.leaveArrival_tasks (id : ToteId) : (s.leaveArrival id).tasks = s.tasks := rfl
@[simp] theorem State.leaveArrival_positions (id : ToteId) : (s.leaveArrival id).positions = s.positions := rfl
@[simp] theorem State.leaveArrival_windows (id : ToteId) : (s.leaveArrival id).windows = s.windows := rfl
@[simp] theorem State.leaveArrival_mode (id : ToteId) : (s.leaveArrival id).mode = s.mode := rfl
@[simp] theorem State.leaveArrival_holdLine (id : ToteId) : (s.leaveArrival id).holdLine = s.holdLine := rfl
@[simp] theorem State.leaveArrival_counters (id : ToteId) : (s.leaveArrival id).counters = s.counters := rfl
@[simp] theorem State.leaveArrival_watches (id : ToteId) : (s.leaveArrival id).watches = s.watches := rfl
@[simp] theorem State.leaveArrival_settings (id : ToteId) : (s.leaveArrival id).settings = s.settings := rfl
@[simp] theorem State.leaveArrival_ports (id : ToteId) : (s.leaveArrival id).ports = s.ports := rfl
@[simp] theorem State.leaveArrival_orderQueue (id : ToteId) : (s.leaveArrival id).orderQueue = s.orderQueue := rfl
@[simp] theorem State.leaveArrival_benchQueue (id : ToteId) : (s.leaveArrival id).benchQueue = s.benchQueue := rfl
@[simp] theorem State.leaveArrival_directions (id : ToteId) : (s.leaveArrival id).directions = s.directions := rfl
@[simp] theorem State.leaveArrival_free (id : ToteId) : (s.leaveArrival id).free = s.free := rfl
@[simp] theorem State.leaveArrival_pending (id : ToteId) : (s.leaveArrival id).pending = s.pending := rfl
@[simp] theorem State.leaveArrival_base (id : ToteId) : (s.leaveArrival id).base = s.base := rfl

/-! ### noteOrder -/

@[simp] theorem State.noteOrder_phase (n : Notice) : (s.noteOrder n).phase = s.phase := rfl
@[simp] theorem State.noteOrder_rstLine (n : Notice) : (s.noteOrder n).rstLine = s.rstLine := rfl
@[simp] theorem State.noteOrder_totes (n : Notice) : (s.noteOrder n).totes = s.totes := rfl
@[simp] theorem State.noteOrder_lane (n : Notice) : (s.noteOrder n).lane = s.lane := rfl
@[simp] theorem State.noteOrder_arrival (n : Notice) : (s.noteOrder n).arrival = s.arrival := rfl
@[simp] theorem State.noteOrder_exposure (n : Notice) : (s.noteOrder n).exposure = s.exposure := rfl
@[simp] theorem State.noteOrder_tasks (n : Notice) : (s.noteOrder n).tasks = s.tasks := rfl
@[simp] theorem State.noteOrder_positions (n : Notice) : (s.noteOrder n).positions = s.positions := rfl
@[simp] theorem State.noteOrder_windows (n : Notice) : (s.noteOrder n).windows = s.windows := rfl
@[simp] theorem State.noteOrder_mode (n : Notice) : (s.noteOrder n).mode = s.mode := rfl
@[simp] theorem State.noteOrder_holdLine (n : Notice) : (s.noteOrder n).holdLine = s.holdLine := rfl
@[simp] theorem State.noteOrder_counters (n : Notice) : (s.noteOrder n).counters = s.counters := rfl
@[simp] theorem State.noteOrder_watches (n : Notice) : (s.noteOrder n).watches = s.watches := rfl
@[simp] theorem State.noteOrder_settings (n : Notice) : (s.noteOrder n).settings = s.settings := rfl
@[simp] theorem State.noteOrder_ports (n : Notice) : (s.noteOrder n).ports = s.ports := rfl
@[simp] theorem State.noteOrder_orderQueue (n : Notice) : (s.noteOrder n).orderQueue = s.orderQueue.push n := rfl
@[simp] theorem State.noteOrder_benchQueue (n : Notice) : (s.noteOrder n).benchQueue = s.benchQueue := rfl
@[simp] theorem State.noteOrder_directions (n : Notice) : (s.noteOrder n).directions = s.directions := rfl
@[simp] theorem State.noteOrder_free (n : Notice) : (s.noteOrder n).free = s.free := rfl
@[simp] theorem State.noteOrder_pending (n : Notice) : (s.noteOrder n).pending = s.pending := rfl
@[simp] theorem State.noteOrder_base (n : Notice) : (s.noteOrder n).base = s.base := rfl

/-! ### noteBench -/

@[simp] theorem State.noteBench_phase (n : Notice) : (s.noteBench n).phase = s.phase := rfl
@[simp] theorem State.noteBench_rstLine (n : Notice) : (s.noteBench n).rstLine = s.rstLine := rfl
@[simp] theorem State.noteBench_totes (n : Notice) : (s.noteBench n).totes = s.totes := rfl
@[simp] theorem State.noteBench_lane (n : Notice) : (s.noteBench n).lane = s.lane := rfl
@[simp] theorem State.noteBench_arrival (n : Notice) : (s.noteBench n).arrival = s.arrival := rfl
@[simp] theorem State.noteBench_exposure (n : Notice) : (s.noteBench n).exposure = s.exposure := rfl
@[simp] theorem State.noteBench_tasks (n : Notice) : (s.noteBench n).tasks = s.tasks := rfl
@[simp] theorem State.noteBench_positions (n : Notice) : (s.noteBench n).positions = s.positions := rfl
@[simp] theorem State.noteBench_windows (n : Notice) : (s.noteBench n).windows = s.windows := rfl
@[simp] theorem State.noteBench_mode (n : Notice) : (s.noteBench n).mode = s.mode := rfl
@[simp] theorem State.noteBench_holdLine (n : Notice) : (s.noteBench n).holdLine = s.holdLine := rfl
@[simp] theorem State.noteBench_counters (n : Notice) : (s.noteBench n).counters = s.counters := rfl
@[simp] theorem State.noteBench_watches (n : Notice) : (s.noteBench n).watches = s.watches := rfl
@[simp] theorem State.noteBench_settings (n : Notice) : (s.noteBench n).settings = s.settings := rfl
@[simp] theorem State.noteBench_ports (n : Notice) : (s.noteBench n).ports = s.ports := rfl
@[simp] theorem State.noteBench_orderQueue (n : Notice) : (s.noteBench n).orderQueue = s.orderQueue := rfl
@[simp] theorem State.noteBench_benchQueue (n : Notice) : (s.noteBench n).benchQueue = s.benchQueue.push n := rfl
@[simp] theorem State.noteBench_directions (n : Notice) : (s.noteBench n).directions = s.directions := rfl
@[simp] theorem State.noteBench_free (n : Notice) : (s.noteBench n).free = s.free := rfl
@[simp] theorem State.noteBench_pending (n : Notice) : (s.noteBench n).pending = s.pending := rfl
@[simp] theorem State.noteBench_base (n : Notice) : (s.noteBench n).base = s.base := rfl

/-! ### noteBoth -/

@[simp] theorem State.noteBoth_phase (n : Notice) : (s.noteBoth n).phase = s.phase := rfl
@[simp] theorem State.noteBoth_rstLine (n : Notice) : (s.noteBoth n).rstLine = s.rstLine := rfl
@[simp] theorem State.noteBoth_totes (n : Notice) : (s.noteBoth n).totes = s.totes := rfl
@[simp] theorem State.noteBoth_lane (n : Notice) : (s.noteBoth n).lane = s.lane := rfl
@[simp] theorem State.noteBoth_arrival (n : Notice) : (s.noteBoth n).arrival = s.arrival := rfl
@[simp] theorem State.noteBoth_exposure (n : Notice) : (s.noteBoth n).exposure = s.exposure := rfl
@[simp] theorem State.noteBoth_tasks (n : Notice) : (s.noteBoth n).tasks = s.tasks := rfl
@[simp] theorem State.noteBoth_positions (n : Notice) : (s.noteBoth n).positions = s.positions := rfl
@[simp] theorem State.noteBoth_windows (n : Notice) : (s.noteBoth n).windows = s.windows := rfl
@[simp] theorem State.noteBoth_mode (n : Notice) : (s.noteBoth n).mode = s.mode := rfl
@[simp] theorem State.noteBoth_holdLine (n : Notice) : (s.noteBoth n).holdLine = s.holdLine := rfl
@[simp] theorem State.noteBoth_counters (n : Notice) : (s.noteBoth n).counters = s.counters := rfl
@[simp] theorem State.noteBoth_watches (n : Notice) : (s.noteBoth n).watches = s.watches := rfl
@[simp] theorem State.noteBoth_settings (n : Notice) : (s.noteBoth n).settings = s.settings := rfl
@[simp] theorem State.noteBoth_ports (n : Notice) : (s.noteBoth n).ports = s.ports := rfl
@[simp] theorem State.noteBoth_orderQueue (n : Notice) : (s.noteBoth n).orderQueue = s.orderQueue.push n := rfl
@[simp] theorem State.noteBoth_benchQueue (n : Notice) : (s.noteBoth n).benchQueue = s.benchQueue.push n := rfl
@[simp] theorem State.noteBoth_directions (n : Notice) : (s.noteBoth n).directions = s.directions := rfl
@[simp] theorem State.noteBoth_free (n : Notice) : (s.noteBoth n).free = s.free := rfl
@[simp] theorem State.noteBoth_pending (n : Notice) : (s.noteBoth n).pending = s.pending := rfl
@[simp] theorem State.noteBoth_base (n : Notice) : (s.noteBoth n).base = s.base := rfl

/-! ### tasksToWaiting -/

@[simp] theorem State.tasksToWaiting_phase (id : ToteId) : (s.tasksToWaiting id).phase = s.phase := rfl
@[simp] theorem State.tasksToWaiting_rstLine (id : ToteId) : (s.tasksToWaiting id).rstLine = s.rstLine := rfl
@[simp] theorem State.tasksToWaiting_totes (id : ToteId) : (s.tasksToWaiting id).totes = s.totes := rfl
@[simp] theorem State.tasksToWaiting_lane (id : ToteId) : (s.tasksToWaiting id).lane = s.lane := rfl
@[simp] theorem State.tasksToWaiting_arrival (id : ToteId) : (s.tasksToWaiting id).arrival = s.arrival := rfl
@[simp] theorem State.tasksToWaiting_exposure (id : ToteId) : (s.tasksToWaiting id).exposure = s.exposure := rfl
@[simp] theorem State.tasksToWaiting_positions (id : ToteId) : (s.tasksToWaiting id).positions = s.positions := rfl
@[simp] theorem State.tasksToWaiting_windows (id : ToteId) : (s.tasksToWaiting id).windows = s.windows := rfl
@[simp] theorem State.tasksToWaiting_mode (id : ToteId) : (s.tasksToWaiting id).mode = s.mode := rfl
@[simp] theorem State.tasksToWaiting_holdLine (id : ToteId) : (s.tasksToWaiting id).holdLine = s.holdLine := rfl
@[simp] theorem State.tasksToWaiting_counters (id : ToteId) : (s.tasksToWaiting id).counters = s.counters := rfl
@[simp] theorem State.tasksToWaiting_watches (id : ToteId) : (s.tasksToWaiting id).watches = s.watches := rfl
@[simp] theorem State.tasksToWaiting_settings (id : ToteId) : (s.tasksToWaiting id).settings = s.settings := rfl
@[simp] theorem State.tasksToWaiting_ports (id : ToteId) : (s.tasksToWaiting id).ports = s.ports := rfl
@[simp] theorem State.tasksToWaiting_orderQueue (id : ToteId) : (s.tasksToWaiting id).orderQueue = s.orderQueue := rfl
@[simp] theorem State.tasksToWaiting_benchQueue (id : ToteId) : (s.tasksToWaiting id).benchQueue = s.benchQueue := rfl
@[simp] theorem State.tasksToWaiting_directions (id : ToteId) : (s.tasksToWaiting id).directions = s.directions := rfl
@[simp] theorem State.tasksToWaiting_free (id : ToteId) : (s.tasksToWaiting id).free = s.free := rfl
@[simp] theorem State.tasksToWaiting_pending (id : ToteId) : (s.tasksToWaiting id).pending = s.pending := rfl
@[simp] theorem State.tasksToWaiting_base (id : ToteId) : (s.tasksToWaiting id).base = s.base := rfl

/-! ### tasksToActive -/

@[simp] theorem State.tasksToActive_phase (id : ToteId) : (s.tasksToActive id).phase = s.phase := rfl
@[simp] theorem State.tasksToActive_rstLine (id : ToteId) : (s.tasksToActive id).rstLine = s.rstLine := rfl
@[simp] theorem State.tasksToActive_totes (id : ToteId) : (s.tasksToActive id).totes = s.totes := rfl
@[simp] theorem State.tasksToActive_lane (id : ToteId) : (s.tasksToActive id).lane = s.lane := rfl
@[simp] theorem State.tasksToActive_arrival (id : ToteId) : (s.tasksToActive id).arrival = s.arrival := rfl
@[simp] theorem State.tasksToActive_exposure (id : ToteId) : (s.tasksToActive id).exposure = s.exposure := rfl
@[simp] theorem State.tasksToActive_positions (id : ToteId) : (s.tasksToActive id).positions = s.positions := rfl
@[simp] theorem State.tasksToActive_windows (id : ToteId) : (s.tasksToActive id).windows = s.windows := rfl
@[simp] theorem State.tasksToActive_mode (id : ToteId) : (s.tasksToActive id).mode = s.mode := rfl
@[simp] theorem State.tasksToActive_holdLine (id : ToteId) : (s.tasksToActive id).holdLine = s.holdLine := rfl
@[simp] theorem State.tasksToActive_counters (id : ToteId) : (s.tasksToActive id).counters = s.counters := rfl
@[simp] theorem State.tasksToActive_watches (id : ToteId) : (s.tasksToActive id).watches = s.watches := rfl
@[simp] theorem State.tasksToActive_settings (id : ToteId) : (s.tasksToActive id).settings = s.settings := rfl
@[simp] theorem State.tasksToActive_ports (id : ToteId) : (s.tasksToActive id).ports = s.ports := rfl
@[simp] theorem State.tasksToActive_orderQueue (id : ToteId) : (s.tasksToActive id).orderQueue = s.orderQueue := rfl
@[simp] theorem State.tasksToActive_benchQueue (id : ToteId) : (s.tasksToActive id).benchQueue = s.benchQueue := rfl
@[simp] theorem State.tasksToActive_directions (id : ToteId) : (s.tasksToActive id).directions = s.directions := rfl
@[simp] theorem State.tasksToActive_free (id : ToteId) : (s.tasksToActive id).free = s.free := rfl
@[simp] theorem State.tasksToActive_pending (id : ToteId) : (s.tasksToActive id).pending = s.pending := rfl
@[simp] theorem State.tasksToActive_base (id : ToteId) : (s.tasksToActive id).base = s.base := rfl

/-! ### tasksToReady -/

@[simp] theorem State.tasksToReady_phase (id : ToteId) : (s.tasksToReady id).phase = s.phase := rfl
@[simp] theorem State.tasksToReady_rstLine (id : ToteId) : (s.tasksToReady id).rstLine = s.rstLine := rfl
@[simp] theorem State.tasksToReady_totes (id : ToteId) : (s.tasksToReady id).totes = s.totes := rfl
@[simp] theorem State.tasksToReady_lane (id : ToteId) : (s.tasksToReady id).lane = s.lane := rfl
@[simp] theorem State.tasksToReady_arrival (id : ToteId) : (s.tasksToReady id).arrival = s.arrival := rfl
@[simp] theorem State.tasksToReady_exposure (id : ToteId) : (s.tasksToReady id).exposure = s.exposure := rfl
@[simp] theorem State.tasksToReady_positions (id : ToteId) : (s.tasksToReady id).positions = s.positions := rfl
@[simp] theorem State.tasksToReady_windows (id : ToteId) : (s.tasksToReady id).windows = s.windows := rfl
@[simp] theorem State.tasksToReady_mode (id : ToteId) : (s.tasksToReady id).mode = s.mode := rfl
@[simp] theorem State.tasksToReady_holdLine (id : ToteId) : (s.tasksToReady id).holdLine = s.holdLine := rfl
@[simp] theorem State.tasksToReady_counters (id : ToteId) : (s.tasksToReady id).counters = s.counters := rfl
@[simp] theorem State.tasksToReady_watches (id : ToteId) : (s.tasksToReady id).watches = s.watches := rfl
@[simp] theorem State.tasksToReady_settings (id : ToteId) : (s.tasksToReady id).settings = s.settings := rfl
@[simp] theorem State.tasksToReady_ports (id : ToteId) : (s.tasksToReady id).ports = s.ports := rfl
@[simp] theorem State.tasksToReady_orderQueue (id : ToteId) : (s.tasksToReady id).orderQueue = s.orderQueue := rfl
@[simp] theorem State.tasksToReady_benchQueue (id : ToteId) : (s.tasksToReady id).benchQueue = s.benchQueue := rfl
@[simp] theorem State.tasksToReady_directions (id : ToteId) : (s.tasksToReady id).directions = s.directions := rfl
@[simp] theorem State.tasksToReady_free (id : ToteId) : (s.tasksToReady id).free = s.free := rfl
@[simp] theorem State.tasksToReady_pending (id : ToteId) : (s.tasksToReady id).pending = s.pending := rfl
@[simp] theorem State.tasksToReady_base (id : ToteId) : (s.tasksToReady id).base = s.base := rfl

/-! ### heard -/

@[simp] theorem State.heard_phase (l : Link) : (s.heard l).phase = s.phase := rfl
@[simp] theorem State.heard_rstLine (l : Link) : (s.heard l).rstLine = s.rstLine := rfl
@[simp] theorem State.heard_totes (l : Link) : (s.heard l).totes = s.totes := rfl
@[simp] theorem State.heard_lane (l : Link) : (s.heard l).lane = s.lane := rfl
@[simp] theorem State.heard_arrival (l : Link) : (s.heard l).arrival = s.arrival := rfl
@[simp] theorem State.heard_exposure (l : Link) : (s.heard l).exposure = s.exposure := rfl
@[simp] theorem State.heard_tasks (l : Link) : (s.heard l).tasks = s.tasks := rfl
@[simp] theorem State.heard_positions (l : Link) : (s.heard l).positions = s.positions := rfl
@[simp] theorem State.heard_windows (l : Link) : (s.heard l).windows = s.windows := rfl
@[simp] theorem State.heard_mode (l : Link) : (s.heard l).mode = s.mode := rfl
@[simp] theorem State.heard_holdLine (l : Link) : (s.heard l).holdLine = s.holdLine := rfl
@[simp] theorem State.heard_counters (l : Link) : (s.heard l).counters = s.counters := rfl
@[simp] theorem State.heard_watches (l : Link) : (s.heard l).watches = s.watches := rfl
@[simp] theorem State.heard_settings (l : Link) : (s.heard l).settings = s.settings := rfl
@[simp] theorem State.heard_ports (l : Link) : (s.heard l).ports = s.ports.set l { s.ports.get l with receiver := .hunting } := rfl
@[simp] theorem State.heard_orderQueue (l : Link) : (s.heard l).orderQueue = s.orderQueue := rfl
@[simp] theorem State.heard_benchQueue (l : Link) : (s.heard l).benchQueue = s.benchQueue := rfl
@[simp] theorem State.heard_directions (l : Link) : (s.heard l).directions = s.directions := rfl
@[simp] theorem State.heard_free (l : Link) : (s.heard l).free = s.free := rfl
@[simp] theorem State.heard_pending (l : Link) : (s.heard l).pending = s.pending := rfl

/-! ### Values kept for each window and link -/

@[simp] theorem PerWin.get_set {α : Type} (p : PerWin α) (w : Win) (a : α) : (p.set w a).get w = a := by
  cases w <;> rfl

@[simp] theorem PerWin.get_set_other {α : Type} (p : PerWin α) (w : Win) (a : α) :
    (p.set w a).get w.other = p.get w.other := by
  cases w <;> rfl

@[simp] theorem PerLink.get_set {α : Type} (p : PerLink α) (l : Link) (a : α) : (p.set l a).get l = a := by
  cases l <;> rfl

theorem PerLink.get_set_ne {α : Type} (p : PerLink α) {l m : Link} (h : m ≠ l) (a : α) :
    (p.set l a).get m = p.get m := by
  cases l <;> cases m <;> first | rfl | exact absurd rfl h

theorem PerWin.get_set_ne {α : Type} (p : PerWin α) {v w : Win} (h : w ≠ v) (a : α) :
    (p.set v a).get w = p.get w := by
  cases v <;> cases w <;> first | rfl | exact absurd rfl h

/-! ### What a window, a port or a position reads as after its own update -/

@[simp] theorem State.win_updWin (w : Win) (f : Window → Window) : (s.updWin w f).win w = f (s.win w) := by
  simp [State.win]

theorem State.win_updWin_ne {v w : Win} (h : w ≠ v) (f : Window → Window) : (s.updWin v f).win w = s.win w := by
  simp [State.win, PerWin.get_set_ne, h]

@[simp] theorem State.port_updPort (l : Link) (f : Port → Port) : (s.updPort l f).port l = f (s.port l) := by
  simp [State.port]

theorem State.port_updPort_ne {l m : Link} (h : m ≠ l) (f : Port → Port) : (s.updPort l f).port m = s.port m := by
  simp [State.port, PerLink.get_set_ne, h]

@[simp] theorem State.pos_updPos (p : Pos) (f : Position → Position) : (s.updPos p f).pos p = f (s.pos p) := by
  simp [State.pos, State.updPos]

theorem State.pos_updPos_ne {p q : Pos} (h : q ≠ p) (f : Position → Position) : (s.updPos p f).pos q = s.pos q := by
  have : p.val ≠ q.val := fun e => h (Fin.ext e.symm)
  simp [State.pos, State.updPos, this]

end Sys2Proof.Machine
end

