-- ==== Sys2Proof/Laws/Charged.lean ====
section
/-! SUPPORT. What the work of the tables, windows and put controller does to the numbers, classes, accounts and cold-chain
flags of the tote records: nothing. -/

namespace Sys2Proof.Machine

/-- The numbers, ids, classes, accounts and cold-chain flags of the tote records. -/
def State.charged (s : State) : List (Nat × ToteId × TempClass × Nat × Nat × Bool × Bool) := s.totes.map Tote.charged

/-! ### Totes -/

/-- An update of a tote record that leaves these fields alone leaves them alone in the table. -/
@[simp] theorem updTote_charged (s : State) (id : ToteId) (f : Tote → Tote)
    (hf : ∀ t, (f t).recNo = t.recNo ∧ (f t).id = t.id ∧ (f t).cls = t.cls ∧ (f t).account = t.account ∧
      (f t).carry = t.carry ∧ (f t).urgent = t.urgent ∧ (f t).expired = t.expired) :
    (s.updTote id f).charged = s.charged := by
  simp only [State.charged, State.updTote, List.map_map]
  apply List.map_congr_left
  intro t _
  simp only [Function.comp_apply]
  split
  · obtain ⟨h1, h2, h3, h4, h5, h6, h7⟩ := hf t
    simp only [Tote.charged, h1, h2, h3, h4, h5, h6, h7]
  · rfl

section
variable (s : State)

@[simp] theorem State.updTask_charged (id : TaskId) (f : Task → Task) : (s.updTask id f).charged = s.charged := rfl
@[simp] theorem State.dropTask_charged (id : TaskId) : (s.dropTask id).charged = s.charged := rfl
@[simp] theorem State.updWin_charged (w : Win) (f : Window → Window) : (s.updWin w f).charged = s.charged := rfl
@[simp] theorem State.updPos_charged (p : Pos) (f : Position → Position) : (s.updPos p f).charged = s.charged := rfl
@[simp] theorem State.updPort_charged (l : Link) (f : Port → Port) : (s.updPort l f).charged = s.charged := rfl
@[simp] theorem State.updSettings_charged (f : SettingsStore → SettingsStore) : (s.updSettings f).charged = s.charged := rfl
@[simp] theorem State.setSlot_charged (slot : Slot) (t : Option ToteId) : (s.setSlot slot t).charged = s.charged := rfl
@[simp] theorem State.leaveArrival_charged (id : ToteId) : (s.leaveArrival id).charged = s.charged := rfl
@[simp] theorem State.noteOrder_charged (n : Notice) : (s.noteOrder n).charged = s.charged := rfl
@[simp] theorem State.noteBench_charged (n : Notice) : (s.noteBench n).charged = s.charged := rfl
@[simp] theorem State.noteBoth_charged (n : Notice) : (s.noteBoth n).charged = s.charged := rfl
@[simp] theorem State.tasksToWaiting_charged (id : ToteId) : (s.tasksToWaiting id).charged = s.charged := rfl
@[simp] theorem State.tasksToActive_charged (id : ToteId) : (s.tasksToActive id).charged = s.charged := rfl
@[simp] theorem State.tasksToReady_charged (id : ToteId) : (s.tasksToReady id).charged = s.charged := rfl
@[simp] theorem State.heard_charged (l : Link) : (s.heard l).charged = s.charged := rfl

end

@[simp] theorem eitherOrder_charged {f g : State → State} (hf : ∀ s, (f s).charged = s.charged) (hg : ∀ s, (g s).charged = s.charged)
    (s : State) : (s.eitherOrder f g).charged = s.charged := by
  unfold State.eitherOrder
  split
  · rw [hg, hf]; rfl
  · rw [hf, hg]; rfl

theorem bothWays_charged {f : Win → State → State} (hf : ∀ w s, (f w s).charged = s.charged) (s : State) :
    (s.bothWays f).charged = s.charged := eitherOrder_charged (hf _) (hf _) s

theorem foldl_charged {α : Type} {f : State → α → State} (hf : ∀ s a, (f s a).charged = s.charged) (as : List α) (s : State) :
    (as.foldl f s).charged = s.charged := by
  induction as generalizing s with
  | nil => rfl
  | cons a as ih => rw [List.foldl_cons, ih, hf]

@[simp] theorem direct_charged (s : State) (d : Direction) : (s.direct d).charged = s.charged := by
  unfold State.direct; split <;> rfl

@[simp] theorem noteOwner_charged (s : State) (l : NoticeLink) (n : Notice) : (s.noteOwner l n).charged = s.charged := by
  cases l <;> rfl

@[simp] theorem offerTo_charged (ev : WatchEvent) (n : Fin 4) (s : State) : (State.offerTo ev n s).charged = s.charged := by
  unfold State.offerTo
  split
  · split <;> simp
  · rfl

@[simp] theorem offer_charged (s : State) (ev : WatchEvent) : (s.offer ev).charged = s.charged := by
  simp [State.offer]

@[simp] theorem startOrphan_charged (s : State) (id : ToteId) : (s.startOrphan id).charged = s.charged := by
  unfold State.startOrphan
  split
  · split
    · split <;> simp
    · rfl
  · rfl

@[simp] theorem markFinished_charged (s : State) (w : Win) : (s.markFinished w).charged = s.charged := by
  unfold State.markFinished; split <;> simp

@[simp] theorem finishTest_charged (s : State) (w : Win) : (s.finishTest w).charged = s.charged := by
  unfold State.finishTest
  split
  · split <;> simp
  · rfl

@[simp] theorem sendBack_charged (w : Win) (s : State) : (s.sendBack w).charged = s.charged := by
  unfold State.sendBack
  split
  · rfl
  · simp

@[simp] theorem sendIfDue_charged (w : Win) (s : State) : (s.sendIfDue w).charged = s.charged := by
  unfold State.sendIfDue; split <;> simp

@[simp] theorem sendBoth_charged (s : State) : s.sendBoth.charged = s.charged := by
  unfold State.sendBoth
  split
  · exact bothWays_charged (fun w s => sendIfDue_charged w s) s
  · simp

@[simp] theorem finishBoth_charged (s : State) : s.finishBoth.charged = s.charged := by simp [State.finishBoth]

@[simp] theorem finishAndSend_charged (w : Win) (s : State) : (s.finishAndSend w).charged = s.charged := by
  simp [State.finishAndSend]

@[simp] theorem finishIfTop_charged (id : ToteId) (s : State) : (s.finishIfTop id).charged = s.charged := by
  unfold State.finishIfTop
  split
  · rfl
  · split
    · simp
    · split <;> simp

@[simp] theorem laneSendBack_charged (id : ToteId) (s : State) : (s.laneSendBack id).charged = s.charged := by
  unfold State.laneSendBack
  split
  · split <;> simp
  · rfl

@[simp] theorem unlightFirst_charged (w : Win) (e : Bool) (s : State) : (s.unlightFirst w e).charged = s.charged := by
  unfold State.unlightFirst; split <;> simp

@[simp] theorem releaseLock_charged (p : Option Pos) (s : State) : (s.releaseLock p).charged = s.charged := by
  unfold State.releaseLock; split <;> simp

@[simp] theorem unlightLast_charged (w : Win) (p : Option Pos) (t : Task) (c : UnlitCause) (s : State) :
    (s.unlightLast w p t c).charged = s.charged := by
  simp [State.unlightLast]

@[simp] theorem offerTaskEnd_charged (o : TaskOutcome) (t : Task) (s : State) : (s.offerTaskEnd o t).charged = s.charged := by
  unfold State.offerTaskEnd; split <;> simp

@[simp] theorem endRecord_charged (o : TaskOutcome) (lit : Option Win) (t : Task) (s : State) :
    (s.endRecord o lit t).charged = s.charged := by
  cases lit <;> simp [State.endRecord]

theorem swapIfReady_charged {swap : Pos → State → State} (hs : ∀ p s, (swap p s).charged = s.charged) (p : Option Pos)
    (s : State) : (s.swapIfReady swap p).charged = s.charged := by
  unfold State.swapIfReady
  split
  · split
    · exact hs _ _
    · rfl
  · rfl

@[simp] theorem releaseTote_charged (id : ToteId) (s : State) : (s.releaseTote id).charged = s.charged := by
  simp [State.releaseTote]

theorem afterUnlit_charged {swap : Pos → State → State} (hs : ∀ p s, (swap p s).charged = s.charged) (o : TaskOutcome)
    (p : Option Pos) (id : ToteId) (s : State) : (s.afterUnlit swap o p id).charged = s.charged := by
  unfold State.afterUnlit
  split
  · exact eitherOrder_charged (fun s => swapIfReady_charged hs p s) (fun s => releaseTote_charged id s) s
  · rw [releaseTote_charged, swapIfReady_charged hs]

theorem endWith_charged {swap : Pos → State → State} (hs : ∀ p s, (swap p s).charged = s.charged) (o : TaskOutcome)
    (c : UnlitCause) (lit : Option Win) (id : TaskId) (s : State) : (s.endWith swap o c lit id).charged = s.charged := by
  unfold State.endWith
  split
  · rfl
  · split
    · simp
    · rw [afterUnlit_charged hs]; simp

theorem endAll_charged {f : TaskId → State → State} (hf : ∀ id s, (f id s).charged = s.charged) (ids : List TaskId) (s : State) :
    (s.endAll f ids).charged = s.charged := foldl_charged (fun s id => hf id s) ids s

@[simp] theorem endInSwap_charged (id : TaskId) (s : State) : (s.endInSwap id).charged = s.charged :=
  endWith_charged (fun _ _ => rfl) _ _ _ _ _

@[simp] theorem swapOut_charged (p : Pos) (s : State) : (s.swapOut p).charged = s.charged := by
  unfold State.swapOut
  split
  · rw [endAll_charged endInSwap_charged]; simp
  · rfl

@[simp] theorem endTask_charged (o : TaskOutcome) (id : TaskId) (s : State) : (s.endTask o id).charged = s.charged :=
  endWith_charged swapOut_charged _ _ _ _ _

@[simp] theorem endTasks_charged (o : TaskOutcome) (ids : List TaskId) (s : State) :
    (s.endAll (State.endTask o) ids).charged = s.charged := endAll_charged (endTask_charged o) ids s

@[simp] theorem unlight_charged (w : Win) (c : UnlitCause) (s : State) : (s.unlight w c).charged = s.charged := by
  unfold State.unlight; split <;> simp

@[simp] theorem enterClosing_charged (p : Pos) (s : State) : (s.enterClosing p).charged = s.charged := by
  unfold State.enterClosing
  dsimp only
  split <;> simp

@[simp] theorem emptyPosition_charged (p : Pos) (s : State) : (s.emptyPosition p).charged = s.charged := rfl

@[simp] theorem light_charged (w : Win) (c : Task × Pos) (s : State) : (s.light w c).charged = s.charged := rfl

@[simp] theorem chooseAt_charged (w : Win) (s : State) : (s.chooseAt w).charged = s.charged := by
  unfold State.chooseAt; split <;> simp

@[simp] theorem chooseBoth_charged (s : State) : s.chooseBoth.charged = s.charged := by
  unfold State.chooseBoth
  split
  · split
    · simp
    · exact bothWays_charged (fun w s => chooseAt_charged w s) s
  · simp

@[simp] theorem putUnits_charged (p : Pos) (u v c : Nat) (s : State) : (s.putUnits p u v c).charged = s.charged := by
  unfold State.putUnits
  dsimp only
  split <;> simp

theorem counted_charged (s : State) (c : Counters) : ({ s with counters := c } : State).charged = s.charged := rfl

@[simp] theorem confirm_charged (w : Win) (t : Task) (n : Nat) (s : State) : (s.confirm w t n).charged = s.charged := by
  unfold State.confirm
  dsimp only
  split
  · rw [endTask_charged, counted_charged, State.updWin_charged]
    split <;> simp
  · rw [counted_charged, State.updWin_charged]
    split <;> simp

@[simp] theorem issueFetch_charged (w : Win) (t : Tote) (s : State) : (s.issueFetch w t).charged = s.charged := by
  unfold State.issueFetch
  split <;> simp

@[simp] theorem takeFetch_charged (w : Win) (s : State) : (s.takeFetch w).charged = s.charged := by
  unfold State.takeFetch; split <;> simp

@[simp] theorem swapAt_charged (s : State) (p : Pos) : (s.swapAt p).charged = s.charged := by
  unfold State.swapAt; split <;> simp

@[simp] theorem swapAll_charged (s : State) : s.swapAll.charged = s.charged := foldl_charged (fun s p => swapAt_charged s p) allPos s

@[simp] theorem setBlock_charged (w : Win) (s : State) : (s.setBlock w).charged = s.charged := by
  unfold State.setBlock
  split
  · split
    · rfl
    · split <;> simp
  · simp

@[simp] theorem workWindows_charged (s : State) : s.workWindows.charged = s.charged := by simp [State.workWindows]

@[simp] theorem fetchFirst_charged (s : State) : s.fetchFirst.charged = s.charged := by
  unfold State.fetchFirst
  split
  · exact bothWays_charged (fun w s => takeFetch_charged w s) s
  · simp

theorem settleRounds_charged (n : Nat) (s : State) : (s.settleRounds n).charged = s.charged := by
  induction n generalizing s with
  | zero => rfl
  | succ n ih =>
    unfold State.settleRounds
    dsimp only
    split
    · rw [ih]; split <;> simp
    · simp

@[simp] theorem settle_charged (s : State) : s.settle.charged = s.charged := settleRounds_charged 16 s

@[simp] theorem unlightHeld_charged (a b s : State) : (State.unlightHeld a b s).charged = s.charged := by
  have one : ∀ (c : Bool) (w : Win) (s : State), State.charged (if c then s.unlight w .hold else s) = s.charged := by
    intro c w s; split <;> simp
  unfold State.unlightHeld
  dsimp only
  split
  · exact bothWays_charged (fun w s => one _ w s) s
  · rw [one, one]

@[simp] theorem changeHolds_charged (ws : WinSet) (f : Holds → Holds) (s : State) : (s.changeHolds ws f).charged = s.charged := by
  have one : ∀ (w : Win) (s : State), State.charged
      (if ws.has w then s.updWin w fun x => { x with holds := f x.holds } else s) = s.charged := by
    intro w s; split <;> simp
  unfold State.changeHolds
  dsimp only
  rw [unlightHeld_charged, one, one]

@[simp] theorem takeFault_charged (w : Win) (c : WinFault) (id : ToteId) (s : State) :
    (s.takeFault w c id).charged = s.charged := by
  simp [State.takeFault]

@[simp] theorem pulledFault_charged (w : Win) (s : State) : (s.pulledFault w).charged = s.charged := by
  unfold State.pulledFault; split <;> simp

@[simp] theorem deliver_charged (w : Win) (b : Bool) (s : State) : (s.deliver w b).charged = s.charged := by
  unfold State.deliver
  split
  · rfl
  · dsimp only
    split
    · rw [takeFault_charged]
      split
      · rw [offer_charged, counted_charged]; simp
      · rw [counted_charged]; simp
    · split
      · rw [offer_charged, counted_charged]; simp
      · rw [counted_charged]; simp

@[simp] theorem endReturn_charged (w : Win) (s : State) : (s.endReturn w).charged = s.charged := by
  unfold State.endReturn; split <;> simp

@[simp] theorem driveLight_charged (p : Pos) (s : State) : (s.driveLight p).charged = s.charged := by
  unfold State.driveLight; split <;> simp

@[simp] theorem driveLights_charged (s : State) : s.driveLights.charged = s.charged :=
  foldl_charged (fun s p => driveLight_charged p s) allPos s

end Sys2Proof.Machine
end

