-- ==== Sys2Proof/Laws/Counters.lean ====
section
/-! SUPPORT. What the work of the tables, windows and put controller does to the counters: nothing, but for deliveries,
confirms and expiries. -/

namespace Sys2Proof.Machine

/-! ### Counters -/

@[simp] theorem eitherOrder_counters {f g : State → State} (hf : ∀ s, (f s).counters = s.counters) (hg : ∀ s, (g s).counters = s.counters)
    (s : State) : (s.eitherOrder f g).counters = s.counters := by
  unfold State.eitherOrder
  split
  · rw [hg, hf]
  · rw [hf, hg]

theorem bothWays_counters {f : Win → State → State} (hf : ∀ w s, (f w s).counters = s.counters) (s : State) :
    (s.bothWays f).counters = s.counters := eitherOrder_counters (hf _) (hf _) s

theorem foldl_counters {α : Type} {f : State → α → State} (hf : ∀ s a, (f s a).counters = s.counters) (as : List α) (s : State) :
    (as.foldl f s).counters = s.counters := by
  induction as generalizing s with
  | nil => rfl
  | cons a as ih => rw [List.foldl_cons, ih, hf]

@[simp] theorem direct_counters (s : State) (d : Direction) : (s.direct d).counters = s.counters := by
  unfold State.direct; split <;> rfl

@[simp] theorem noteOwner_counters (s : State) (l : NoticeLink) (n : Notice) : (s.noteOwner l n).counters = s.counters := by
  cases l <;> rfl

@[simp] theorem offerTo_counters (ev : WatchEvent) (n : Fin 4) (s : State) : (State.offerTo ev n s).counters = s.counters := by
  unfold State.offerTo
  split
  · split <;> simp
  · rfl

@[simp] theorem offer_counters (s : State) (ev : WatchEvent) : (s.offer ev).counters = s.counters := by
  simp [State.offer]

@[simp] theorem startOrphan_counters (s : State) (id : ToteId) : (s.startOrphan id).counters = s.counters := by
  unfold State.startOrphan
  split
  · split
    · split <;> simp
    · rfl
  · rfl

@[simp] theorem markFinished_counters (s : State) (w : Win) : (s.markFinished w).counters = s.counters := by
  unfold State.markFinished; split <;> simp

@[simp] theorem finishTest_counters (s : State) (w : Win) : (s.finishTest w).counters = s.counters := by
  unfold State.finishTest
  split
  · split <;> simp
  · rfl

@[simp] theorem sendBack_counters (w : Win) (s : State) : (s.sendBack w).counters = s.counters := by
  unfold State.sendBack
  split
  · rfl
  · simp

@[simp] theorem sendIfDue_counters (w : Win) (s : State) : (s.sendIfDue w).counters = s.counters := by
  unfold State.sendIfDue; split <;> simp

@[simp] theorem sendBoth_counters (s : State) : s.sendBoth.counters = s.counters := by
  unfold State.sendBoth
  split
  · exact bothWays_counters (fun w s => sendIfDue_counters w s) s
  · simp

@[simp] theorem finishBoth_counters (s : State) : s.finishBoth.counters = s.counters := by simp [State.finishBoth]

@[simp] theorem finishAndSend_counters (w : Win) (s : State) : (s.finishAndSend w).counters = s.counters := by
  simp [State.finishAndSend]

@[simp] theorem finishIfTop_counters (id : ToteId) (s : State) : (s.finishIfTop id).counters = s.counters := by
  unfold State.finishIfTop
  split
  · rfl
  · split
    · simp
    · split <;> simp

@[simp] theorem laneSendBack_counters (id : ToteId) (s : State) : (s.laneSendBack id).counters = s.counters := by
  unfold State.laneSendBack
  split
  · split <;> simp
  · rfl

@[simp] theorem unlightFirst_counters (w : Win) (e : Bool) (s : State) : (s.unlightFirst w e).counters = s.counters := by
  unfold State.unlightFirst; split <;> simp

@[simp] theorem releaseLock_counters (p : Option Pos) (s : State) : (s.releaseLock p).counters = s.counters := by
  unfold State.releaseLock; split <;> simp

@[simp] theorem unlightLast_counters (w : Win) (p : Option Pos) (t : Task) (c : UnlitCause) (s : State) :
    (s.unlightLast w p t c).counters = s.counters := by
  simp [State.unlightLast]

@[simp] theorem offerTaskEnd_counters (o : TaskOutcome) (t : Task) (s : State) : (s.offerTaskEnd o t).counters = s.counters := by
  unfold State.offerTaskEnd; split <;> simp

@[simp] theorem endRecord_counters (o : TaskOutcome) (lit : Option Win) (t : Task) (s : State) :
    (s.endRecord o lit t).counters = s.counters := by
  cases lit <;> simp [State.endRecord]

theorem swapIfReady_counters {swap : Pos → State → State} (hs : ∀ p s, (swap p s).counters = s.counters) (p : Option Pos)
    (s : State) : (s.swapIfReady swap p).counters = s.counters := by
  unfold State.swapIfReady
  split
  · split
    · exact hs _ _
    · rfl
  · rfl

@[simp] theorem releaseTote_counters (id : ToteId) (s : State) : (s.releaseTote id).counters = s.counters := by
  simp [State.releaseTote]

theorem afterUnlit_counters {swap : Pos → State → State} (hs : ∀ p s, (swap p s).counters = s.counters) (o : TaskOutcome)
    (p : Option Pos) (id : ToteId) (s : State) : (s.afterUnlit swap o p id).counters = s.counters := by
  unfold State.afterUnlit
  split
  · exact eitherOrder_counters (fun s => swapIfReady_counters hs p s) (fun s => releaseTote_counters id s) s
  · rw [releaseTote_counters, swapIfReady_counters hs]

theorem endWith_counters {swap : Pos → State → State} (hs : ∀ p s, (swap p s).counters = s.counters) (o : TaskOutcome)
    (c : UnlitCause) (lit : Option Win) (id : TaskId) (s : State) : (s.endWith swap o c lit id).counters = s.counters := by
  unfold State.endWith
  split
  · rfl
  · split
    · simp
    · rw [afterUnlit_counters hs]; simp

theorem endAll_counters {f : TaskId → State → State} (hf : ∀ id s, (f id s).counters = s.counters) (ids : List TaskId) (s : State) :
    (s.endAll f ids).counters = s.counters := foldl_counters (fun s id => hf id s) ids s

@[simp] theorem endInSwap_counters (id : TaskId) (s : State) : (s.endInSwap id).counters = s.counters :=
  endWith_counters (fun _ _ => rfl) _ _ _ _ _

@[simp] theorem swapOut_counters (p : Pos) (s : State) : (s.swapOut p).counters = s.counters := by
  unfold State.swapOut
  split
  · rw [endAll_counters endInSwap_counters]; simp
  · rfl

@[simp] theorem endTask_counters (o : TaskOutcome) (id : TaskId) (s : State) : (s.endTask o id).counters = s.counters :=
  endWith_counters swapOut_counters _ _ _ _ _

@[simp] theorem endTasks_counters (o : TaskOutcome) (ids : List TaskId) (s : State) :
    (s.endAll (State.endTask o) ids).counters = s.counters := endAll_counters (endTask_counters o) ids s

@[simp] theorem unlight_counters (w : Win) (c : UnlitCause) (s : State) : (s.unlight w c).counters = s.counters := by
  unfold State.unlight; split <;> simp

@[simp] theorem enterClosing_counters (p : Pos) (s : State) : (s.enterClosing p).counters = s.counters := by
  unfold State.enterClosing
  dsimp only
  split <;> simp

@[simp] theorem emptyPosition_counters (p : Pos) (s : State) : (s.emptyPosition p).counters = s.counters := rfl

@[simp] theorem light_counters (w : Win) (c : Task × Pos) (s : State) : (s.light w c).counters = s.counters := rfl

@[simp] theorem chooseAt_counters (w : Win) (s : State) : (s.chooseAt w).counters = s.counters := by
  unfold State.chooseAt; split <;> simp

@[simp] theorem chooseBoth_counters (s : State) : s.chooseBoth.counters = s.counters := by
  unfold State.chooseBoth
  split
  · split
    · simp
    · exact bothWays_counters (fun w s => chooseAt_counters w s) s
  · simp

@[simp] theorem putUnits_counters (p : Pos) (u v c : Nat) (s : State) : (s.putUnits p u v c).counters = s.counters := by
  unfold State.putUnits
  dsimp only
  split <;> simp

@[simp] theorem issueFetch_counters (w : Win) (t : Tote) (s : State) : (s.issueFetch w t).counters = s.counters := by
  unfold State.issueFetch
  split <;> simp

@[simp] theorem takeFetch_counters (w : Win) (s : State) : (s.takeFetch w).counters = s.counters := by
  unfold State.takeFetch; split <;> simp

@[simp] theorem swapAt_counters (s : State) (p : Pos) : (s.swapAt p).counters = s.counters := by
  unfold State.swapAt; split <;> simp

@[simp] theorem swapAll_counters (s : State) : s.swapAll.counters = s.counters := foldl_counters (fun s p => swapAt_counters s p) allPos s

@[simp] theorem setBlock_counters (w : Win) (s : State) : (s.setBlock w).counters = s.counters := by
  unfold State.setBlock
  split
  · split
    · rfl
    · split <;> simp
  · simp

@[simp] theorem workWindows_counters (s : State) : s.workWindows.counters = s.counters := by simp [State.workWindows]

@[simp] theorem fetchFirst_counters (s : State) : s.fetchFirst.counters = s.counters := by
  unfold State.fetchFirst
  split
  · exact bothWays_counters (fun w s => takeFetch_counters w s) s
  · simp

theorem settleRounds_counters (n : Nat) (s : State) : (s.settleRounds n).counters = s.counters := by
  induction n generalizing s with
  | zero => rfl
  | succ n ih =>
    unfold State.settleRounds
    dsimp only
    split
    · rw [ih]; split <;> simp
    · simp

@[simp] theorem settle_counters (s : State) : s.settle.counters = s.counters := settleRounds_counters 16 s

@[simp] theorem unlightHeld_counters (a b s : State) : (State.unlightHeld a b s).counters = s.counters := by
  have one : ∀ (c : Bool) (w : Win) (s : State), State.counters (if c then s.unlight w .hold else s) = s.counters := by
    intro c w s; split <;> simp
  unfold State.unlightHeld
  dsimp only
  split
  · exact bothWays_counters (fun w s => one _ w s) s
  · rw [one, one]

@[simp] theorem changeHolds_counters (ws : WinSet) (f : Holds → Holds) (s : State) : (s.changeHolds ws f).counters = s.counters := by
  have one : ∀ (w : Win) (s : State), State.counters
      (if ws.has w then s.updWin w fun x => { x with holds := f x.holds } else s) = s.counters := by
    intro w s; split <;> simp
  unfold State.changeHolds
  dsimp only
  rw [unlightHeld_counters, one, one]

@[simp] theorem takeFault_counters (w : Win) (c : WinFault) (id : ToteId) (s : State) :
    (s.takeFault w c id).counters = s.counters := by
  simp [State.takeFault]

@[simp] theorem pulledFault_counters (w : Win) (s : State) : (s.pulledFault w).counters = s.counters := by
  unfold State.pulledFault; split <;> simp

@[simp] theorem endReturn_counters (w : Win) (s : State) : (s.endReturn w).counters = s.counters := by
  unfold State.endReturn; split <;> simp

@[simp] theorem driveLight_counters (p : Pos) (s : State) : (s.driveLight p).counters = s.counters := by
  unfold State.driveLight; split <;> simp

@[simp] theorem driveLights_counters (s : State) : s.driveLights.counters = s.counters :=
  foldl_counters (fun s p => driveLight_counters p s) allPos s

end Sys2Proof.Machine
end

