-- ==== Sys2Proof/Laws/Frames.lean ====
section
/-! SUPPORT. What the work of the tables, windows and put controller leaves alone: the base of the state (phase, exposure
unit, mode, hold line, watches, settings, ports, queue) and, but for deliveries, confirms and expiries, the counters. -/

namespace Sys2Proof.Machine

/-! ### Base -/

@[simp] theorem eitherOrder_base {f g : State → State} (hf : ∀ s, (f s).base = s.base) (hg : ∀ s, (g s).base = s.base)
    (s : State) : (s.eitherOrder f g).base = s.base := by
  unfold State.eitherOrder
  split
  · rw [hg, hf]; rfl
  · rw [hf, hg]; rfl

theorem bothWays_base {f : Win → State → State} (hf : ∀ w s, (f w s).base = s.base) (s : State) :
    (s.bothWays f).base = s.base := eitherOrder_base (hf _) (hf _) s

theorem foldl_base {α : Type} {f : State → α → State} (hf : ∀ s a, (f s a).base = s.base) (as : List α) (s : State) :
    (as.foldl f s).base = s.base := by
  induction as generalizing s with
  | nil => rfl
  | cons a as ih => rw [List.foldl_cons, ih, hf]

@[simp] theorem direct_base (s : State) (d : Direction) : (s.direct d).base = s.base := by
  unfold State.direct; split <;> rfl

@[simp] theorem noteOwner_base (s : State) (l : NoticeLink) (n : Notice) : (s.noteOwner l n).base = s.base := by
  cases l <;> rfl

@[simp] theorem offerTo_base (ev : WatchEvent) (n : Fin 4) (s : State) : (State.offerTo ev n s).base = s.base := by
  unfold State.offerTo
  split
  · split <;> simp
  · rfl

@[simp] theorem offer_base (s : State) (ev : WatchEvent) : (s.offer ev).base = s.base := by
  simp [State.offer]

@[simp] theorem startOrphan_base (s : State) (id : ToteId) : (s.startOrphan id).base = s.base := by
  unfold State.startOrphan
  split
  · split
    · split <;> simp
    · rfl
  · rfl

@[simp] theorem markFinished_base (s : State) (w : Win) : (s.markFinished w).base = s.base := by
  unfold State.markFinished; split <;> simp

/-- The FINISHED test marks the top or changes nothing. -/
theorem finishTest_cases (s : State) (w : Win) : s.finishTest w = s ∨ s.finishTest w = s.markFinished w := by
  unfold State.finishTest
  split
  · split
    · exact .inr rfl
    · exact .inl rfl
  · exact .inl rfl

/-- A top that is not EXPIRED and that a live task names does not become FINISHED by the test (R92). -/
theorem finishTest_of_named (s : State) (w : Win) (t : Tote) (ht : s.topTote? w = some t) (he : t.expired = false)
    (hn : s.named t.id = true) : s.finishTest w = s := by
  simp [State.finishTest, ht, he, hn]

/-- Under a lit task the setting of the block timer finishes no top (log entry 13). -/
theorem setBlock_totes_of_lit (s : State) (w : Win) (hl : (s.win w).lit.isSome = true) :
    (s.setBlock w).totes = s.totes := by
  have h : (s.win w).lit ≠ none := Option.isSome_iff_ne_none.mp hl
  unfold State.setBlock
  split
  · split
    · rfl
    · simp [h]
  · simp

@[simp] theorem finishTest_base (s : State) (w : Win) : (s.finishTest w).base = s.base := by
  unfold State.finishTest
  split
  · split <;> simp
  · rfl

@[simp] theorem sendBack_base (w : Win) (s : State) : (s.sendBack w).base = s.base := by
  unfold State.sendBack
  split
  · rfl
  · simp

@[simp] theorem sendIfDue_base (w : Win) (s : State) : (s.sendIfDue w).base = s.base := by
  unfold State.sendIfDue; split <;> simp

@[simp] theorem sendBoth_base (s : State) : s.sendBoth.base = s.base := by
  unfold State.sendBoth
  split
  · exact bothWays_base (fun w s => sendIfDue_base w s) s
  · simp

@[simp] theorem finishBoth_base (s : State) : s.finishBoth.base = s.base := by simp [State.finishBoth]

@[simp] theorem finishAndSend_base (w : Win) (s : State) : (s.finishAndSend w).base = s.base := by
  simp [State.finishAndSend]

@[simp] theorem finishIfTop_base (id : ToteId) (s : State) : (s.finishIfTop id).base = s.base := by
  unfold State.finishIfTop
  split
  · rfl
  · split
    · simp
    · split <;> simp

@[simp] theorem laneSendBack_base (id : ToteId) (s : State) : (s.laneSendBack id).base = s.base := by
  unfold State.laneSendBack
  split
  · split <;> simp
  · rfl

@[simp] theorem unlightFirst_base (w : Win) (e : Bool) (s : State) : (s.unlightFirst w e).base = s.base := by
  unfold State.unlightFirst; split <;> simp

@[simp] theorem releaseLock_base (p : Option Pos) (s : State) : (s.releaseLock p).base = s.base := by
  unfold State.releaseLock; split <;> simp

@[simp] theorem unlightLast_base (w : Win) (p : Option Pos) (t : Task) (c : UnlitCause) (s : State) :
    (s.unlightLast w p t c).base = s.base := by
  simp [State.unlightLast]

@[simp] theorem offerTaskEnd_base (o : TaskOutcome) (t : Task) (s : State) : (s.offerTaskEnd o t).base = s.base := by
  unfold State.offerTaskEnd; split <;> simp

@[simp] theorem endRecord_base (o : TaskOutcome) (lit : Option Win) (t : Task) (s : State) :
    (s.endRecord o lit t).base = s.base := by
  cases lit <;> simp [State.endRecord]

theorem swapIfReady_base {swap : Pos → State → State} (hs : ∀ p s, (swap p s).base = s.base) (p : Option Pos)
    (s : State) : (s.swapIfReady swap p).base = s.base := by
  unfold State.swapIfReady
  split
  · split
    · exact hs _ _
    · rfl
  · rfl

@[simp] theorem releaseTote_base (id : ToteId) (s : State) : (s.releaseTote id).base = s.base := by
  simp [State.releaseTote]

theorem afterUnlit_base {swap : Pos → State → State} (hs : ∀ p s, (swap p s).base = s.base) (o : TaskOutcome)
    (p : Option Pos) (id : ToteId) (s : State) : (s.afterUnlit swap o p id).base = s.base := by
  unfold State.afterUnlit
  split
  · exact eitherOrder_base (fun s => swapIfReady_base hs p s) (fun s => releaseTote_base id s) s
  · rw [releaseTote_base, swapIfReady_base hs]

theorem endWith_base {swap : Pos → State → State} (hs : ∀ p s, (swap p s).base = s.base) (o : TaskOutcome)
    (c : UnlitCause) (lit : Option Win) (id : TaskId) (s : State) : (s.endWith swap o c lit id).base = s.base := by
  unfold State.endWith
  split
  · rfl
  · split
    · simp
    · rw [afterUnlit_base hs]; simp

theorem endAll_base {f : TaskId → State → State} (hf : ∀ id s, (f id s).base = s.base) (ids : List TaskId) (s : State) :
    (s.endAll f ids).base = s.base := foldl_base (fun s id => hf id s) ids s

@[simp] theorem endInSwap_base (id : TaskId) (s : State) : (s.endInSwap id).base = s.base :=
  endWith_base (fun _ _ => rfl) _ _ _ _ _

@[simp] theorem swapOut_base (p : Pos) (s : State) : (s.swapOut p).base = s.base := by
  unfold State.swapOut
  split
  · rw [endAll_base endInSwap_base]; simp
  · rfl

@[simp] theorem endTask_base (o : TaskOutcome) (id : TaskId) (s : State) : (s.endTask o id).base = s.base :=
  endWith_base swapOut_base _ _ _ _ _

@[simp] theorem endTasks_base (o : TaskOutcome) (ids : List TaskId) (s : State) :
    (s.endAll (State.endTask o) ids).base = s.base := endAll_base (endTask_base o) ids s

@[simp] theorem unlight_base (w : Win) (c : UnlitCause) (s : State) : (s.unlight w c).base = s.base := by
  unfold State.unlight; split <;> simp

@[simp] theorem enterClosing_base (p : Pos) (s : State) : (s.enterClosing p).base = s.base := by
  unfold State.enterClosing
  dsimp only
  split <;> simp

@[simp] theorem emptyPosition_base (p : Pos) (s : State) : (s.emptyPosition p).base = s.base := rfl

@[simp] theorem light_base (w : Win) (c : Task × Pos) (s : State) : (s.light w c).base = s.base := rfl

@[simp] theorem chooseAt_base (w : Win) (s : State) : (s.chooseAt w).base = s.base := by
  unfold State.chooseAt; split <;> simp

@[simp] theorem chooseBoth_base (s : State) : s.chooseBoth.base = s.base := by
  unfold State.chooseBoth
  split
  · split
    · simp
    · exact bothWays_base (fun w s => chooseAt_base w s) s
  · simp

@[simp] theorem putUnits_base (p : Pos) (u v c : Nat) (s : State) : (s.putUnits p u v c).base = s.base := by
  unfold State.putUnits
  dsimp only
  split <;> simp

theorem counted_base (s : State) (c : Counters) : ({ s with counters := c } : State).base = s.base := rfl

@[simp] theorem confirm_base (w : Win) (t : Task) (n : Nat) (s : State) : (s.confirm w t n).base = s.base := by
  unfold State.confirm
  dsimp only
  split
  · rw [endTask_base, counted_base, State.updWin_base]
    split <;> simp
  · rw [counted_base, State.updWin_base]
    split <;> simp

@[simp] theorem issueFetch_base (w : Win) (t : Tote) (s : State) : (s.issueFetch w t).base = s.base := by
  unfold State.issueFetch
  split <;> simp

@[simp] theorem takeFetch_base (w : Win) (s : State) : (s.takeFetch w).base = s.base := by
  unfold State.takeFetch; split <;> simp

@[simp] theorem swapAt_base (s : State) (p : Pos) : (s.swapAt p).base = s.base := by
  unfold State.swapAt; split <;> simp

@[simp] theorem swapAll_base (s : State) : s.swapAll.base = s.base := foldl_base (fun s p => swapAt_base s p) allPos s

@[simp] theorem setBlock_base (w : Win) (s : State) : (s.setBlock w).base = s.base := by
  unfold State.setBlock
  split
  · split
    · rfl
    · split <;> simp
  · simp

@[simp] theorem workWindows_base (s : State) : s.workWindows.base = s.base := by simp [State.workWindows]

@[simp] theorem fetchFirst_base (s : State) : s.fetchFirst.base = s.base := by
  unfold State.fetchFirst
  split
  · exact bothWays_base (fun w s => takeFetch_base w s) s
  · simp

theorem settleRounds_base (n : Nat) (s : State) : (s.settleRounds n).base = s.base := by
  induction n generalizing s with
  | zero => rfl
  | succ n ih =>
    unfold State.settleRounds
    dsimp only
    split
    · rw [ih]; split <;> simp
    · simp

@[simp] theorem settle_base (s : State) : s.settle.base = s.base := settleRounds_base 16 s

@[simp] theorem unlightHeld_base (a b s : State) : (State.unlightHeld a b s).base = s.base := by
  have one : ∀ (c : Bool) (w : Win) (s : State), State.base (if c then s.unlight w .hold else s) = s.base := by
    intro c w s; split <;> simp
  unfold State.unlightHeld
  dsimp only
  split
  · exact bothWays_base (fun w s => one _ w s) s
  · rw [one, one]

@[simp] theorem changeHolds_base (ws : WinSet) (f : Holds → Holds) (s : State) : (s.changeHolds ws f).base = s.base := by
  have one : ∀ (w : Win) (s : State), State.base
      (if ws.has w then s.updWin w fun x => { x with holds := f x.holds } else s) = s.base := by
    intro w s; split <;> simp
  unfold State.changeHolds
  dsimp only
  rw [unlightHeld_base, one, one]

@[simp] theorem takeFault_base (w : Win) (c : WinFault) (id : ToteId) (s : State) :
    (s.takeFault w c id).base = s.base := by
  simp [State.takeFault]

@[simp] theorem pulledFault_base (w : Win) (s : State) : (s.pulledFault w).base = s.base := by
  unfold State.pulledFault; split <;> simp

@[simp] theorem deliver_base (w : Win) (b : Bool) (s : State) : (s.deliver w b).base = s.base := by
  unfold State.deliver
  split
  · rfl
  · dsimp only
    split
    · rw [takeFault_base]
      split
      · rw [offer_base, counted_base]; simp
      · rw [counted_base]; simp
    · split
      · rw [offer_base, counted_base]; simp
      · rw [counted_base]; simp

@[simp] theorem endReturn_base (w : Win) (s : State) : (s.endReturn w).base = s.base := by
  unfold State.endReturn; split <;> simp

@[simp] theorem driveLight_base (p : Pos) (s : State) : (s.driveLight p).base = s.base := by
  unfold State.driveLight; split <;> simp

@[simp] theorem driveLights_base (s : State) : s.driveLights.base = s.base :=
  foldl_base (fun s p => driveLight_base p s) allPos s

end Sys2Proof.Machine
end

