-- ==== Sys2Proof/Laws/PerInstr.lean ====
section
/-! SUPPORT. Facts stated per command: the body that a request carries has the length that its kind has in section 11.7,
and its code reads back as its kind. -/

namespace Sys2Proof.Laws.RequestBody

open Sys2Proof Sys2Proof.Machine

/-- The body of a request has its kind's length, and the kind's code names the kind (section 11.7). -/
def Statement (c : Instr) : Prop :=
  ∀ (r : Req) (k : ReqKind) (body : List Byte), c.request = some (r, k, body) →
    body.length = k.bodyLength ∧ kindOf k.code = some k

theorem powerOn (pins : Pins) : Statement (.powerOn pins) := by rintro _ _ _ ⟨⟩
theorem rstnFall : Statement (.rstnFall) := by rintro _ _ _ ⟨⟩
theorem resetQualified (cut : StoreCut) : Statement (.resetQualified cut) := by rintro _ _ _ ⟨⟩
theorem rstnRise (pins : Pins) : Statement (.rstnRise pins) := by rintro _ _ _ ⟨⟩
theorem settingsLoadEnd : Statement (.settingsLoadEnd) := by rintro _ _ _ ⟨⟩
theorem frameIgnoredDuringLoad (l : Link) : Statement (.frameIgnoredDuringLoad l) := by rintro _ _ _ ⟨⟩
theorem byteStopBitAbort (l : Link) : Statement (.byteStopBitAbort l) := by rintro _ _ _ ⟨⟩
theorem frameLengthAbandon (l : Link) (length : Byte) : Statement (.frameLengthAbandon l length) := by rintro _ _ _ ⟨⟩
theorem frameCrcDiscard (l : Link) (content : List Byte) (crc : BitVec 16) :
    Statement (.frameCrcDiscard l content crc) := by rintro _ _ _ ⟨⟩
theorem formatRefusal (r : Req) (kind : Byte) (body : List Byte) :
    Statement (.formatRefusal r kind body) := by rintro _ _ _ ⟨⟩
theorem frameSent (l : Link) : Statement (.frameSent l) := by rintro _ _ _ ⟨⟩
theorem post (r : Req) (task : TaskId) (tote : ToteId) (orderTote : OrderToteId) (sku : Sku) (cls quantity unitVolume crushClass : Byte) :
    Statement (.post r task tote orderTote sku cls quantity unitVolume crushClass) := by rintro _ _ _ ⟨⟩; exact ⟨rfl, by decide⟩
theorem withdraw (r : Req) (task : TaskId) : Statement (.withdraw r task) := by rintro _ _ _ ⟨⟩; exact ⟨rfl, by decide⟩
theorem rush (r : Req) (tote : ToteId) : Statement (.rush r tote) := by rintro _ _ _ ⟨⟩; exact ⟨rfl, by decide⟩
theorem bind (r : Req) (pos : Byte) (orderTote : OrderToteId) (cls capacity : Byte) :
    Statement (.bind r pos orderTote cls capacity) := by rintro _ _ _ ⟨⟩; exact ⟨rfl, by decide⟩
theorem close (r : Req) (pos : Byte) : Statement (.close r pos) := by rintro _ _ _ ⟨⟩; exact ⟨rfl, by decide⟩
theorem mode (r : Req) (mode : Byte) : Statement (.mode r mode) := by rintro _ _ _ ⟨⟩; exact ⟨rfl, by decide⟩
theorem clear (r : Req) : Statement (.clear r) := by rintro _ _ _ ⟨⟩; exact ⟨rfl, by decide⟩
theorem setItem (r : Req) (item : Byte) (value : BitVec 16) :
    Statement (.setItem r item value) := by rintro _ _ _ ⟨⟩; exact ⟨rfl, by decide⟩
theorem store (r : Req) : Statement (.store r) := by rintro _ _ _ ⟨⟩; exact ⟨rfl, by decide⟩
theorem storeCompletion (readBack : Vector SWord 31) : Statement (.storeCompletion readBack) := by rintro _ _ _ ⟨⟩
theorem lock (r : Req) : Statement (.lock r) := by rintro _ _ _ ⟨⟩; exact ⟨rfl, by decide⟩
theorem toteIn (r : Req) (tote : ToteId) (slot cls : Byte) (brought : BitVec 24) :
    Statement (.toteIn r tote slot cls brought) := by rintro _ _ _ ⟨⟩; exact ⟨rfl, by decide⟩
theorem toteOut (r : Req) (tote : ToteId) : Statement (.toteOut r tote) := by rintro _ _ _ ⟨⟩; exact ⟨rfl, by decide⟩
theorem atWin (r : Req) (tote : ToteId) (window : Byte) :
    Statement (.atWin r tote window) := by rintro _ _ _ ⟨⟩; exact ⟨rfl, by decide⟩
theorem gone (r : Req) (tote : ToteId) : Statement (.gone r tote) := by rintro _ _ _ ⟨⟩; exact ⟨rfl, by decide⟩
theorem swapped (r : Req) (pos : Byte) : Statement (.swapped r pos) := by rintro _ _ _ ⟨⟩; exact ⟨rfl, by decide⟩
theorem picked (r : Req) (task : TaskId) (count : Byte) :
    Statement (.picked r task count) := by rintro _ _ _ ⟨⟩; exact ⟨rfl, by decide⟩
theorem short (r : Req) (task : TaskId) : Statement (.short r task) := by rintro _ _ _ ⟨⟩; exact ⟨rfl, by decide⟩
theorem toteBad (r : Req) (tote : ToteId) : Statement (.toteBad r tote) := by rintro _ _ _ ⟨⟩; exact ⟨rfl, by decide⟩
theorem hold (r : Req) (windows : Byte) : Statement (.hold r windows) := by rintro _ _ _ ⟨⟩; exact ⟨rfl, by decide⟩
theorem resume (r : Req) (windows : Byte) : Statement (.resume r windows) := by rintro _ _ _ ⟨⟩; exact ⟨rfl, by decide⟩
theorem read (r : Req) (item : Byte) (index : BitVec 32) :
    Statement (.read r item index) := by rintro _ _ _ ⟨⟩; exact ⟨rfl, by decide⟩
theorem list (r : Req) : Statement (.list r) := by rintro _ _ _ ⟨⟩; exact ⟨rfl, by decide⟩
theorem cursor (r : Req) (kind index : Byte) :
    Statement (.cursor r kind index) := by rintro _ _ _ ⟨⟩; exact ⟨rfl, by decide⟩
theorem watch (r : Req) (entry enabled subject : Byte) (low high : BitVec 32) (combine events windows : Byte) :
    Statement (.watch r entry enabled subject low high combine events windows) := by rintro _ _ _ ⟨⟩; exact ⟨rfl, by decide⟩
theorem accrualIntervalExpiry : Statement (.accrualIntervalExpiry) := by rintro _ _ _ ⟨⟩
theorem accrualEvent (reading : Option (BitVec 16)) : Statement (.accrualEvent reading) := by rintro _ _ _ ⟨⟩
theorem orphanExpiry (tote : ToteId) : Statement (.orphanExpiry tote) := by rintro _ _ _ ⟨⟩
theorem laneReturnTimeout (tote : ToteId) : Statement (.laneReturnTimeout tote) := by rintro _ _ _ ⟨⟩
theorem presRise (w : Win) : Statement (.presRise w) := by rintro _ _ _ ⟨⟩
theorem presFall (w : Win) : Statement (.presFall w) := by rintro _ _ _ ⟨⟩
theorem settleExpiry (w : Win) : Statement (.settleExpiry w) := by rintro _ _ _ ⟨⟩
theorem fetchTimeout (w : Win) : Statement (.fetchTimeout w) := by rintro _ _ _ ⟨⟩
theorem windowReturnTimeout (w : Win) : Statement (.windowReturnTimeout w) := by rintro _ _ _ ⟨⟩
theorem blockTimerExpiry (w : Win) : Statement (.blockTimerExpiry w) := by rintro _ _ _ ⟨⟩
theorem swapTimeout (p : Pos) : Statement (.swapTimeout p) := by rintro _ _ _ ⟨⟩
theorem pposFall (p : Pos) : Statement (.pposFall p) := by rintro _ _ _ ⟨⟩
theorem pposRise (p : Pos) : Statement (.pposRise p) := by rintro _ _ _ ⟨⟩
theorem btnPress (p : Pos) : Statement (.btnPress p) := by rintro _ _ _ ⟨⟩
theorem btnRelease (p : Pos) : Statement (.btnRelease p) := by rintro _ _ _ ⟨⟩
theorem guardExpiry (w : Win) : Statement (.guardExpiry w) := by rintro _ _ _ ⟨⟩
theorem confirmPeriodExpiry (w : Win) : Statement (.confirmPeriodExpiry w) := by rintro _ _ _ ⟨⟩
theorem awaitExpiry (task : TaskId) : Statement (.awaitExpiry task) := by rintro _ _ _ ⟨⟩
theorem holdLineAsserted : Statement (.holdLineAsserted) := by rintro _ _ _ ⟨⟩
theorem holdLineReleased : Statement (.holdLineReleased) := by rintro _ _ _ ⟨⟩
theorem lossOfSupply (cut : StoreCut) : Statement (.lossOfSupply cut) := by rintro _ _ _ ⟨⟩
theorem startByte (l : Link) : Statement (.startByte l) := by rintro _ _ _ ⟨⟩

end Sys2Proof.Laws.RequestBody
end

