-- ==== Sys2Proof/Laws/Serve.lean ====
section
/-! SUPPORT. What a request frame can do at its link port (R144, R145, R165): one lemma per fate of the frame. -/

namespace Sys2Proof.Machine

variable {k : ReqKind} {r : Req} {owner : State → Answer} {s : State}

/-- A frame is not taken while the part does not run (R144, R145). -/
theorem serve_not_running (h : s.phase ≠ .running) : s.serve k r owner = s := by simp [State.serve, h]

/-- With the reply slot busy the frame is discarded (R165, check 1). -/
theorem serve_slotBusy (hp : s.phase = .running) (hb : s.slotBusy r.link = true) :
    s.serve k r owner = s.heard r.link := by simp [State.serve, hp, hb]

/-- What listening to a link means. -/
theorem listens_iff {l : Link} : s.listens l = true ↔ s.phase = .running ∧ s.slotBusy l = false := by
  simp [State.listens]

/-- A kind not allowed on its link is refused AUTHORITY (R165, check 3). -/
theorem serve_authority (h : s.listens r.link = true) (ha : k.allowed r.link = false) :
    s.serve k r owner = s.refusal r k .authority := by
  obtain ⟨hp, hb⟩ := listens_iff.1 h
  simp [State.serve, hp, hb, ha, State.refusal]

/-- The owner refuses (R165, R166). -/
theorem serve_refused (h : s.listens r.link = true) (ha : k.allowed r.link = true) {c : Reason}
    (ho : owner (s.heard r.link) = .refused c) : s.serve k r owner = s.refusal r k c := by
  obtain ⟨hp, hb⟩ := listens_iff.1 h
  simp [State.serve, hp, hb, ha, ho, State.refusal]

/-- The owner takes the request (R165, R166). -/
theorem serve_taken (h : s.listens r.link = true) (ha : k.allowed r.link = true) {c : Reason} {t : State}
    (ho : owner (s.heard r.link) = .taken t c) : s.serve k r owner = t.answer r k c := by
  obtain ⟨hp, hb⟩ := listens_iff.1 h
  simp [State.serve, hp, hb, ha, ho]

/-- The owner takes the request and nothing but its port has a frame to send (R165, R166). -/
theorem serve_portOnly (h : s.listens r.link = true) (ha : k.allowed r.link = true) {c : Reason} {t : State}
    {result : List Byte} (ho : owner (s.heard r.link) = .portOnly t c result) :
    s.serve k r owner = t.answerPort r k c result := by
  obtain ⟨hp, hb⟩ := listens_iff.1 h
  simp [State.serve, hp, hb, ha, ho]

/-- The owner takes the request and answers later (R158). -/
theorem serve_deferred (h : s.listens r.link = true) (ha : k.allowed r.link = true) {t : State}
    (ho : owner (s.heard r.link) = .deferred t) : s.serve k r owner = t := by
  obtain ⟨hp, hb⟩ := listens_iff.1 h
  simp [State.serve, hp, hb, ha, ho]

end Sys2Proof.Machine
end

