-- ==== Sys2Proof/Tests/Slice0.lean ====
section
/-! SUPPORT. The model's own tests: well-formedness refused on ill-formed commands, frames written out from section 11.7,
worked examples of the spec one step at a time, and for every statement a state and operands that meet its hypotheses. -/

namespace Sys2Proof.Tests

open Sys2Proof Sys2Proof.Machine

-- One theorem after the other: each kernel evaluation would otherwise take a thread of its own.
set_option Elab.async false

/-! ## Small states -/

/-- The state after a command. -/
def after (o : Host.Outcome State Fault Refusal) : State :=
  match o with
  | .next t => t
  | .fault _ => State.reset
  | .refused _ => State.reset

/-- A request of a link with reply tag 5. -/
def ask (l : Link) : Req := ⟨l, 5⟩

/-- The part running in SERVICE with the default settings and an empty bench. -/
def service : State := { State.reset with phase := .running }

/-- The same in RUN. -/
def run : State := { service with mode := .run }

/-- CHILLED tote 7 in lane slot 0, an orphan. -/
def tote7 : Tote :=
  { recNo := 0, id := 7, cls := .chilled, state := .inLane 0, account := 0, carry := 0, urgent := false, expired := false,
    rush := false, finished := false, orphanTimer := some 120000, laneReturnTimer := none }

/-- Tote 7 in the lane. -/
def laned : State := { run with totes := [tote7], lane := run.lane.set 0 (some 7), arrival := [7] }

/-- Tote 7 on its way back from slot 0. -/
def leaving : State :=
  { laned with totes := [{ tote7 with state := .leavingLane 0, orphanTimer := none, laneReturnTimer := some 45000 }] }

/-- A task of four units of 2 on tote 7 to order tote 9. -/
def task3 : Task :=
  { recNo := 0, id := 3, tote := 7, orderTote := 9, sku := 5, cls := .chilled, quantity := 4, confirmed := 0,
    unitVolume := 2, crushClass := 1, state := .waiting, awaitTimer := some 900000, crush := false, overdue := false,
    overcount := false }

/-- Task 3 waiting for its tote. -/
def waiting : State := { run with tasks := [task3] }

/-- Order tote 9, CHILLED, capacity 50, bound to position 0. -/
def bound : State :=
  run.updPos 0 fun q => { q with state := .bound, binding := some ⟨9, .chilled, 50⟩, present := true }

/-- Tote 7 on the lift of W0, task 3 lit to position 0 past its guard. -/
def picking : State :=
  { (bound.updWin .w0 fun x => { x with lift := [7], present := true, lit := some 3, confirmTimer := some 9000 }).updPos 0
      fun q => { q with lock := some .w0, lastHolder := some .w0, light := ⟨.steady, 0⟩ } with
    totes := [{ tote7 with state := .onLift .w0, orphanTimer := none }]
    tasks := [{ task3 with state := .lit, awaitTimer := none }] }

/-- The same with position 0 CLOSING and the block timer running. -/
def closingLit : State :=
  (picking.updPos 0 fun q => { q with state := .closing }).updWin .w0 fun x => { x with blockTimer := some 9000 }

/-- Tote 7 at W0 with the guard of task 3 running. -/
def guarded : State := picking.updWin .w0 fun x => { x with guardTimer := some 2000 }

/-- Tote 7 on the lift of W0, task 3 ACTIVE and nothing lit. -/
def presented : State :=
  { (bound.updWin .w0 fun x => { x with lift := [7], present := true }) with
    totes := [{ tote7 with state := .onLift .w0, orphanTimer := none }]
    tasks := [{ task3 with state := .active, awaitTimer := none }] }

/-- Tote 7 fetched to W1, task 3 READY. -/
def fetching : State :=
  { (run.updWin .w1 fun x => { x with fetch := some ⟨7, .plain, some 30000, false, false, none⟩ }) with
    totes := [{ tote7 with state := .fetching .w1, orphanTimer := none }]
    tasks := [{ task3 with state := .ready, awaitTimer := none }] }

/-- The same after ATWIN. -/
def settling : State :=
  fetching.updWin .w1 fun x => { x with fetch := some ⟨7, .plain, none, true, false, some 2000⟩ }

/-- Tote 7 returning from W1. -/
def returning : State :=
  { (run.updWin .w1 fun x => { x with ret := some ⟨7, 45000⟩ }) with
    totes := [{ tote7 with state := .leavingWin .w1, orphanTimer := none }] }

/-- Position 0 swapping order tote 9. -/
def swapping : State := bound.updPos 0 fun q => { q with state := .swapping, swapTimer := some 45000 }

/-- A store of the defaults in flight. -/
def storing : State := service.updSettings fun st => { st with job := some ⟨storeWords defaultWords, 5⟩ }

/-- The order port sending a notice with LOST, a reply behind it. -/
def sending : State :=
  run.updPort .order fun p => { p with
    transmitter := some (.notice .benchCleared true), replySlot := some ⟨true, 5, 0x20, .ok, []⟩ }

/-- Every port sending, its slot empty. -/
def busy : State :=
  { run with ports := ⟨{ run.ports.order with transmitter := some (.notice .benchCleared false) },
    { run.ports.transport with transmitter := some (.notice .benchCleared false) },
    { run.ports.bench with transmitter := some (.notice .benchCleared false) }⟩ }

/-- Every port sending, with one frame more in every queue. -/
def queued : State :=
  { busy with orderQueue := ⟨[.benchCleared], true⟩, benchQueue := ⟨[.benchCleared], true⟩,
              directions := [.fetch 7 0 .w0] }

/-- Watch entry 0, owned by the order link, on any presented tote at either window. -/
def watched : State :=
  run.setWatch 0 { owner := some .order, subject := .tote, low := 7, high := 7, combine := .both, events := 1,
                   windows := ⟨true, true⟩ }

/-- Tote 7 presented at W0. -/
def presentedEvent : WatchEvent :=
  { kind := .totePresented, value := 7, window := some .w0, tote := 7, detail := .tote .chilled 0 }

/-! ## Well-formed commands (R164, R165) -/

theorem test_wf_refuses_length_within_48 : Instr.wf (.frameLengthAbandon .order 48) = false := by decide
theorem test_wf_admits_length_49 : Instr.wf (.frameLengthAbandon .order 49) = true := by decide
theorem test_wf_refuses_matching_crc :
    Instr.wf (.frameCrcDiscard .order [0x29, 0, 0, 5, 0] (crc16 [0x29, 0, 0, 5, 0])) = false := by decide +kernel
theorem test_wf_refuses_incomplete_frame : Instr.wf (.frameCrcDiscard .order [0x29, 0, 0, 5, 1] 0) = false := by
  decide +kernel
theorem test_wf_refuses_good_format : Instr.wf (.formatRefusal (ask .order) 0x29 []) = false := by decide +kernel
theorem test_wf_refuses_body_of_49 : Instr.wf (.formatRefusal (ask .order) 0x29 (List.replicate 49 0)) = false := by
  decide +kernel
theorem test_wf_admits_wrong_length : Instr.wf (.formatRefusal (ask .order) 0x29 [0]) = true := by decide +kernel
theorem test_table_spells_no_command : decodeTableWord 8 0x29 = none := rfl

/-! ## Frames written out from section 11.7 -/

/-- The check value of CRC-16 with initial value 0xFFFF (R164). -/
theorem test_crc_check_value : crc16 [0x31, 0x32, 0x33, 0x34, 0x35, 0x36, 0x37, 0x38, 0x39] = 0x29B1 := by decide +kernel
/-- Section 11.7's example: a TOTEOUT for tote 126 sends 7D 5E for its last body byte. -/
theorem test_frame_toteOut : lineCommand .transport
    [0x31, 0x00, 0x00, 0x05, 0x04, 0x00, 0x00, 0x00, 0x7D, 0x5E, 0x52, 0x0D] = some (.toteOut (ask .transport) 126) := by
  decide +kernel
theorem test_frame_post : lineCommand .order
    [0x20, 0x01, 0x02, 0x03, 0x11, 0x00, 0x03, 0x00, 0x00, 0x00, 0x07, 0x00, 0x00, 0x00, 0x09, 0x00, 0x00, 0x05, 0x01,
     0x04, 0x02, 0x01, 0x7D, 0x5D, 0x28] = some (.post ⟨.order, 0x010203⟩ 3 7 9 5 1 4 2 1) := by decide +kernel
theorem test_frame_picked : lineCommand .bench
    [0x40, 0x00, 0x00, 0x06, 0x03, 0x00, 0x03, 0x02, 0xE4, 0xA6] = some (.picked ⟨.bench, 6⟩ 3 2) := by decide +kernel
theorem test_frame_hold : lineCommand .bench
    [0x50, 0x00, 0x00, 0x07, 0x01, 0x03, 0xF8, 0x46] = some (.hold ⟨.bench, 7⟩ 3) := by decide +kernel
theorem test_frame_setItem : lineCommand .order
    [0x27, 0x00, 0x00, 0x08, 0x03, 0x04, 0xFF, 0xEC, 0xF7, 0x22] = some (.setItem ⟨.order, 8⟩ 4 (-20)) := by
  decide +kernel
theorem test_frame_bad_crc : lineCommand .bench [0x50, 0x00, 0x00, 0x07, 0x01, 0x03, 0xF8, 0x47] =
    some (.frameCrcDiscard .bench [0x50, 0x00, 0x00, 0x07, 0x01, 0x03] 0xF847) := by decide +kernel
theorem test_frame_too_long : lineCommand .bench [0x50, 0x00, 0x00, 0x07, 49] = some (.frameLengthAbandon .bench 49) := by
  decide +kernel

/-! ## Settings (section 10.4, R154, section 10.7) -/

theorem test_check_word_of_defaults : checkWord defaultWords = 64466 := by decide +kernel
theorem test_check_word_after_lock : checkWord (defaultWords.set 28 1) = 64465 := by decide +kernel
theorem test_check_word_of_erased_image : checkWord (imageItems erasedImage) = 54688 := by decide +kernel
theorem test_trim_word : itemWord 4 (-20) = 276 ∧ itemWord 0 (-40) = 65496 := by decide
/-- The check word of section 10.7 at time 100. -/
theorem test_check_word_of_locked_policy :
    checkWord ((((defaultWords.set 15 20).set 4 276).set 28 1).set 23 255) = 63958 := by decide +kernel
theorem test_setItem_refused_order :
    (after (exec (.setItem (ask .order) 1 300) service)).ports.order.transmitter =
      some (.reply ⟨false, 5, 0x27, .order, []⟩) := by decide +kernel
theorem test_setItem_clamped :
    let t := after (exec (.setItem (ask .order) 2 2000) service)
    t.item 2 = 1360 ∧ t.ports.order.transmitter = some (.reply ⟨true, 5, 0x27, .clamped, []⟩) := by decide +kernel
theorem test_setItem_signed : (after (exec (.setItem (ask .order) 0 (-900)) service)).signedSetting 0 = -640 := by
  decide +kernel
theorem test_lock : (after (exec (.lock (ask .order)) service)).item 28 = 1 := by decide +kernel
theorem test_store_snapshot :
    (after (exec (.store (ask .order)) service)).settings.job = some ⟨storeWords defaultWords, 5⟩ := by decide +kernel
theorem test_store_completion :
    let t := after (exec (.storeCompletion (storeWords defaultWords)) storing)
    t.settings.lastStore = .good ∧ t.ports.order.transmitter = some (.reply ⟨true, 5, 0x28, .ok, []⟩) := by decide +kernel
theorem test_load_of_erased_image :
    let t := after (exec .settingsLoadEnd State.reset)
    t.settings.loadCause = .noMark ∧ t.settings.faultAsserted = true ∧ t.item 19 = 30 := by decide +kernel
theorem test_mode_busy :
    (after (exec (.mode (ask .order) 0) storing)).ports.order.transmitter =
      some (.reply ⟨false, 5, 0x25, .busy, []⟩) := by decide +kernel

/-! ## Cold chain (sections 2.3 and 2.4) -/

/-- The band example of section 2.3: T0 32, T1 128, T2 288, H 8. -/
theorem test_bands : service.nextBand 280 3 = 3 ∧ service.nextBand 279 3 = 2 ∧ service.nextBand 300 2 = 3 ∧
    service.nextBand 10 3 = 0 ∧ service.nextBand 40 0 = 1 ∧ service.nextBand 30 1 = 1 := by decide +kernel
/-- A trim of -20 on the raw reading 300 (section 2.3). -/
theorem test_trim : (service.writeItem 4 (-20)).correct 300 = 280 := by decide +kernel
/-- The carry example of section 2.4: rate 20 at lane weight 3. -/
theorem test_carry : ({ tote7 with account := 1000 } : Tote).charge 20 3 = { tote7 with account := 1007, carry := 4 } ∧
    ({ tote7 with account := 1007, carry := 4 } : Tote).charge 20 3 = { tote7 with account := 1015 } ∧
    ({ tote7 with carry := 4 } : Tote).charge 20 8 = { tote7 with account := 20, carry := 4 } := by decide
theorem test_limits : service.limit .chilled = some 16384 ∧ service.warnOf 16384 = 12288 ∧
    service.limit .frozen = some 6144 ∧ service.warnOf 6144 = 4608 := by decide +kernel
theorem test_arrival_at_warn :
    let t := after (exec (.toteIn (ask .transport) 7 0 1 12288) run)
    t.totes.map (fun x => (x.urgent, x.expired)) = [(true, false)] ∧ t.directions = [] := by decide +kernel
theorem test_arrival_expired :
    let t := after (exec (.toteIn (ask .transport) 7 0 1 16384) run)
    t.totes.map (fun x => x.state) = [.leavingLane 0] ∧ t.counters.expiries = 1 := by decide +kernel
theorem test_accrual_interval : (after (exec .accrualIntervalExpiry
    { run with exposure := { run.exposure with interval := some 0 } })).exposure.readInFlight = true := by decide +kernel
theorem test_accrual_event :
    let t := after (exec (.accrualEvent none) { laned with exposure := { laned.exposure with readInFlight := true } })
    t.totes.map (fun x => x.account) = [15] ∧ t.exposure.sensor = .fault .noAnswer := by decide +kernel

/-! ## Totes, tasks, positions -/

theorem test_toteOut : (after (exec (.toteOut (ask .transport) 7) laned)).totes = [] := by decide +kernel
theorem test_rush : (after (exec (.rush (ask .order) 7) laned)).totes.map (fun x => x.rush) = [true] := by decide +kernel
theorem test_orphan_expiry :
    let t := after (exec (.orphanExpiry 7) laned)
    t.ports.transport.transmitter = some (.direction (.sendBack 7 (.lane 0))) ∧ t.lane[0] = some 7 := by decide +kernel
theorem test_gone_from_lane : (after (exec (.gone (ask .transport) 7) leaving)).lane[0] = none := by decide +kernel
theorem test_lane_return_timeout : (after (exec (.laneReturnTimeout 7) leaving)).ports.order.transmitter =
    some (.notice (.returnUnconfirmed 7 (.lane 0)) false) := by decide +kernel
theorem test_post_waits : (after (exec (.post (ask .order) 3 7 9 5 1 4 2 1) run)).tasks = [task3] := by decide +kernel
theorem test_post_stops_orphan :
    (after (exec (.post (ask .order) 3 7 9 5 1 4 2 1) laned)).totes.map (fun x => x.orphanTimer) = [none] := by
  decide +kernel
theorem test_withdraw : (after (exec (.withdraw (ask .order) 3) waiting)).tasks = [] := by decide +kernel
theorem test_await_expiry :
    let t := after (exec (.awaitExpiry 3) waiting)
    t.tasks = [] ∧ t.ports.order.transmitter =
      some (.notice (.taskEnded (.failed .notDelivered) { task3 with awaitTimer := none } none) false) := by decide +kernel
theorem test_bind_no_tote : (after (exec (.bind (ask .order) 0 9 1 50) run)).ports.order.transmitter =
    some (.reply ⟨false, 5, 0x23, .noTote, []⟩) := by decide +kernel
theorem test_bind : ((after (exec (.bind (ask .order) 0 9 1 50)
    (run.updPos 0 fun q => { q with present := true }))).pos 0).binding = some ⟨9, .chilled, 50⟩ := by decide +kernel
theorem test_close_swaps : ((after (exec (.close (ask .order) 0) bound)).pos 0).state = .swapping := by decide +kernel
theorem test_close_waits_for_lock : ((after (exec (.close (ask .order) 0) picking)).pos 0).state = .closing := by
  decide +kernel
theorem test_swapped : ((after (exec (.swapped (ask .transport) 0) swapping)).pos 0).state = .empty := by decide +kernel
theorem test_swap_timeout : (after (exec (.swapTimeout 0) swapping)).ports.order.transmitter =
    some (.notice (.swapUnconfirmed 0 9) false) := by decide +kernel
theorem test_ppos_fall :
    let t := after (exec (.pposFall 0) picking)
    (t.pos 0).state = .pulled ∧ (t.pos 0).lock = none ∧ (t.win .w0).lit = none := by decide +kernel
theorem test_ppos_rise_relights : ((after (exec (.pposRise 0) (after (exec (.pposFall 0) picking)))).win .w0).lit = some 3 := by
  decide +kernel

/-! ## Windows and picking -/

theorem test_post_calls_tote : ((after (exec (.post (ask .order) 3 7 9 5 1 4 2 1)
    { bound with totes := laned.totes, lane := laned.lane, arrival := [7], mode := .drain })).win .w0).fetch = none := by
  decide +kernel
theorem test_atWin_starts_settle : ((after (exec (.atWin (ask .transport) 7 1) fetching)).win .w1).fetch =
    some ⟨7, .plain, none, true, false, some 2000⟩ := by decide +kernel
theorem test_pres_rise_delivers :
    let t := after (exec (.presRise .w1) settling)
    (t.win .w1).lift = [7] ∧ t.counters.presentations = 1 ∧ t.tasks.map (fun x => x.state) = [.active] := by decide +kernel
theorem test_settle_expiry_faults : ((after (exec (.settleExpiry .w1) settling)).win .w1).faultCause = some .sensor := by
  decide +kernel
theorem test_fetch_timeout :
    let t := after (exec (.fetchTimeout .w1) fetching)
    t.totes = [] ∧ t.tasks.map (fun x => x.state) = [.waiting] ∧ (t.win .w1).faultCause = some .fetch := by decide +kernel
theorem test_window_return_timeout :
    let t := after (exec (.windowReturnTimeout .w1) returning)
    (t.win .w1).ret = none ∧ t.totes = [] := by decide +kernel
theorem test_block_timer_expiry : ((after (exec (.blockTimerExpiry .w0)
    ((presented.updPos 0 fun q => { q with state := .pulled }).updWin .w0 fun x => { x with blockTimer := some 0 }))).win
    .w0).ret = some ⟨7, 45000⟩ := by decide +kernel
theorem test_pres_fall_pulls :
    let t := after (exec (.presFall .w0) picking)
    (t.win .w0).faultCause = some .pulled ∧ (t.win .w0).lit = none := by decide +kernel
/-- The top's only task, lit to a CLOSING position, fails in the swap-out of a pulled window: the window is held by then,
so that its top stays on the lift, FINISHED, and no SENDBACK goes out (R68, R90, R126; log entry 22). -/
theorem test_pres_fall_keeps_top :
    let t := after (exec (.presFall .w0) (picking.updPos 0 fun q => { q with state := .closing }))
    t.tasks = [] ∧ (t.pos 0).state = .swapping ∧ (t.win .w0).lift = [7] ∧ (t.win .w0).ret = none ∧
      t.topFinished .w0 = true ∧ t.directions = [] ∧
      t.ports.transport.transmitter = some (.direction (.swapOut 0 9)) := by decide +kernel
/-- The block timer starts while the top's only task is lit to a CLOSING position (R68, R93). -/
theorem test_block_timer_of_closing :
    let t := after (exec (.close (ask .order) 0) picking)
    (t.win .w0).lit = some 3 ∧ (t.pos 0).state = .closing ∧ (t.win .w0).blockTimer = some 20000 := by decide +kernel
/-- With BLOCK_HOLD 0 it stands at its end while the task keeps its light, at an automatic close (R67; log entry 13). -/
theorem test_block_hold_zero_keeps_light :
    let t := after (exec (.picked (ask .bench) 3 1) ((picking.writeItem 23 0).updPos 0 fun q => { q with fill := 48 }))
    (t.win .w0).lit = some 3 ∧ (t.win .w0).blockTimer = some 0 ∧ t.topFinished .w0 = false ∧ t.due = [] := by
  decide +kernel
/-- The expiry comes when the lit task has ended; the other task of the top then waits for its tote again (R46, R93). -/
theorem test_block_timer_after_lit :
    let other : Task := { task3 with recNo := 1, id := 4, orderTote := 8, state := .active, awaitTimer := none }
    let t := after (exec (.picked (ask .bench) 3 4) (after (exec (.blockTimerExpiry .w0)
      { closingLit with tasks := closingLit.tasks ++ [other] })))
    let u := after (exec (.blockTimerExpiry .w0) t)
    t.due = [.blockTimerExpiry .w0] ∧ (u.win .w0).ret = some ⟨7, 45000⟩ ∧
      u.tasks = [{ other with state := .waiting, awaitTimer := some 900000 }] := by decide +kernel
theorem test_resume_lights : ((after (exec (.resume (ask .bench) 1) (after (exec (.presFall .w0) picking)))).win .w0).lit =
    some 3 := by decide +kernel
theorem test_picked_partly :
    let t := after (exec (.picked (ask .bench) 3 3) picking)
    (t.pos 0).fill = 6 ∧ t.counters.units = 3 ∧ (t.win .w0).lit = some 3 := by decide +kernel
theorem test_picked_early : (after (exec (.picked (ask .bench) 3 3) guarded)).ports.bench.transmitter =
    some (.reply ⟨false, 5, 0x40, .early, []⟩) := by decide +kernel
theorem test_picked_clamped_ends :
    let t := after (exec (.picked (ask .bench) 3 99) picking)
    t.tasks = [] ∧ (t.win .w0).lastEnded = some 3 ∧ t.counters.units = 4 ∧ (t.win .w0).ret = some ⟨7, 45000⟩ := by
  decide +kernel
theorem test_button_confirms : (after (exec (.btnPress 0) picking)).tasks = [] := by decide +kernel
theorem test_button_early : (after (exec (.btnPress 0) guarded)).tasks = guarded.tasks := by decide +kernel
theorem test_button_release : ((after (exec (.btnRelease 0)
    (run.updPos 0 fun q => { q with pressed := true, armed := false }))).pos 0).armed = true := by decide +kernel
theorem test_short :
    let t := after (exec (.short (ask .bench) 3) picking)
    t.counters.shorts = 1 ∧ t.tasks = [] := by decide +kernel
theorem test_toteBad :
    let t := after (exec (.toteBad (ask .bench) 7) picking)
    t.tasks = [] ∧ t.totes.map (fun x => x.state) = [.leavingWin .w0] := by decide +kernel
theorem test_guard_expiry : ((after (exec (.guardExpiry .w0) guarded)).win .w0).guardTimer = none := by decide +kernel
theorem test_confirm_period_expiry :
    let t := after (exec (.confirmPeriodExpiry .w0) picking)
    t.tasks.map (fun x => x.overdue) = [true] ∧ (t.pos 0).light.mode = .flash := by decide +kernel

/-! ## Bench control, watches, links, start-up -/

theorem test_mode_service_busy : (after (exec (.mode (ask .order) 2) presented)).mode = .run := by decide +kernel
theorem test_clear :
    let t := after (exec (.clear (ask .order)) picking)
    t.tasks = [] ∧ t.mode = .drain ∧ (t.win .w0).lift = [] ∧ (t.pos 0).lock = none := by decide +kernel
theorem test_hold_unlights :
    let t := after (exec (.hold (ask .transport) 1) picking)
    (t.win .w0).lit = none ∧ (t.win .w0).holds = ⟨false, true, false, false, false⟩ ∧
      t.benchQueue.entries = [] := by decide +kernel
theorem test_hold_line : ((after (exec .holdLineAsserted run)).win .w1).holds.line = true := by decide +kernel
theorem test_hold_line_released : ((after (exec .holdLineReleased (after (exec .holdLineAsserted run)))).win .w1).holds.line =
    false := by decide +kernel
theorem test_watch_owned : (after (exec (.watch (ask .bench) 0 0 0 0 0 0 0 0) watched)).ports.bench.transmitter =
    some (.reply ⟨false, 5, 0x55, .owned, []⟩) := by decide +kernel
theorem test_watch_matches : (watched.offer presentedEvent).orderQueue.entries = [.watch 0 presentedEvent] := by
  decide +kernel
theorem test_read_counters : (after (exec (.read (ask .bench) 5 0)
    { run with counters := ⟨1, 2, 3, 4⟩ })).ports.bench.transmitter =
      some (.reply ⟨true, 5, 0x52, .ok, [0, 0, 0, 1, 0, 0, 0, 2, 0, 0, 0, 3, 0, 0, 0, 4]⟩) := by decide +kernel
theorem test_list_end : (after (exec (.list (ask .bench)) waiting)).ports.bench.transmitter =
    some (.reply ⟨true, 5, 0x53, .ok, [1, 0, 3, 0, 0, 0, 0, 7, 0, 1, 0]⟩) := by decide +kernel
theorem test_cursor_range : (after (exec (.cursor (ask .bench) 1 16) run)).ports.bench.cursor = ⟨.tasks, 0⟩ := by
  decide +kernel
theorem test_frame_sent_lost : (after (exec (.frameSent .order) queued)).ports.order.transmitter =
    some (.notice .benchCleared true) := by decide +kernel
theorem test_start_byte : (after (exec (.startByte .order) run)).ports.order.receiver = .inFrame [] := by decide +kernel
theorem test_format_refusal : (after (exec (.formatRefusal (ask .order) 0x01 []) run)).ports.order.transmitter =
    some (.reply ⟨false, 5, 0x01, .format, []⟩) := by decide +kernel
theorem test_authority : (after (exec (.picked (ask .order) 3 1) picking)).ports.order.transmitter =
    some (.reply ⟨false, 5, 0x40, .authority, []⟩) := by decide +kernel
theorem test_short_reset_pulse : (after (exec (.rstnRise restPins) (after (exec .rstnFall laned)))).totes = laned.totes := by
  decide +kernel
theorem test_reset_keeps_counters : (after (exec (.resetQualified .inReadBack)
    { picking with rstLine := .low 0, counters := ⟨1, 2, 3, 4⟩ })).counters = ⟨1, 2, 3, 4⟩ := by decide +kernel
theorem test_supply_lost_during_store :
    (after (exec (.lossOfSupply (.atMark false)) storing)).settings.image[30] = 0xFFFF := by decide +kernel

/-! ## Witnesses: states and operands that meet the hypotheses of each statement, clause by clause -/

theorem witness_StepTakesFrontCommand : ({ run with pending := [.rstnFall, .holdLineAsserted] } : State).pending =
    .rstnFall :: [.holdLineAsserted] := rfl
theorem witness_EmptyQueueCountsTime :
    (run.pending = [] ∧ run.phase = .running ∧ run.due = []) ∧
    (fetching.updWin .w1 fun x => { x with fetch := some ⟨7, .plain, some 0, false, false, none⟩ }).due =
      [.fetchTimeout .w1] ∧
    (State.reset.phase = .loading ∧ State.reset.resetDue = []) ∧
    ({ State.reset with rstLine := .low 0 } : State).resetDue ≠ [] ∧
    ({ State.reset with phase := .off } : State).phase = .off ∧
    ({ State.reset with phase := .inReset } : State).phase = .inReset := by decide +kernel
theorem witness_SupplyComesAndGoes : run.phase ≠ .off ∧ State.reset.phase ≠ .off ∧ run.settings.job = none ∧
    storing.settings.job = some ⟨storeWords defaultWords, 5⟩ := by decide +kernel
theorem witness_ResetLine : (run.phase = .running ∧ run.rstLine = .idle) ∧
    (State.reset.phase = .loading ∧ State.reset.rstLine = .idle) ∧
    ({ storing with rstLine := .low 0 } : State).rstLine = .low 0 ∧ storing.settings.job.isSome = true := by decide +kernel
theorem witness_LoadGivesTheWorkingCopy : State.reset.phase = .loading ∧ loadTest erasedImage = .noMark ∧
    loadTest (storeWords defaultWords) = .loaded ∧ loadTest (imageOf defaultWords 0 1) = .badCheck ∧
    loadTest (storeWords (defaultWords.set 24 2)) = .badValue ∧ loadTest (storeWords (defaultWords.set 0 128)) = .badValue := by
  decide +kernel
theorem witness_StoreNeverMixes : wordsWf defaultWords = true := by decide +kernel
theorem witness_ReceiverEvents : run.phase = .running ∧ 48 < (49 : Byte).toNat ∧ crc16 [] ≠ 0 ∧
    State.reset.phase = .loading := by decide +kernel
theorem witness_FramesTurnedAway :
    (Instr.picked (ask .order) 3 1).request = some (ask .order, .picked, [0, 3, 1]) ∧ State.reset.phase ≠ .running ∧
    (sending.phase = .running ∧ sending.slotBusy .order = true) ∧
    (run.listens .order = true ∧ ReqKind.picked.code.toNat / 16 = 4 ∧ (ask .order).link ≠ .bench) ∧
    (run.listens .bench = true ∧ (Instr.lock (ask .bench)).request = some (ask .bench, .lock, []) ∧
      ReqKind.lock.code.toNat / 16 = 2) ∧
    ((Instr.swapped (ask .order) 0).request = some (ask .order, .swapped, [0]) ∧ ReqKind.swapped.code.toNat / 16 = 3) ∧
    (run.listens .transport = true ∧ (Instr.watch (ask .transport) 0 0 0 0 0 0 0 0).request =
      some (ask .transport, .watch, [0, 0, 0, 0, 0, 0, 0, 0, 0, 0, 0, 0, 0, 0])) := by decide +kernel
theorem witness_FramesTurnedAway_format :
    (∀ k : ReqKind, k.code = 0x29 → k.bodyLength ≠ ([0] : List Byte).length) ∧
    (∀ k : ReqKind, k.code = 0x01 → k.bodyLength ≠ ([] : List Byte).length) := by
  constructor <;> intro k <;> cases k <;> decide
theorem witness_EveryRequestAnswered :
    (Instr.hold (ask .bench) 3).request = some (ask .bench, .hold, [3]) ∧ run.linksWf = true ∧
    run.listens .bench = true ∧ busy.linksWf = true ∧ busy.listens .bench = true ∧ run.slotBusy .bench = false ∧
    busy.slotBusy .bench = false ∧ (ask .bench).tag ≠ 0xFFFFFF ∧ (⟨.bench, 0xFFFFFF⟩ : Req).tag = 0xFFFFFF := by
  decide +kernel
theorem witness_RequestFramesReadBack : (Instr.toteOut (ask .transport) 126).requestFrame = some (.transport,
    [0x7E, 0x31, 0x00, 0x00, 0x05, 0x04, 0x00, 0x00, 0x00, 0x7D, 0x5E, 0x52, 0x0D]) := by decide +kernel
theorem witness_FrameSentReadListCursor :
    (sending.linksWf = true ∧ (sending.port .order).transmitter.isSome = true ∧
      (sending.port .order).replySlot = some ⟨true, 5, 0x20, .ok, []⟩) ∧
    (busy.linksWf = true ∧ (busy.port .bench).replySlot = none ∧ busy.outbound .bench = []) ∧
    (queued.linksWf = true ∧ (queued.port .order).transmitter.isSome = true ∧ (queued.port .order).replySlot = none ∧
      queued.orderQueue.entries = .benchCleared :: []) ∧
    ((queued.port .bench).replySlot = none ∧ queued.benchQueue.entries = .benchCleared :: []) ∧
    ((queued.port .transport).replySlot = none ∧ queued.directions = .fetch 7 0 .w0 :: []) := by decide +kernel
theorem witness_QueuesDiscardWhenFull :
    (List.replicate 15 Notice.benchCleared).length < 16 ∧ 16 ≤ (List.replicate 16 Notice.benchCleared).length ∧
    ({ run with directions := List.replicate 23 (.fetch 7 0 .w0) } : State).directions.length < 24 ∧
    24 ≤ ({ run with directions := List.replicate 24 (.fetch 7 0 .w0) } : State).directions.length := by decide +kernel
theorem witness_SetItem : (ask .order).link = .order ∧ service.listens .order = true ∧ service.mode = .service ∧
    service.settings.job.isSome = false ∧ (27 : Byte).toNat < 28 ∧ service.setting 28 ≠ 1 := by decide +kernel
theorem witness_SettingWordsRoundTrip : (itemRow 4).lo ≤ -255 ∧ (-255 : Int) ≤ (itemRow 4).hi ∧
    (itemRow 2).lo ≤ 1360 ∧ (1360 : Int) ≤ (itemRow 2).hi := by decide +kernel
theorem witness_LockAndStore : (ask .order).link = .order ∧ service.listens .order = true ∧
    storing.settings.job = some ⟨storeWords defaultWords, 5⟩ := by decide +kernel
theorem witness_ColdLockStays :
    (let s : State := { service.writeItem 28 1 with pending := [.setItem (ask .order) 15 20] }
     step s = .next (after (step s))) ∧
    (let s : State := { service.writeItem 28 1 with pending := [.setItem (ask .order) 15 20] }
     s.phase = .running ∧ (after (step s)).phase = .running ∧ s.item 28 = 1) := ⟨rfl, by decide +kernel⟩
theorem witness_CountersRiseOnlyInTheirEvents :
    exec (.short (ask .bench) 3) picking = .next (after (exec (.short (ask .bench) 3) picking)) := rfl
theorem witness_AccrualRuns :
    ({ run with exposure := { run.exposure with interval := some 0 } } : State).exposure.interval = some 0 ∧
    ({ laned with exposure := { laned.exposure with readInFlight := true } } : State).exposure.readInFlight = true := by
  decide +kernel
theorem witness_SensorJudged :
    (-640 ≤ (BitVec.ofInt 16 (-640)).toInt ∧ (BitVec.ofInt 16 (-640)).toInt ≤ 1360) ∧
    (-640 ≤ (BitVec.ofInt 16 1360).toInt ∧ (BitVec.ofInt 16 1360).toInt ≤ 1360) ∧
    (BitVec.ofInt 16 (-641)).toInt < -640 ∧ 1360 < (BitVec.ofInt 16 1361).toInt := by decide
theorem witness_BandMoves : (0 ≤ 3 ∧ 0 < 3 ∧ service.threshold 0 ≤ 32) ∧ ¬ service.threshold 0 ≤ 31 ∧
    (2 < 3 ∧ service.threshold 2 ≤ 288) := by decide +kernel
theorem witness_ChargeIsExact :
    (({ tote7 with account := 16777215, carry := 7 } : Tote).carry ≤ 7 ∧
      ({ tote7 with account := 16777215, carry := 7 } : Tote).account ≤ 16777215) ∧
    (({ tote7 with account := 1000 } : Tote).charge 20 3).account < 16777215 ∧
    (laned.tote? 7 = some tote7 ∧ laned.weight tote7 = some 4) ∧
    (leaving.tote? 7).isSome = true ∧ (leaving.tote? 7).bind leaving.weight = none := by decide +kernel
theorem witness_LimitsAndWarn : service.settingsWf = true ∧ service.limit .chilled = some 16384 ∧
    service.settings.work = defaultWords := by decide +kernel
theorem witness_ThresholdTest : (laned.tote? 7 = some tote7 ∧ laned.limit tote7.cls = some 16384) ∧
    ({ laned with totes := [{ tote7 with cls := .ambient }] } : State).tote? 7 = some { tote7 with cls := .ambient } ∧
    laned.limit .ambient = none ∧
    (∀ x ∈ waiting.tasks, x.tote = tote7.id → waiting.litAt x.id = none) ∧
    ((picking.win .w0).lit = some 3 ∧ picking.task? 3 = some { task3 with state := .lit, awaitTimer := none } ∧
      picking.top? .w0 = some tote7.id ∧ (picking.win Win.w0.other).lit ≠ some 3 ∧
      ∀ y ∈ picking.tasks, y.tote = tote7.id → y.id ≠ 3 → picking.litAt y.id = none) := by decide +kernel
theorem witness_ToteRecordIsSticky :
    (let s : State := { laned with pending := [.rush (ask .order) 7] }
     step s = .next (after (step s))) ∧
    (let s : State := { laned with pending := [.rush (ask .order) 7] }
     s.totesWf ∧ s.tote? 7 = some tote7 ∧ (after (step s)).tote? 7 = some { tote7 with rush := true }) :=
  ⟨rfl, by decide +kernel⟩
theorem witness_ToteIn : (ask .transport).link = .transport ∧ run.listens .transport = true ∧
    8 ≤ (8 : Byte).toNat ∧ 3 ≤ (3 : Byte).toNat ∧
    ((7 : ToteId) ≠ 0 ∧ (7 : Byte).toNat = (7 : Slot).val ∧ (2 : Byte).toNat = TempClass.frozen.rank) := by decide +kernel
theorem witness_ToteOutAndRush : (ask .transport).link = .transport ∧ laned.listens .transport = true ∧
    (ask .order).link = .order ∧ laned.listens .order = true ∧ laned.tote? 7 = some tote7 := by decide +kernel
theorem witness_LaneReturns : (laned.tote? 7 = some tote7 ∧ tote7.state = .inLane 0 ∧ tote7.orphanTimer.isSome = true) ∧
    ((ask .transport).link = .transport ∧ returning.listens .transport = true) ∧
    leaving.tote? 7 = some { tote7 with state := .leavingLane 0, orphanTimer := none, laneReturnTimer := some 45000 } := by
  decide +kernel
theorem witness_Post : (ask .order).link = .order ∧ run.listens .order = true ∧ run.mode ≠ .service ∧
    (99 : Byte).toNat = 99 ∧ (15 : Byte).toNat = 15 := by decide +kernel
theorem witness_WithdrawAndAwait : ((ask .order).link = .order ∧ waiting.listens .order = true) ∧
    waiting.task? 3 = some task3 ∧ task3.awaitTimer.isSome = true := by decide +kernel
theorem witness_EndingATask : (waiting.task? 3 = some task3 ∧ waiting.litAt 3 = none) ∧
    (picking.task? 3 = some { task3 with state := .lit, awaitTimer := none } ∧ picking.litAt 3 = some .w0 ∧
      (picking.win .w0).lit = some 3) ∧ (run.win .w0).lit = none ∧ waiting.named 7 = true ∧
    (laned.named 7 = false ∧ laned.tote? 7 = some tote7 ∧ tote7.state = .inLane 0 ∧ laned.top? .w0 ≠ some 7 ∧
      laned.top? .w1 ≠ some 7) ∧
    (let s : State := { presented with tasks := [] }
     s.named 7 = false ∧ s.tote? 7 = some { tote7 with state := .onLift .w0, orphanTimer := none } ∧
      s.top? .w0 = some 7) := by decide +kernel
theorem witness_Bind : (ask .order).link = .order ∧ run.listens .order = true ∧ 6 ≤ (6 : Byte).toNat ∧
    ((5 : Byte).toNat = (5 : Pos).val ∧ (9 : OrderToteId) ≠ 0 ∧ (2 : Byte).toNat = TempClass.frozen.rank ∧
      (255 : Byte).toNat ≠ 0) := by decide +kernel
theorem witness_Close : (ask .order).link = .order ∧ bound.listens .order = true ∧ 6 ≤ (6 : Byte).toNat ∧
    (0 : Byte).toNat = (0 : Pos).val ∧ (bound.pos 0).state = .bound := by decide +kernel
theorem witness_Swaps : (waiting.task? 3 = some task3 ∧ waiting.litAt 3 = none) ∧ (bound.pos 0).binding = some ⟨9, .chilled, 50⟩ ∧
    ((ask .transport).link = .transport ∧ swapping.listens .transport = true ∧ 6 ≤ (6 : Byte).toNat ∧
      (5 : Byte).toNat = (5 : Pos).val) ∧
    ((swapping.pos 0).binding = some ⟨9, .chilled, 50⟩ ∧ (swapping.pos 0).state = .swapping ∧
      (swapping.pos 0).swapTimer.isSome = true) := by decide +kernel
theorem witness_PositionSensor : (picking.phase = .running ∧ (picking.pos 0).present = true) ∧
    (State.reset.phase = .loading ∧ (State.reset.pos 5).present = false) := by decide +kernel
theorem witness_Buttons : (picking.phase = .running ∧ (picking.pos 0).pressed = false ∧ (picking.pos 0).armed = true ∧
      picking.litTo 0 = some (.w0, { task3 with state := .lit, awaitTimer := none }) ∧ (picking.win .w0).guardTimer = none) ∧
    (picking.litTo 1 = none ∧ (picking.pos 1).pressed = false ∧ (picking.pos 1).armed = true) ∧
    (guarded.litTo 0 = some (.w0, { task3 with state := .lit, awaitTimer := none }) ∧
      (guarded.win .w0).guardTimer.isSome = true) ∧
    ((run.updPos 0 fun q => { q with pressed := true, armed := false }).pos 0).pressed = true := by decide +kernel
theorem witness_AtWin : (ask .transport).link = .transport ∧ fetching.listens .transport = true ∧
    2 ≤ (2 : Byte).toNat ∧ ((7 : ToteId) ≠ 0 ∧ (1 : Byte).toNat = Win.w1.num) ∧
    (fetching.win .w1).fetch = some ⟨7, .plain, some 30000, false, false, none⟩ := by decide +kernel
theorem witness_FetchFromChoiceToDelivery :
    (let s : State := { bound with totes := [tote7], arrival := [7], tasks := [{ task3 with state := .ready }] }
     s.fetchChoice .w0 = some tote7 ∧ tote7.state = .inLane 0 ∧ s.mode = .run ∧ s.held .w0 = false ∧
      (s.win .w0).fetch = none ∧ (s.win .w0).lift = [] ∧ s.candidates = [tote7] ∧ run.fetchChoice .w0 = none) ∧
    (settling.win .w1).fetch = some ⟨7, .plain, none, true, false, some 2000⟩ ∧ (settling.win .w1).lit = none := by
  decide +kernel
theorem witness_WindowSensor : (settling.phase = .running ∧ (settling.win .w1).present = false) ∧
    (picking.phase = .running ∧ (picking.win .w0).present = true) ∧ (settling.win .w1).lit = none := by decide +kernel
theorem witness_WindowTimers :
    ((settling.win .w1).fetch = some ⟨7, .plain, none, true, false, some 2000⟩) ∧
    ((fetching.win .w1).fetch = some ⟨7, .plain, some 30000, false, false, none⟩ ∧
      fetching.tote? 7 = some { tote7 with state := .fetching .w1, orphanTimer := none }) ∧
    (returning.win .w1).ret = some ⟨7, 45000⟩ ∧
    ((presented.updWin .w0 fun x => { x with blockTimer := some 0 }).win .w0).blockTimer.isSome = true ∧
    (guarded.win .w0).guardTimer.isSome = true ∧ picking.blocked .w0 = false ∧ run.setting 23 ≠ 0 ∧
    (let s : State := presented.updPos 0 fun q => { q with state := .pulled, beforePull := some .bound }
     s.blocked .w0 = true ∧ (s.win .w0).blockTimer = none ∧ (s.writeItem 23 0).setting 23 = 0 ∧
      (s.writeItem 23 0).blocked .w0 = true ∧ s.top? .w0 = some 7 ∧
      s.tote? 7 = some { tote7 with state := .onLift .w0, orphanTimer := none }) ∧
    ((closingLit.win .w0).blockTimer.isSome = true ∧ (closingLit.win .w0).lit.isSome = true ∧
      closingLit.blocked .w0 = true ∧ (closingLit.settle.win .w0).lit ≠ none ∧
      ((closingLit.updWin .w0 fun x => { x with blockTimer := none }).win .w0).blockTimer = none) ∧
    (presented.win .w0).lit = none ∧
    ((picking.win .w0).lit = some 3 ∧ (picking.win .w0).confirmTimer.isSome = true ∧
      picking.task? 3 = some { task3 with state := .lit, awaitTimer := none }) := by decide +kernel
theorem witness_WindowSendBack : (presented.win .w0).lift = 7 :: [] ∧ (7 : ToteId) ∉ ([] : List ToteId) ∧
    ((presented.updWin .w0 fun x => { x with lift := [7, 8] }).win .w0).lift = 7 :: [8] ∧
    (7 : ToteId) ∉ ([8] : List ToteId) := by decide +kernel
theorem witness_Picked : (ask .bench).link = .bench ∧ picking.listens .bench = true ∧
    picking.task? 3 = some { task3 with state := .lit, awaitTimer := none } ∧ picking.litAt 3 = some .w0 := by decide +kernel
theorem witness_ConfirmTakesUnits :
    (picking.task? 3 = some { task3 with state := .lit, awaitTimer := none } ∧ picking.positionOf 9 = some 0 ∧
      (picking.pos 0).binding = some ⟨9, .chilled, 50⟩ ∧ (picking.pos 0).lock = some .w0 ∧
      task3.confirmed ≤ task3.quantity) ∧
    task3.confirmed + min 3 (task3.quantity - task3.confirmed) < task3.quantity ∧
    task3.confirmed + min 5 (task3.quantity - task3.confirmed) = task3.quantity ∧
    task3.quantity - task3.confirmed < 5 := by decide +kernel
theorem witness_ShortAndToteBad : (ask .bench).link = .bench ∧ picking.listens .bench = true ∧
    (picking.win .w0).lift.head? = some 7 ∧ (picking.tote? 7).isSome = true := by decide +kernel
/-- Totes 7 and 8 on the two lifts, a task on each to position 0. -/
def contesting : State :=
  { (presented.updWin .w1 fun x => { x with lift := [8] }) with
    totes := [{ tote7 with state := .onLift .w0, orphanTimer := none },
      { tote7 with recNo := 1, id := 8, state := .onLift .w1, orphanTimer := none }]
    tasks := [{ task3 with state := .active, awaitTimer := none },
      { task3 with recNo := 1, id := 4, tote := 8, state := .active, awaitTimer := none }] }

theorem witness_ChoiceIsFirst :
    presented.choice .w0 = some ({ task3 with state := .active, awaitTimer := none }, 0) ∧
    (presented.chooses .w0 = true ∧ presented.litable .w0 ≠ []) ∧
    presented.task? 3 = some { task3 with state := .active, awaitTimer := none } ∧ presented.choice .w1 = none ∧
    (contesting.choice .w0 ≠ none ∧ contesting.choice .w1 ≠ none ∧
      contesting.litable .w0 = [({ task3 with state := .active, awaitTimer := none }, 0)] ∧
      contesting.litable .w1 = [({ task3 with recNo := 1, id := 4, tote := 8, state := .active, awaitTimer := none }, 0)]) ∧
    (let s : State := { contesting.updPos 1 (fun q => { q with state := .bound, binding := some ⟨10, .chilled, 50⟩ }) with
      tasks := [{ task3 with state := .active, awaitTimer := none },
        { task3 with recNo := 1, id := 4, tote := 8, orderTote := 10, state := .active, awaitTimer := none }] }
     s.choice .w0 ≠ none ∧ s.choice .w1 ≠ none ∧ s.contested = none) := by decide +kernel
theorem witness_ModeRequest : (ask .order).link = .order ∧ run.listens .order = true ∧ ¬ 2 < (2 : Byte).toNat ∧
    run.settings.job.isSome = false := by decide +kernel
theorem witness_Clear : (ask .order).link = .order ∧ (storing.listens .order = true ∧ storing.settings.job.isSome = true) ∧
    (picking.listens .order = true ∧ picking.settings.job = none ∧ picking.linksWf = true ∧ picking.totesWf ∧
      picking.placesWf ∧ (picking.win .w0).lift = 7 :: [] ∧ (picking.pos 1).state ≠ .closing) ∧
    (busy.linksWf = true ∧ busy.listens .order = true ∧ (busy.port .order).transmitter.isSome = true) ∧
    (laned.totesWf ∧ laned.placesWf ∧ laned.tote? 7 = some tote7 ∧ tote7.state = .inLane 0) ∧
    (let s : State := picking.updPos 0 fun q => { q with state := .closing }
     (s.pos 0).state = .closing ∧ (s.pos 0).binding ≠ none) ∧
    ((picking.win .w1).lift = [] ∧ returning.totesWf ∧ returning.placesWf ∧ (returning.win .w1).ret.isSome = true ∧
      returning.tote? 7 = some { tote7 with state := .leavingWin .w1, orphanTimer := none } ∧
      returning.settings.job = none) := by decide +kernel
theorem witness_HoldSources : picking.listens .bench = true ∧ (0 : Byte).toNat = 0 ∧ 3 < (4 : Byte).toNat ∧
    (1 ≤ (1 : Byte).toNat ∧ (3 : Byte).toNat ≤ 3) ∧
    ((picking.win .w0).lit = some 3 ∧ (1 : Byte).getLsbD Win.w0.num = true ∧ picking.held .w0 = false ∧
      (picking.task? 3).isSome = true) ∧
    (picking.phase = .running ∧ picking.holdLine = false) ∧ picking.listens .order = true ∧
    (after (exec .holdLineAsserted run)).holdLine = true := by decide +kernel
theorem witness_Watch : (watched.listens .order = true ∧ (ask .order).link = .order) ∧
    (watched.listens .transport = true ∧ (ask .transport).link = .transport) ∧
    4 ≤ (4 : Byte).toNat ∧ 2 ≤ (2 : Byte).toNat ∧ ((3 : Byte).toNat = (3 : Fin 4).val ∧ (0 : Byte).toNat = 0) ∧
    ((1 : Byte).toNat = 1 ∧ (1 : Byte).toNat < 2 ∧ (7 : Byte).toNat ≠ 0 ∧ (7 : Byte).toNat ≤ 7 ∧
      (3 : Byte).toNat ≠ 0 ∧ (3 : Byte).toNat ≤ 3 ∧ (7 : BitVec 32).toNat ≤ (7 : BitVec 32).toNat) := by decide +kernel
theorem witness_Matching : (watched.watches[0].accepts presentedEvent = true ∧
      watched.watches[0].owner = some .order) ∧ watched.watches[1].accepts presentedEvent = false ∧
    ((watched.setWatch 0 { watched.watches[0] with owner := some .bench }).watches[0].accepts presentedEvent = true ∧
      (watched.setWatch 0 { watched.watches[0] with owner := some .bench }).watches[0].owner = some .bench) := by
  decide +kernel
theorem witness_FrameSentReadListCursor_read : run.listens .bench = true ∧ (6 : Byte).toNat = 6 ∧
    (28 : BitVec 32).toNat < 29 ∧ ¬ (29 : BitVec 32).toNat < 29 ∧ 6 < (7 : Byte).toNat ∧
    (waiting.recordsFrom ⟨.tasks, 0⟩).length ≤ 4 ∧
    (({ run with tasks := (List.range 5).map fun n => { task3 with recNo := n } } : State).recordsFrom ⟨.tasks, 0⟩).length =
      5 := ⟨by decide +kernel, rfl, by decide, by decide, by decide, by decide +kernel, by decide +kernel⟩
/-- For NothingLeftDue: the work of the windows leaves a FINISHED top on a held window. -/
theorem witness_NothingLeftDue :
    let s : State := { (presented.updWin .w0 fun x => { x with holds := { x.holds with order := true } }) with tasks := [] }
    (s.settle.win .w0).lift.head? = some 7 ∧
      s.settle.tote? 7 = some { tote7 with state := .onLift .w0, orphanTimer := none, finished := true } ∧
      s.settle.topFinished .w0 = true ∧ (s.win .w0).lit = none ∧ (s.win .w1).lit = none ∧
      (s.settle.pos 0).lock = none ∧
    (picking.win .w0).lit = some 3 ∧ picking.task? 3 = some { task3 with state := .lit, awaitTimer := none } ∧
      (picking.win .w0).lift.head? = some 7 ∧ (picking.win .w1).lift = [] ∧
      picking.tote? 7 = some { tote7 with state := .onLift .w0, orphanTimer := none } := by decide +kernel

/-- For StepKeepsLinks, StepKeepsTotes, StepKeepsTables, StepKeepsLifts, StepKeepsSettings, StepKeepsPlaces and
StepKeepsLit: a small state that meets every invariant, over a step that changes it. -/
theorem witness_invariants :
    (let s : State := { picking with pending := [.short (ask .bench) 3] }
     step s = .next (after (step s))) ∧
    (let s : State := { picking with pending := [.short (ask .bench) 3] }
     s.linksWf = true ∧ s.totesWf ∧ s.tablesWf ∧ s.liftsWf = true ∧ s.serviceClear = true ∧ s.settingsWf = true ∧
      s.placesWf ∧ s.litWf) :=
  ⟨rfl, by decide +kernel⟩

end Sys2Proof.Tests
end

