-- ==== Sys2Proof/Proofs/ToteIn.lean ====
section
/-! PROOFS. TOTEIN (R6, R7, R8, R33): the codes of its fields, the tote table's answer, and the statement O28. -/

namespace Sys2Proof.Machine

/-! ### The codes of a slot and a class (R173) -/

/-- No slot has a number past 7 (R6). -/
theorem slotOf_eq_none {b : Byte} (h : 8 ≤ b.toNat) : slotOf b = none := dif_neg (Nat.not_lt.2 h)

/-- A slot's number reads back as the slot (R6). -/
theorem slotOf_eq_some {b : Byte} {l : Slot} (h : b.toNat = l.val) : slotOf b = some l := by
  simp [slotOf, h]

/-- No class has a code past 2 (R173). -/
theorem classOf_eq_none {b : Byte} (h : 3 ≤ b.toNat) : classOf b = none := by
  unfold classOf
  split
  case h_4 => rfl
  all_goals omega

/-- A class's rank is its code (R173). -/
theorem classOf_eq_some {b : Byte} {c : TempClass} (h : b.toNat = c.rank) : classOf b = some c := by
  unfold classOf
  rw [h]
  cases c <;> rfl

/-! ### The tote table's answer to TOTEIN -/

/-- A frame heard on a link leaves every tote record as it is. -/
@[simp] theorem State.heard_tote? (s : State) (l : Link) (id : ToteId) : (s.heard l).tote? id = s.tote? id := rfl

/-- The tasks that the class check at arrival fails are those that name the tote with another class (R8). -/
theorem State.classCheckTote_eq (s : State) (id : ToteId) (c : TempClass) :
    s.classCheckTote id c = s.endAll (State.endTask (.failed .cls))
      (ascendingIds (s.tasks.filter fun x => x.tote == id && x.cls != c)) := by
  simp only [State.classCheckTote, State.tasksOf, List.filter_filter, Bool.and_comm]

/-- Id 0, a slot past 7 or a class past 2 is refused RANGE (R6, check 1). -/
theorem ownToteIn_range {id : ToteId} {slot cls : Byte} (brought : BitVec 24) (s : State)
    (h : id = 0 ∨ 8 ≤ slot.toNat ∨ 3 ≤ cls.toNat) : ownToteIn id slot cls brought s = .refused .range := by
  unfold ownToteIn
  obtain hid | hslot | hcls := h
  · exact if_pos hid
  · simp [slotOf_eq_none hslot]
  · simp [classOf_eq_none hcls]

/-- With the fields in range, the id and then the slot decide (R6, checks 2 and 3). -/
theorem ownToteIn_inRange {id : ToteId} {slot cls : Byte} {l : Slot} {c : TempClass} (brought : BitVec 24) (s : State)
    (hid : id ≠ 0) (hslot : slot.toNat = l.val) (hcls : cls.toNat = c.rank) :
    ownToteIn id slot cls brought s =
      if (s.tote? id).isSome then .refused .duplicate
      else if s.lane[l].isSome then .refused .slotBusy
      else .taken (s.arrive (s.newTote id l c brought) l).settle .ok := by
  simp only [ownToteIn, if_neg hid, slotOf_eq_some hslot, classOf_eq_some hcls]

/-! ### The obligation -/

/-- Settles O28: the port hands the frame to the tote table, whose answer is RANGE, DUPLICATE, SLOT_BUSY or the
arrival. -/
theorem toteIn : Obligations.ToteIn := by
  intro r id slot cls brought s hlink hlistens
  rw [← hlink] at hlistens
  have hallowed : ReqKind.toteIn.allowed r.link = true := by rw [hlink]; rfl
  constructor
  · intro hrange
    exact congrArg _ (serve_refused hlistens hallowed (ownToteIn_range brought _ hrange))
  · intro l c hid hslot hcls
    have howner := ownToteIn_inRange brought (s.heard r.link) hid hslot hcls
    rw [State.heard_tote?, State.heard_lane] at howner
    refine congrArg Host.Outcome.next ?_
    by_cases hdup : (s.tote? id).isSome
    · rw [if_pos hdup]
      exact serve_refused hlistens hallowed (howner.trans (if_pos hdup))
    rw [if_neg hdup]
    by_cases hbusy : s.lane[l].isSome
    · rw [if_pos hbusy]
      exact serve_refused hlistens hallowed (howner.trans ((if_neg hdup).trans (if_pos hbusy)))
    · rw [if_neg hbusy]
      have htaken := serve_taken hlistens hallowed (howner.trans ((if_neg hdup).trans (if_neg hbusy)))
      simp only [State.arrive, State.classCheckTote_eq, hlink] at htaken
      exact htaken

end Sys2Proof.Machine
end

/-! PROOFS. The limits and warn thresholds (R29): the range of an item that is read as a number, and the statement O23. -/

namespace Sys2Proof.Machine

/-! ### The range of a setting (R153) -/

/-- The list of all items names each of them. -/
theorem mem_allItems (n : Fin 29) : n ∈ allItems := by decide +revert

/-- In a well-formed working copy every word is within its item's range (R153). -/
theorem State.wordInRange_item {s : State} (h : s.settingsWf = true) (n : Fin 29) : wordInRange n (s.item n) = true :=
  List.all_eq_true.1 (Bool.and_eq_true_iff.1 h).1 n (mem_allItems n)

/-- A word of an item that is not signed (items other than 0, 1, 2 and 4) stands for its number (R153). -/
theorem itemValue_unsigned {n : Fin 29} (hband : 2 < n.val) (hoffset : n.val ≠ 4) (w : SWord) :
    itemValue n w = w.toNat := by
  rw [itemValue, if_neg (Nat.not_le.2 hband), if_neg hoffset]

/-- In a well-formed working copy an item that is not signed lies between the bounds of its row (R153). -/
theorem State.setting_bounds {s : State} (h : s.settingsWf = true) {n : Fin 29} (hband : 2 < n.val)
    (hoffset : n.val ≠ 4) : (itemRow n).lo ≤ s.setting n ∧ (s.setting n : Int) ≤ (itemRow n).hi := by
  have hrange := State.wordInRange_item h n
  rw [wordInRange, if_neg hoffset, itemValue_unsigned hband hoffset] at hrange
  exact of_decide_eq_true hrange

/-! ### The bounds of a limit and of its warn threshold (R29) -/

/-- A class that has a limit has it from item 14 or item 15 (R29). -/
theorem State.limit_eq_some {s : State} {c : TempClass} {limit : Nat} (hlimit : s.limit c = some limit) :
    limit = s.setting 14 * 256 ∨ limit = s.setting 15 * 256 := by
  cases c with
  | ambient => cases hlimit
  | chilled => exact .inl (Option.some.inj hlimit).symm
  | frozen => exact .inr (Option.some.inj hlimit).symm

/-- A limit is a word from 1 to 65,535 times 256 EP in every setting (R29, items 14 and 15). -/
theorem State.limit_bounds {s : State} {c : TempClass} {limit : Nat} (h : s.settingsWf = true)
    (hlimit : s.limit c = some limit) : 256 ≤ limit ∧ limit ≤ 16776960 := by
  have hchilled : (1 : Int) ≤ s.setting 14 ∧ (s.setting 14 : Int) ≤ 65535 :=
    State.setting_bounds h (by decide) (by decide)
  have hfrozen : (1 : Int) ≤ s.setting 15 ∧ (s.setting 15 : Int) ≤ 65535 :=
    State.setting_bounds h (by decide) (by decide)
  obtain rfl | rfl := State.limit_eq_some hlimit <;> omega

/-- The warn threshold is 1 to 15 sixteenths of the limit in every setting, rounded down (R29, item 16). -/
theorem State.warnOf_bounds {s : State} (h : s.settingsWf = true) (limit : Nat) :
    limit / 16 ≤ s.warnOf limit ∧ s.warnOf limit ≤ limit * 15 / 16 := by
  obtain ⟨hlo, hhi⟩ : (1 : Int) ≤ s.setting 16 ∧ (s.setting 16 : Int) ≤ 15 :=
    State.setting_bounds h (by decide) (by decide)
  have hleast : limit ≤ limit * s.setting 16 := Nat.le_mul_of_pos_right limit (by omega)
  have hmost : limit * s.setting 16 ≤ limit * 15 := Nat.mul_le_mul_left limit (by omega)
  exact ⟨Nat.div_le_div_right hleast, Nat.div_le_div_right hmost⟩

/-! ### The values with the defaults (R29, R153) -/

/-- With the default words in the working copy a setting is its default's number. -/
theorem State.setting_of_defaults {s : State} (h : s.settings.work = defaultWords) (n : Fin 29) :
    s.setting n = defaultWords[n].toNat := by
  rw [State.setting, State.item, h]

/-- With the defaults the limits are 64 × 256 and 24 × 256 EP. -/
theorem State.limit_of_defaults {s : State} (h : s.settings.work = defaultWords) :
    s.limit .chilled = some 16384 ∧ s.limit .frozen = some 6144 := by
  simp only [State.limit, State.setting_of_defaults h]
  decide

/-- With the defaults the warn threshold is 12 sixteenths of the limit. -/
theorem State.warnOf_of_defaults {s : State} (h : s.settings.work = defaultWords) (limit : Nat) :
    s.warnOf limit = limit * 12 / 16 := by
  rw [State.warnOf, State.setting_of_defaults h]
  rfl

/-! ### The obligation -/

/-- Settles O23: items 14 to 16 are read as they stand, and the rows of R153 bound them; a limit is at least 256, so a
fraction of 1 to 15 sixteenths of it is above 0 and below it. -/
theorem limitsAndWarn : Obligations.LimitsAndWarn := by
  refine ⟨fun s => ⟨rfl, rfl, rfl⟩, fun s limit => rfl, ?bounds, ?defaults⟩
  case bounds =>
    intro s c limit hwf hlimit
    obtain ⟨hlimitLo, hlimitHi⟩ := State.limit_bounds hwf hlimit
    obtain ⟨hwarnLo, hwarnHi⟩ := State.warnOf_bounds hwf limit
    have hwarn16 : 16 ≤ s.warnOf limit := by omega
    have hwarnBelow : s.warnOf limit < limit := by omega
    exact ⟨hlimitLo, hlimitHi, hwarnLo, hwarnHi, hwarn16, Nat.zero_lt_of_lt hwarn16, hwarnBelow⟩
  case defaults =>
    intro s hdef
    obtain ⟨hchilled, hfrozen⟩ := State.limit_of_defaults hdef
    exact ⟨hchilled, State.warnOf_of_defaults hdef 16384, hfrozen, State.warnOf_of_defaults hdef 6144⟩

end Sys2Proof.Machine

/-! PROOFS. POST (R42, R43): a check at the head of an owner's answer, the task table's answer, the record of an
accepted POST, and the statement O31. -/

namespace Sys2Proof

/-! ### Classes and their codes (R173) -/

/-- Classes are told apart by their ranks. -/
theorem TempClass.bne_eq_rank_bne (a b : TempClass) : (a != b) = (a.rank != b.rank) := by
  cases a <;> cases b <;> rfl

/-- A class's code is at most 2 (R173). -/
theorem TempClass.rank_lt_three (c : TempClass) : c.rank < 3 := by
  cases c <;> decide

/-- A class is the one of its code (R173). -/
theorem TempClass.eq_of_rank {n : Nat} {c : TempClass} (h : n = c.rank) :
    c = if n = 0 then .ambient else if n = 1 then .chilled else .frozen := by
  subst h
  cases c <;> rfl

end Sys2Proof

namespace Sys2Proof.Machine

/-! ### A check at the head of an owner's answer (R165) -/

/-- An owner's first check decides first: where it fails the port refuses, otherwise the rest of the owner answers. -/
theorem serve_check {k : ReqKind} {r : Req} {s : State} (h : s.listens r.link = true) (ha : k.allowed r.link = true)
    (p : State → Prop) [DecidablePred p] (c : Reason) (rest : State → Answer) :
    s.serve k r (fun t => if p t then .refused c else rest t) =
      if p (s.heard r.link) then s.refusal r k c else s.serve k r rest := by
  by_cases hp : p (s.heard r.link)
  · rw [if_pos hp]
    exact serve_refused h ha (if_pos hp)
  · simp only [State.serve, if_neg hp]

/-! ### The task table's answer to POST (R42) -/

/-- A class byte is past 2 or the rank of a class (R173). -/
theorem three_le_or_exists_rank (b : Byte) : 3 ≤ b.toNat ∨ ∃ c : TempClass, b.toNat = c.rank := by
  obtain h | h | h | h : b.toNat = 0 ∨ b.toNat = 1 ∨ b.toNat = 2 ∨ 3 ≤ b.toNat := by omega
  · exact .inr ⟨.ambient, h⟩
  · exact .inr ⟨.chilled, h⟩
  · exact .inr ⟨.frozen, h⟩
  · exact .inl h

section
variable {task : TaskId} {tote : ToteId} {orderTote : OrderToteId} {sku : Sku}
  {cls quantity unitVolume crushClass : Byte} {c : TempClass}

/-- A class past 2 is refused, MODE first (R42, checks 1 and 2). -/
theorem ownPost_noClass (hcls : 3 ≤ cls.toNat) :
    ownPost task tote orderTote sku cls quantity unitVolume crushClass =
      fun s => if s.mode = .service then .refused .mode else .refused .range := by
  funext s
  simp only [ownPost, classOf_eq_none hcls]

/-- With a class in range, the other fields decide check 2 (R42). -/
theorem not_postInRange_iff (hcls : cls.toNat = c.rank) :
    (!postInRange task tote orderTote quantity unitVolume crushClass) = true ↔
      task = 0 ∨ tote = 0 ∨ orderTote = 0 ∨ 2 < cls.toNat ∨ quantity.toNat = 0 ∨ 99 < quantity.toNat ∨
        unitVolume.toNat = 0 ∨ 15 < unitVolume.toNat ∨ 3 < crushClass.toNat := by
  have hrank := c.rank_lt_three
  have hclass : ¬ 2 < cls.toNat := by omega
  simp only [postInRange, hclass, false_or, Bool.not_eq_true', Bool.and_eq_false_iff, bne_eq_false_iff_eq,
    decide_eq_false_iff_not, Decidable.not_and_iff_not_or_not, Nat.not_le, Nat.lt_one_iff, or_assoc]

/-- The eight checks on a POST of class `c`, each on the state alone (R42). -/
theorem ownPost_class (hcls : cls.toNat = c.rank) :
    ownPost task tote orderTote sku cls quantity unitVolume crushClass = fun s =>
      if s.mode = .service then .refused .mode
      else if !postInRange task tote orderTote quantity unitVolume crushClass then .refused .range
      else if (s.task? task).isSome then .refused .duplicate
      else if 64 ≤ s.tasks.length then .refused .full
      else if (s.tote? tote).any fun t => t.expired then .refused .expired
      else if (s.tote? tote).any fun t => t.cls.rank != cls.toNat then .refused .cls
      else if (s.positionOf orderTote).any fun p => (s.pos p).binding.any fun b => decide (b.cls.rank < cls.toNat) then
        .refused .cls
      else if (s.positionOf orderTote).any fun p => (s.pos p).state == .closing || (s.pos p).state == .swapping then
        .refused .state
      else .taken (s.postTask (s.newTask task tote orderTote sku c quantity unitVolume crushClass)).settle .ok := by
  funext s
  simp only [ownPost, classOf_eq_some hcls, Option.any_map, TempClass.exceeds, TempClass.bne_eq_rank_bne, hcls]
  rfl

/-! ### The record of an accepted POST (R43) -/

/-- The state that its tote gives a task, in the words of R43: what is not in the lane, called or on a lift is awaited. -/
theorem State.postState_eq (s : State) (tote : ToteId) :
    s.postState tote = match s.tote? tote with
      | none => .waiting
      | some t =>
        match t.state with
        | .inLane _ => .ready
        | .fetching _ => .ready
        | .onLift _ => .active
        | _ => .waiting := by
  unfold State.postState
  cases s.tote? tote with
  | none => rfl
  | some t =>
    dsimp only
    cases t.state <;> rfl
end

/-! ### The obligation -/

/-- Settles O31: the port hands the frame to the task table, whose checks decide in turn; a class past 2 ends at RANGE,
and a POST that passes them all makes the record of R43. -/
theorem post : Obligations.Post := by
  intro r task tote orderTote sku cls quantity unitVolume crushClass s hlink hlistens
  rw [← hlink] at hlistens
  have hallowed : ReqKind.post.allowed r.link = true := by rw [hlink]; rfl
  refine congrArg Host.Outcome.next ?_
  obtain hcls | ⟨c, hcls⟩ := three_le_or_exists_rank cls
  · rw [ownPost_noClass hcls, serve_check hlistens hallowed, serve_refused hlistens hallowed rfl]
    exact if_congr Iff.rfl rfl (if_pos (.inr (.inr (.inr (.inl hcls))))).symm
  · rw [ownPost_class hcls]
    iterate 8 rw [serve_check hlistens hallowed]
    rw [serve_taken hlistens hallowed rfl]
    refine if_congr Iff.rfl rfl (if_congr (not_postInRange_iff hcls) rfl ?_)
    simp only [State.newTask, State.postState_eq, ← TempClass.eq_of_rank hcls, hlink]
    rfl

end Sys2Proof.Machine

/-! PROOFS. The order-tote positions (R64 to R72): a request with one check, the codes of a position, BIND, CLOSE, the
swap with its two ends, and the statements O34, O35 and O36. -/

namespace Sys2Proof.Machine

/-! ### Position numbers and the table of positions (R60, R64) -/

/-- No position has a number past 5 (R64). -/
theorem posOf_eq_none {b : Byte} (h : 6 ≤ b.toNat) : posOf b = none := dif_neg (Nat.not_lt.2 h)

/-- A position's number reads back as the position (R64). -/
theorem posOf_eq_some {b : Byte} {p : Pos} (h : b.toNat = p.val) : posOf b = some p := by
  simp [posOf, h]

/-- The list of all positions names each of them. -/
theorem mem_allPos (p : Pos) : p ∈ allPos := by decide +revert

/-- An order tote is found exactly when some position's record names it (R60). -/
theorem State.positionOf_isSome_iff {s : State} {k : OrderToteId} :
    (s.positionOf k).isSome = true ↔ ∃ q : Pos, (s.pos q).binding.any (fun b => b.orderTote == k) = true := by
  simp only [State.positionOf, List.find?_isSome, mem_allPos, true_and]

/-! ### A request that one check decides (R165) -/

/-- An owner with one check takes the request where it holds and refuses it otherwise. -/
theorem serve_takenIf {k : ReqKind} {r : Req} {s : State} (h : s.listens r.link = true) (ha : k.allowed r.link = true)
    (p : State → Prop) [DecidablePred p] (f : State → State) (c d : Reason) :
    s.serve k r (fun t => if p t then .taken (f t) c else .refused d) =
      if p (s.heard r.link) then (f (s.heard r.link)).answer r k c else s.refusal r k d := by
  by_cases hp : p (s.heard r.link)
  · rw [if_pos hp]
    exact serve_taken h ha (if_pos hp)
  · rw [if_neg hp]
    exact serve_refused h ha (if_neg hp)

/-! ### BIND (R64, R65) -/

section
variable {pos cls capacity : Byte} {orderTote : OrderToteId} {p : Pos} {c : TempClass}

/-- Order tote 0, a position past 5, a class past 2 or no capacity is refused RANGE (R64, check 1). -/
theorem ownBind_range (s : State)
    (h : 6 ≤ pos.toNat ∨ orderTote = 0 ∨ 3 ≤ cls.toNat ∨ capacity.toNat = 0) :
    ownBind pos orderTote cls capacity s = .refused .range := by
  unfold ownBind
  split
  next hpos hcls =>
    obtain hlarge | hid | hclass | hcap := h
    · rw [posOf_eq_none hlarge] at hpos
      nomatch hpos
    · exact if_pos (.inl hid)
    · rw [classOf_eq_none hclass] at hcls
      nomatch hcls
    · exact if_pos (.inr (BitVec.eq_of_toNat_eq hcap))
  next => rfl

/-- With the fields in range, the position's state, its presence and then the order tote decide (R64, checks 2 to 4). -/
theorem ownBind_inRange (hpos : pos.toNat = p.val) (hid : orderTote ≠ 0) (hcls : cls.toNat = c.rank)
    (hcap : capacity.toNat ≠ 0) :
    ownBind pos orderTote cls capacity = fun s =>
      if (s.pos p).state ≠ .empty then .refused .state
      else if (s.pos p).present = false then .refused .noTote
      else if ∃ q : Pos, (s.pos q).binding.any (fun b => b.orderTote == orderTote) = true then .refused .duplicate
      else .taken ((s.bindRecord p ⟨orderTote, c, capacity.toNat⟩).classCheckOrder
        ⟨orderTote, c, capacity.toNat⟩).settle .ok := by
  funext s
  have hinRange : ¬ (orderTote = 0 ∨ capacity = 0) := not_or_intro hid fun h => hcap (congrArg BitVec.toNat h)
  simp only [ownBind, posOf_eq_some hpos, classOf_eq_some hcls, if_neg hinRange, State.positionOf_isSome_iff,
    Bool.not_eq_true']
end

/-- Settles O34: the port hands the frame to the position table, whose four checks decide in turn. -/
theorem bind : Obligations.Bind := by
  intro r pos orderTote cls capacity s hlink hlistens
  rw [← hlink] at hlistens
  have hallowed : ReqKind.bind.allowed r.link = true := by rw [hlink]; rfl
  constructor
  case left =>
    intro hrange
    exact congrArg _ (serve_refused hlistens hallowed (ownBind_range _ hrange))
  case right =>
    intro p c hpos hid hcls hcap
    refine congrArg Host.Outcome.next ?_
    rw [ownBind_inRange hpos hid hcls hcap]
    iterate 3 rw [serve_check hlistens hallowed]
    rw [serve_taken hlistens hallowed rfl, hlink]
    rfl

/-! ### CLOSE (R68, R70) -/

/-- A position that goes CLOSING goes on to SWAPPING exactly when its lock is free (R68). -/
theorem State.enterClosing_eq (s : State) (p : Pos) :
    s.enterClosing p =
      let u := s.updPos p fun q => { q with state := .closing, beforePull := none }
      if (s.pos p).lock = none then u.swapOut p else u := by
  simp [State.enterClosing, State.swapReady]

/-- BOUND and PULLED take a CLOSE, every other state refuses it (R70). -/
theorem ownClose_inRange {pos : Byte} {p : Pos} (hpos : pos.toNat = p.val) :
    ownClose pos = fun s =>
      if (s.pos p).state = .bound ∨ (s.pos p).state = .pulled then .taken (s.enterClosing p).settle .ok
      else .refused .state := by
  funext s
  simp only [ownClose, posOf_eq_some hpos]
  cases (s.pos p).state <;> rfl

/-- Settles O35: the position's state decides, and its lock whether the swap-out follows at once. -/
theorem close : Obligations.Close := by
  intro r pos s hlink hlistens
  rw [← hlink] at hlistens
  have hallowed : ReqKind.close.allowed r.link = true := by rw [hlink]; rfl
  constructor
  case left =>
    intro hrange
    exact congrArg _ (serve_refused hlistens hallowed (by simp only [ownClose, posOf_eq_none hrange]))
  case right =>
    intro p hpos
    refine congrArg Host.Outcome.next ?_
    rw [ownClose_inRange hpos, serve_takenIf hlistens hallowed, State.enterClosing_eq, hlink]
    rfl

/-! ### The swap-out (R52, R53, R69) -/

/-- A direction leaves the tasks as they are. -/
@[simp] theorem State.direct_tasks (s : State) (d : Direction) : (s.direct d).tasks = s.tasks := by
  unfold State.direct
  split <;> rfl

/-- A direction leaves the settings as they are. -/
@[simp] theorem State.direct_settings (s : State) (d : Direction) : (s.direct d).settings = s.settings :=
  congrArg Base.settings (direct_base s d)

/-- The time of a return is a setting, which a direction leaves as it is (R69). -/
@[simp] theorem State.direct_returnMs (s : State) (d : Direction) : (s.direct d).returnMs = s.returnMs := by
  simp only [State.returnMs, State.setting, State.item, State.direct_settings]

/-- A bound position's swap-out: SWAPOUT, the swap timer, then the ends of its order tote's tasks (R69). -/
theorem State.swapOut_of_binding {s : State} {p : Pos} {b : Binding} (h : (s.pos p).binding = some b) :
    s.swapOut p = ((s.direct (.swapOut p b.orderTote)).updPos p fun q => { q with
        state := .swapping, swapTimer := some s.returnMs }).endAll State.endInSwap
      (ascendingIds (s.tasks.filter fun t => t.orderTote == b.orderTote)) := by
  simp only [State.swapOut, h, State.direct_returnMs, State.updPos_tasks, State.direct_tasks]

/-- A found task carries the id it was looked up by (R39). -/
theorem State.id_of_task? {s : State} {id : TaskId} {t : Task} (h : s.task? id = some t) : t.id = id := by
  simpa using List.find?_some h

/-- The end of a task that is not lit: its record, then its tote, whatever a freed lock would bring (R54). -/
theorem State.endWith_unlit {s : State} {id : TaskId} {t : Task} (h : s.task? id = some t)
    (swap : Pos → State → State) (o : TaskOutcome) (cause : UnlitCause) :
    s.endWith swap o cause none id = (s.endRecord o none t).releaseTote t.tote := by
  simp only [State.endWith, h]

/-- Within a swap-out a task that is not lit ends as it does elsewhere (R52, R54). -/
theorem State.endInSwap_unlit {s : State} {id : TaskId} {t : Task} (ht : s.task? id = some t)
    (hunlit : s.litAt id = none) : s.endInSwap id = s.endTask (.failed .orderToteLeft) id := by
  simp only [State.endInSwap, State.endTask, hunlit, State.endWith_unlit ht]

/-- The record of an unlit task that fails: the terminal notice, the task event, the record freed (R54, R55). -/
theorem State.endRecord_failed_unlit (s : State) (c : FailReason) (t : Task) :
    s.endRecord (.failed c) none t =
      (State.offer (s.noteOrder (.taskEnded (.failed c) { t with awaitTimer := none } (s.positionOf t.orderTote)))
        { kind := .taskFailed, value := t.sku.setWidth 32, window := s.taskWindow t.tote, tote := t.tote,
          detail := .task t.id (some c) }).dropTask t.id := rfl

/-! ### The ends of a swap (R71, R72) -/

/-- Only SWAPPING takes SWAPPED (R71). -/
theorem ownSwapped_inRange {pos : Byte} {p : Pos} (hpos : pos.toNat = p.val) :
    ownSwapped pos = fun s =>
      if (s.pos p).state = .swapping then .taken (s.emptyPosition p) .ok else .refused .state := by
  funext s
  simp only [ownSwapped, posOf_eq_some hpos]

/-- The unconfirmed swap names the order tote of the record (R72). -/
theorem State.noteUnswapped_of_binding {s : State} {p : Pos} {b : Binding} (h : (s.pos p).binding = some b) :
    s.noteUnswapped p = s.noteOrder (.swapUnconfirmed p b.orderTote) := by
  simp only [State.noteUnswapped, h]

/-- Settles O36: the swap-out by the position's record, each unlit task's end by its record alone, and the two ends of
the swap, which empty the position alike. -/
theorem swaps : Obligations.Swaps := by
  refine ⟨fun s p b hb => State.swapOut_of_binding hb, ?ends, ?swapped, ?timeout⟩
  case ends =>
    intro s id t ht hunlit
    have heq := State.endInSwap_unlit ht hunlit
    refine ⟨heq, heq.trans ?_⟩
    rw [State.endTask, hunlit, State.endWith_unlit ht, State.endRecord_failed_unlit, State.id_of_task? ht]
  case swapped =>
    intro r pos s hlink hlistens
    rw [← hlink] at hlistens
    have hallowed : ReqKind.swapped.allowed r.link = true := by rw [hlink]; rfl
    constructor
    · intro hrange
      exact congrArg _ (serve_refused hlistens hallowed (by simp only [ownSwapped, posOf_eq_none hrange]))
    · intro p hpos
      refine congrArg Host.Outcome.next ?_
      rw [ownSwapped_inRange hpos, serve_takenIf hlistens hallowed, hlink]
      rfl
  case timeout =>
    intro s p b hb hswapping htimer
    refine congrArg Host.Outcome.next ((if_pos ⟨hswapping, htimer⟩).trans ?_)
    rw [State.noteUnswapped_of_binding hb]
    rfl

end Sys2Proof.Machine

/-! PROOFS. ATWIN (R83): the code of its window, the window controller's answer check by check, and the statement O39. -/

namespace Sys2Proof.Machine

/-! ### The code of a window (R173) -/

/-- No window has a code past 1 (R173). -/
theorem winOf_eq_none {b : Byte} (h : 2 ≤ b.toNat) : winOf b = none := by
  unfold winOf
  split
  case h_3 => rfl
  all_goals omega

/-- A window's number reads back as the window (R173). -/
theorem winOf_eq_some {b : Byte} {w : Win} (h : b.toNat = w.num) : winOf b = some w := by
  unfold winOf
  rw [h]
  cases w <;> rfl

/-! ### The state an owner sees (R164, R165) -/

/-- A frame heard on a link leaves both windows as they are. -/
@[simp] theorem State.heard_win (s : State) (l : Link) (w : Win) : (s.heard l).win w = s.win w := rfl

/-- Only what the owner answers to the state that has heard the frame counts (R165). -/
theorem serve_eq_serve_const (k : ReqKind) (r : Req) (owner : State → Answer) (s : State) :
    s.serve k r owner = s.serve k r fun _ => owner (s.heard r.link) := rfl

/-! ### The window controller's answer to ATWIN (R83) -/

section
variable {id : ToteId} {window : Byte} {w : Win} {s : State}

/-- Tote id 0 or a window past 1 is refused RANGE (R83, check 1). -/
theorem ownAtWin_range (s : State) (h : id = 0 ∨ 2 ≤ window.toNat) : ownAtWin id window s = .refused .range := by
  unfold ownAtWin
  split
  next => rfl
  next hwin =>
    obtain hid | hlarge := h
    · exact if_pos hid
    · rw [winOf_eq_none hlarge] at hwin
      nomatch hwin

/-- A tote that has no record is refused UNKNOWN (R83, check 2). -/
theorem ownAtWin_unknown (hid : id ≠ 0) (hwin : window.toNat = w.num) (htote : s.tote? id = none) :
    ownAtWin id window s = .refused .unknown := by
  simp only [ownAtWin, winOf_eq_some hwin, if_neg hid, htote]

/-- At a window without a fetch in flight every known tote is refused STATE (R83, check 3). -/
theorem ownAtWin_noFetch (hid : id ≠ 0) (hwin : window.toNat = w.num) {t : Tote} (htote : s.tote? id = some t)
    (hfetch : (s.win w).fetch = none) : ownAtWin id window s = .refused .state := by
  simp only [ownAtWin, winOf_eq_some hwin, if_neg hid, htote, hfetch]

/-- With a fetch in flight, whether it is the tote's own and whether it was reported before decide (R83, checks 3
and 4). -/
theorem ownAtWin_fetch (hid : id ≠ 0) (hwin : window.toNat = w.num) {t : Tote} (htote : s.tote? id = some t)
    {f : Fetch} (hfetch : (s.win w).fetch = some f) :
    ownAtWin id window s =
      if t.state ≠ .fetching w ∨ f.tote ≠ id then .refused .state
      else if f.atwinSeen then .refused .already
      else .taken (s.seeAtWin w f) .ok := by
  simp only [ownAtWin, winOf_eq_some hwin, if_neg hid, htote, hfetch]
end

/-! ### The obligation -/

/-- Settles O39: the port hands the frame to the window controller, whose checks decide in turn; an ATWIN that passes
them all delivers the fetch or starts its settle timer, as PRES has it. -/
theorem atWin : Obligations.AtWin := by
  intro r id window s hlink hlistens
  rw [← hlink] at hlistens
  have hallowed : ReqKind.atWin.allowed r.link = true := by rw [hlink]; rfl
  constructor
  case left =>
    intro hrange
    exact congrArg _ (serve_refused hlistens hallowed (ownAtWin_range _ hrange))
  case right =>
    intro w hid hwin
    refine congrArg Host.Outcome.next ?_
    cases htote : s.tote? id with
    | none => exact serve_refused hlistens hallowed (ownAtWin_unknown hid hwin htote)
    | some t =>
      cases hfetch : (s.win w).fetch with
      | none => exact serve_refused hlistens hallowed (ownAtWin_noFetch hid hwin htote hfetch)
      | some f =>
        rw [serve_eq_serve_const, ownAtWin_fetch (s := s.heard r.link) hid hwin htote hfetch]
        iterate 2 rw [serve_check hlistens hallowed]
        rw [serve_taken hlistens hallowed rfl, hlink, State.seeAtWin, apply_ite (State.answer · r .atWin .ok)]
        rfl

end Sys2Proof.Machine

/-! PROOFS. MODE (R135, R136): the code of a mode, bench control's answer check by check, the effect of a change, and the
statement O48. -/

namespace Sys2Proof.Machine

/-! ### The code of a mode (R173) -/

/-- No mode has a code past 2 (R173). -/
theorem modeOf_eq_none {b : Byte} (h : 2 < b.toNat) : modeOf b = none := by
  unfold modeOf
  split
  case h_4 => rfl
  all_goals omega

/-- The codes 0, 1 and 2 name RUN, DRAIN and SERVICE (R173). -/
theorem modeOf_eq_some {b : Byte} (h : ¬ 2 < b.toNat) :
    modeOf b = some (if b.toNat = 0 then .run else if b.toNat = 1 then .drain else .service) := by
  obtain hrun | hdrain | hservice : b.toNat = 0 ∨ b.toNat = 1 ∨ b.toNat = 2 := by omega
  · simp [modeOf, hrun]
  · simp [modeOf, hdrain]
  · simp [modeOf, hservice]

/-! ### Bench control's answer to MODE (R135) -/

section
variable {b : Byte} {m : Mode}

/-- A code that names no mode is refused RANGE (R135, check 1). -/
theorem ownMode_range (s : State) (h : 2 < b.toNat) : ownMode b s = .refused .range := by
  simp only [ownMode, modeOf_eq_none h]

/-- With a mode named, a store in flight and then the windows decide (R135, checks 2 and 3). -/
theorem ownMode_named (h : modeOf b = some m) :
    ownMode b = fun s =>
      if s.settings.job.isSome then .refused .busy
      else if m = .service ∧ s.mode ≠ .service ∧ ¬ (s.windowClear .w0 = true ∧ s.windowClear .w1 = true) then
        .refused .busy
      else .taken (s.setMode m) .ok := by
  funext s
  simp only [ownMode, h, Bool.not_eq_true', ← Bool.and_eq_true, Bool.not_eq_true]
end

/-- A window is clear with nothing on its lift and neither a fetch nor a return in flight (R135). -/
theorem State.windowClear_eq (s : State) (w : Win) :
    s.windowClear w = ((s.win w).lift == [] && (s.win w).fetch.isNone && (s.win w).ret.isNone) := by
  unfold State.windowClear
  cases (s.win w).lift <;> rfl

/-! ### The effect of an accepted MODE (R136) -/

/-- The mode already in force changes nothing, a change to RUN lets the windows work, any other sets the mode alone
(R135, R136). -/
theorem State.setMode_eq (s : State) (m : Mode) :
    s.setMode m =
      if m = s.mode then s
      else if m = .run then ({ s with mode := m } : State).settle else { s with mode := m } :=
  if_congr eq_comm rfl rfl

/-! ### The obligation -/

/-- Settles O48: the port hands the frame to bench control, whose checks decide in turn; a MODE that passes them is
answered OK after the effect of its change. -/
theorem modeRequest : Obligations.ModeRequest := by
  intro r mode s hlink hlistens
  rw [← hlink] at hlistens
  have hallowed : ReqKind.mode.allowed r.link = true := by rw [hlink]; rfl
  refine congrArg Host.Outcome.next ?_
  by_cases hrange : 2 < mode.toNat
  case pos =>
    rw [if_pos hrange]
    exact serve_refused hlistens hallowed (ownMode_range _ hrange)
  case neg =>
    rw [if_neg hrange, ownMode_named (modeOf_eq_some hrange)]
    iterate 2 rw [serve_check hlistens hallowed]
    rw [serve_taken hlistens hallowed rfl, State.setMode_eq, apply_ite (State.answer · r .mode .ok), hlink]
    simp only [State.windowClear_eq]
    rfl

end Sys2Proof.Machine

/-! PROOFS. The end of an event (R115, R159, R167): what lights and transmitters leave alone, the queues' own terms, and the
statements O12, O13 and O1. -/

namespace Sys2Proof.Machine

/-! ### The step and the queues -/

/-- Settles O1: the step is defined by the head of the queue. -/
theorem stepTakesFrontCommand : Obligations.StepTakesFrontCommand := by
  intro s c rest hpending
  simp only [step, hpending]

/-- A notice joins a queue with a place free (R168). -/
theorem NoticeQueue.push_of_lt {q : NoticeQueue} (n : Notice) (h : q.entries.length < 16) :
    q.push n = ⟨q.entries ++ [n], q.lost⟩ := if_pos h

/-- A full queue discards a notice and sets LOST (R168). -/
theorem NoticeQueue.push_of_le {q : NoticeQueue} (n : Notice) (h : 16 ≤ q.entries.length) :
    q.push n = ⟨q.entries, true⟩ := if_neg (Nat.not_lt.2 h)

/-- A direction joins the queue with a place free (R169). -/
theorem State.direct_of_lt {s : State} (d : Direction) (h : s.directions.length < 24) :
    s.direct d = { s with directions := s.directions ++ [d] } := if_pos h

/-- A full queue discards a direction (R169). -/
theorem State.direct_of_le {s : State} (d : Direction) (h : 24 ≤ s.directions.length) : s.direct d = s :=
  if_neg (Nat.not_lt.2 h)

/-- Settles O12: whether a place is free decides, in each queue on its own. -/
theorem queuesDiscardWhenFull : Obligations.QueuesDiscardWhenFull :=
  ⟨fun _ n => ⟨NoticeQueue.push_of_lt n, NoticeQueue.push_of_le n⟩, fun _ _ => ⟨rfl, rfl, rfl⟩,
    fun _ d => ⟨State.direct_of_lt d, State.direct_of_le d⟩⟩

/-! ### What lights and transmitters leave alone -/

/-- A position with its light off. -/
def Position.unlighted (q : Position) : Position := { q with light := ⟨.off, 0⟩ }

/-- The state without what the end of an event writes: the lights, the ports, the queues and a STORE reply that waits. -/
def State.tables (s : State) : State :=
  { s with
    positions := s.positions.map Position.unlighted
    ports := ⟨portReset, portReset, portReset⟩
    orderQueue := ⟨[], false⟩
    benchQueue := ⟨[], false⟩
    directions := []
    settings := { s.settings with waitingReply := none } }

@[simp] theorem State.tables_pos (s : State) (p : Pos) : s.tables.pos p = (s.pos p).unlighted := by
  simp [State.tables, State.pos]

@[simp] theorem State.updPort_tables (s : State) (l : Link) (f : Port → Port) : (s.updPort l f).tables = s.tables := rfl

@[simp] theorem State.heard_tables (s : State) (l : Link) : (s.heard l).tables = s.tables := rfl

@[simp] theorem State.reply_tables (s : State) (l : Link) (r : Reply) : (s.reply l r).tables = s.tables := by
  unfold State.reply
  split <;> rfl

@[simp] theorem State.fillSlot_tables (s : State) : s.fillSlot.tables = s.tables := by
  unfold State.fillSlot
  split <;> rfl

/-- Taking a frame shortens the link's own queue by its head and changes nothing else. -/
theorem State.takeQueued_frame {s t : State} {l : Link} {f : OutFrame} (h : s.takeQueued l = some (f, t)) :
    t.tables = s.tables ∧ t.ports = s.ports ∧ t.settings = s.settings ∧ t.positions = s.positions ∧
      (t.outbound l).length + 1 = (s.outbound l).length ∧ ∀ m : Link, m ≠ l → t.outbound m = s.outbound m := by
  cases l with
  | order =>
    simp only [State.takeQueued] at h
    split at h
    next hq => cases h; exact ⟨rfl, rfl, rfl, rfl, by simp [State.outbound, hq], by rintro (_ | _ | _) hne <;> trivial⟩
    next => cases h
  | transport =>
    simp only [State.takeQueued] at h
    split at h
    next hq => cases h; exact ⟨rfl, rfl, rfl, rfl, by simp [State.outbound, hq], by rintro (_ | _ | _) hne <;> trivial⟩
    next => cases h
  | bench =>
    simp only [State.takeQueued] at h
    split at h
    next hq => cases h; exact ⟨rfl, rfl, rfl, rfl, by simp [State.outbound, hq], by rintro (_ | _ | _) hne <;> trivial⟩
    next => cases h

@[simp] theorem State.pump_tables (s : State) (l : Link) : (s.pump l).tables = s.tables := by
  unfold State.pump
  dsimp only
  split
  · simp
  · split
    · simp
    · split
      next htake => rw [State.updPort_tables, (State.takeQueued_frame htake).1, State.fillSlot_tables]
      next => simp

@[simp] theorem State.pumpAll_tables (s : State) : s.pumpAll.tables = s.tables := by simp [State.pumpAll]

@[simp] theorem State.driveLight_tables (p : Pos) (s : State) : (s.driveLight p).tables = s.tables := by
  unfold State.driveLight
  split
  · rfl
  · have hmap : (s.updPos p fun q => { q with light := ⟨s.lightMode p, 0⟩ }).positions.map Position.unlighted =
        s.positions.map Position.unlighted := by
      ext q hq : 1
      by_cases h : p.val = q <;> simp [State.updPos, h, Position.unlighted]
    exact congrArg (fun v => { s.tables with positions := v }) hmap

@[simp] theorem State.driveLights_tables (s : State) : s.driveLights.tables = s.tables := by
  simp [State.driveLights, allPos]

@[simp] theorem State.conclude_tables (s : State) : s.conclude.tables = s.tables := by simp [State.conclude]

@[simp] theorem State.refuse_tables (s : State) (r : Req) (k : Byte) (c : Reason) :
    (s.refuse r k c).tables = s.tables := by simp [State.refuse]

@[simp] theorem State.refusal_tables (s : State) (r : Req) (k : ReqKind) (c : Reason) :
    (s.refusal r k c).tables = s.tables := by simp [State.refusal]

@[simp] theorem State.answer_tables (s : State) (r : Req) (k : ReqKind) (c : Reason) :
    (s.answer r k c).tables = s.tables := by simp [State.answer]

@[simp] theorem State.answerPort_tables (s : State) (r : Req) (k : ReqKind) (c : Reason) (result : List Byte) :
    (s.answerPort r k c result).tables = s.tables := by simp [State.answerPort]

/-- States of the same tables are the same but for lights, ports, queues and a STORE reply that waits. -/
theorem State.eq_of_tables {s t : State} (h : t.tables = s.tables) :
    { t with positions := s.positions, ports := s.ports, orderQueue := s.orderQueue, benchQueue := s.benchQueue,
             directions := s.directions,
             settings := { t.settings with waitingReply := s.settings.waitingReply } } = s :=
  congrArg (fun u : State => { u with
    positions := s.positions, ports := s.ports, orderQueue := s.orderQueue, benchQueue := s.benchQueue,
    directions := s.directions, settings := { u.settings with waitingReply := s.settings.waitingReply } }) h

/-- In states of the same tables a position's fields beside its light agree. -/
theorem State.unlighted_of_tables {s t : State} (h : t.tables = s.tables) (p : Pos) :
    (t.pos p).unlighted = (s.pos p).unlighted := by
  rw [← State.tables_pos, h, State.tables_pos]

/-- In states of the same tables a position differs in its light alone. -/
theorem State.pos_of_tables {s t : State} (h : t.tables = s.tables) (p : Pos) :
    { t.pos p with light := (s.pos p).light } = s.pos p :=
  congrArg (fun q : Position => { q with light := (s.pos p).light }) (State.unlighted_of_tables h p)

/-! ### Idle transmitters (R159, R167) -/

/-- A STORE reply waits only for a full slot (R159). -/
def State.filled (s : State) : Bool := s.settings.waitingReply.isNone || (s.port .order).replySlot.isSome

/-- With nothing that could enter the slot, nothing enters it (R159). -/
theorem State.fillSlot_of_filled {s : State} (h : s.filled = true) : s.fillSlot = s := by
  unfold State.fillSlot
  split
  next r hwait hslot => simp [State.filled, hwait, hslot] at h
  next => rfl

/-- A STORE reply that waits enters the slot as soon as it is empty (R159). -/
theorem State.fillSlot_filled (s : State) : s.fillSlot.filled = true := by
  unfold State.fillSlot
  split
  next => rfl
  next hne =>
    cases hwait : s.settings.waitingReply with
    | none => simp [State.filled, hwait]
    | some r =>
      cases hslot : (s.port .order).replySlot with
      | none => exact (hne r hwait hslot).elim
      | some q => simp [State.filled, hslot]

/-- Filling the slot leaves transmitters and queues as they are. -/
theorem State.fillSlot_frame (s : State) (l : Link) :
    (s.fillSlot.port l).transmitter = (s.port l).transmitter ∧ s.fillSlot.outbound l = s.outbound l ∧
      (l ≠ .order → s.fillSlot.port l = s.port l) := by
  unfold State.fillSlot
  split
  · cases l <;> exact ⟨rfl, rfl, fun h => by first | rfl | exact absurd rfl h⟩
  · exact ⟨rfl, rfl, fun _ => rfl⟩

/-- What a link takes from its queue, and when there is nothing to take (R168). -/
theorem State.takeQueued_eq_none_iff (s : State) (l : Link) : s.takeQueued l = none ↔ s.outbound l = [] := by
  cases l with
  | order => cases h : s.orderQueue.entries <;> simp [State.takeQueued, State.outbound, h]
  | transport => cases h : s.directions <;> simp [State.takeQueued, State.outbound, h]
  | bench => cases h : s.benchQueue.entries <;> simp [State.takeQueued, State.outbound, h]

/-- What an idle transmitter does once the slot is filled (R167): it waits, takes the reply, takes the head of its
queue, or stays idle with nothing to send. -/
theorem State.pump_cases (s : State) (l : Link) :
    let u := s.fillSlot
    ((u.port l).transmitter.isSome = true ∧ s.pump l = u) ∨
    (∃ r : Reply, (u.port l).transmitter = none ∧ (u.port l).replySlot = some r ∧
      s.pump l = (u.updPort l fun p => { p with transmitter := some (.reply r), replySlot := none }).fillSlot) ∨
    (∃ (f : OutFrame) (t : State), (u.port l).transmitter = none ∧ (u.port l).replySlot = none ∧
      u.takeQueued l = some (f, t) ∧ s.pump l = t.updPort l fun p => { p with transmitter := some f }) ∨
    ((u.port l).transmitter = none ∧ (u.port l).replySlot = none ∧ u.outbound l = [] ∧ s.pump l = u) := by
  intro u
  unfold State.pump
  dsimp only
  split
  next htx => exact .inl ⟨by rw [htx]; rfl, rfl⟩
  next hidle =>
    split
    next r hslot => exact .inr (.inl ⟨r, hidle, hslot, rfl⟩)
    next hslot =>
      split
      next f t htake => exact .inr (.inr (.inl ⟨f, t, hidle, hslot, htake, rfl⟩))
      next htake => exact .inr (.inr (.inr ⟨hidle, hslot, (u.takeQueued_eq_none_iff l).1 htake, rfl⟩))

/-- An idle transmitter that may take leaves no STORE reply waiting beside an empty slot (R159). -/
theorem State.pump_filled (s : State) (l : Link) : (s.pump l).filled = true := by
  have hfill := s.fillSlot_filled
  obtain ⟨_, h⟩ | ⟨r, _, _, h⟩ | ⟨f, t, _, hslot, htake, h⟩ | ⟨_, _, _, h⟩ := s.pump_cases l <;> rw [h]
  · exact hfill
  · exact State.fillSlot_filled _
  · obtain ⟨_, hports, hset, _⟩ := State.takeQueued_frame htake
    have hslots : ∀ m, ((t.updPort l fun p => { p with transmitter := some f }).port m).replySlot =
        (s.fillSlot.port m).replySlot := by
      intro m
      by_cases hm : m = l
      · subst hm; simp [State.port, hports]
      · rw [State.port_updPort_ne _ hm, State.port, hports]; rfl
    simpa [State.filled, hslots, hset] using hfill
  · exact hfill

/-- A link whose transmitter may take has nothing left to send at an idle transmitter (R167). -/
theorem State.pump_restsEmpty (s : State) (l : Link) : (s.pump l).restsEmpty l = true := by
  obtain ⟨htx, h⟩ | ⟨r, _, _, h⟩ | ⟨f, t, _, _, _, h⟩ | ⟨hidle, hslot, hout, h⟩ := s.pump_cases l <;> rw [h]
  · simp [State.restsEmpty, htx]
  · simp [State.restsEmpty, State.fillSlot_frame]
  · simp [State.restsEmpty]
  · simp [State.restsEmpty, hslot, hout]

/-- With no STORE reply to move, a transmitter that may take leaves the other links as they are. -/
theorem State.pump_restsEmpty_ne {s : State} {l m : Link} (hne : m ≠ l) (hfill : s.filled = true)
    (hrest : s.restsEmpty m = true) : (s.pump l).restsEmpty m = true := by
  have hu : s.fillSlot = s := State.fillSlot_of_filled hfill
  obtain ⟨_, h⟩ | ⟨r, _, hslot, h⟩ | ⟨f, t, _, _, htake, h⟩ | ⟨_, _, _, h⟩ := s.pump_cases l <;> rw [h] <;>
    rw [hu] at *
  · exact hrest
  · have hport : ((s.updPort l fun p => { p with transmitter := some (.reply r), replySlot := none }).fillSlot.port m) =
        s.port m ∨ m = .order := by
      by_cases hm : m = .order
      · exact .inr hm
      · exact .inl (((State.fillSlot_frame _ m).2.2 hm).trans (s.port_updPort_ne hne _))
    obtain hport | rfl := hport
    · rw [State.restsEmpty, hport, (State.fillSlot_frame _ m).2.1]; exact hrest
    · rw [State.fillSlot_of_filled]
      · rw [State.restsEmpty, s.port_updPort_ne hne]; exact hrest
      · simpa [State.filled, s.port_updPort_ne hne] using hfill
  · obtain ⟨_, hports, _, _, _, hout⟩ := State.takeQueued_frame htake
    rw [State.restsEmpty, State.port_updPort_ne _ hne, State.port, hports]
    have houtbound : (t.updPort l fun p => { p with transmitter := some f }).outbound m = s.outbound m := by
      rw [← hout m hne]; cases m <;> rfl
    rw [houtbound]
    exact hrest
  · exact hrest

/-- The order link takes first, so that no reply is left for it by the others (R159, R167). -/
theorem State.pumpAll_restsEmpty (s : State) (l : Link) : s.pumpAll.restsEmpty l = true := by
  unfold State.pumpAll
  cases l with
  | order =>
    exact State.pump_restsEmpty_ne (by decide) (State.pump_filled _ _)
      (State.pump_restsEmpty_ne (by decide) (State.pump_filled _ _) (State.pump_restsEmpty _ _))
  | transport => exact State.pump_restsEmpty_ne (by decide) (State.pump_filled _ _) (State.pump_restsEmpty _ _)
  | bench => exact State.pump_restsEmpty _ _

/-! ### The lights (R115) -/

/-- The light of a position after an event: its pattern begins afresh where the mode is new (R115). -/
def State.newLight (s : State) (p : Pos) : Light :=
  if (s.pos p).light.mode = s.lightMode p then (s.pos p).light else ⟨s.lightMode p, 0⟩

/-- The mode that the records give a light rests on the tables alone (R115). -/
theorem State.lightMode_of_tables {s t : State} (h : t.tables = s.tables) (p : Pos) : t.lightMode p = s.lightMode p := by
  have hpos : (t.pos p).unlighted = (s.pos p).unlighted := State.unlighted_of_tables h p
  have hlock : (t.pos p).unlighted.lock = (s.pos p).unlighted.lock := congrArg _ hpos
  have hstate : (t.pos p).unlighted.state = (s.pos p).unlighted.state := congrArg _ hpos
  have hwindows : t.tables.windows = s.tables.windows := congrArg _ h
  have htasks : t.tables.tasks = s.tables.tasks := congrArg _ h
  change (t.pos p).lock = (s.pos p).lock at hlock
  change (t.pos p).state = (s.pos p).state at hstate
  change t.windows = s.windows at hwindows
  change t.tasks = s.tasks at htasks
  have htask : t.task? = s.task? := by funext id; rw [State.task?, State.task?, htasks]
  simp only [State.lightMode, State.litTo, hlock, hstate, State.win, hwindows, htask]

theorem State.driveLight_light (p : Pos) (s : State) : ((s.driveLight p).pos p).light = s.newLight p := by
  unfold State.driveLight State.newLight
  split <;> simp

theorem State.driveLight_light_ne {p q : Pos} (h : q ≠ p) (s : State) : (s.driveLight p).pos q = s.pos q := by
  unfold State.driveLight
  split
  · rfl
  · exact State.pos_updPos_ne _ h _

/-- Driving a list of lights gives each of them its light of the records, and leaves the others as they are. -/
theorem State.foldl_driveLight_light {ps : List Pos} (hps : ps.Nodup) (s : State) (p : Pos) :
    ((ps.foldl (fun s p => s.driveLight p) s).pos p).light = if p ∈ ps then s.newLight p else (s.pos p).light := by
  induction ps generalizing s with
  | nil => rfl
  | cons q qs ih =>
    obtain ⟨hq, hqs⟩ := List.nodup_cons.1 hps
    rw [List.foldl_cons, ih hqs]
    by_cases hpq : p = q
    · subst hpq
      simp [hq, State.driveLight_light]
    · have hnew : (s.driveLight q).newLight p = s.newLight p := by
        rw [State.newLight, State.newLight, State.driveLight_light_ne hpq,
          State.lightMode_of_tables (State.driveLight_tables q s)]
      simp [hpq, hnew, State.driveLight_light_ne hpq]

/-- The transmitters leave the positions as they are. -/
theorem State.pump_positions (s : State) (l : Link) : (s.pump l).positions = s.positions := by
  have hfill : ∀ u : State, u.fillSlot.positions = u.positions := by
    intro u
    unfold State.fillSlot
    split <;> rfl
  obtain ⟨_, h⟩ | ⟨r, _, _, h⟩ | ⟨f, t, _, _, htake, h⟩ | ⟨_, _, _, h⟩ := s.pump_cases l <;> rw [h]
  · exact hfill s
  · exact (hfill _).trans (hfill s)
  · exact (State.takeQueued_frame htake).2.2.2.1.trans (hfill s)
  · exact hfill s

/-- At the end of an event each light has its light of the records (R115). -/
theorem State.conclude_light (s : State) (p : Pos) : (s.conclude.pos p).light = s.newLight p := by
  have hmem : p ∈ allPos := by decide +revert
  have hpump : s.conclude.pos p = s.driveLights.pos p := by
    simp only [State.pos, State.conclude, State.pumpAll, State.pump_positions]
  rw [hpump, State.driveLights, State.foldl_driveLight_light (by decide), if_pos hmem]

/-- Settles O13: the lights are driven from the records, the transmitters take after the order link's, and nothing else
is written. -/
theorem eventEnd : Obligations.EventEnd := by
  intro s
  refine ⟨fun p => ?_, State.pos_of_tables s.conclude_tables, State.pumpAll_restsEmpty _,
    State.eq_of_tables s.conclude_tables⟩
  rw [State.conclude_light, State.newLight, State.lightMode]
  cases s.litTo p with
  | none => rfl
  | some c => simp only [Bool.or_eq_true]

end Sys2Proof.Machine

/-! PROOFS. What a command can do to the tables: one case per event, with the checks that let it happen, before lights and
transmitters act. Every invariant of the tables is proved over these cases. -/

namespace Sys2Proof.Machine

/-- What command `c`, taken on state `s`, makes of the tables: one case per event, each with the checks of its owner that
it has passed. -/
inductive Event (s : State) : Instr → State → Prop
  /-- Refusals, readings, and commands that describe what cannot be happening. -/
  | nothing (c : Instr) : Event s c s
  /-- Supply and reset (R144, R145, R160): every block at its first values. -/
  | restart (c : Instr) (pins : Pins) (image : Vector SWord 31) (counters : Counters) (free : Nat) (phase : Phase)
      (line : RstLine) (hphase : phase ≠ .running)
      (hcount : counters = s.counters ∨ (∃ pins, c = .powerOn pins) ∧ counters = ⟨0, 0, 0, 0⟩) :
      Event s c { startUp pins image counters free s.pending with phase := phase, rstLine := line }
  /-- The qualification of RSTn (R144). -/
  | line (c : Instr) (line : RstLine) : Event s c { s with rstLine := line }
  | load (hphase : s.phase = .loading) : Event s .settingsLoadEnd s.endLoad
  | post (r : Req) (task : TaskId) (tote : ToteId) (orderTote : OrderToteId) (sku : Sku)
      (cls quantity unitVolume crushClass : Byte) (c : TempClass) (hmode : s.mode ≠ .service)
      (hrange : postInRange task tote orderTote quantity unitVolume crushClass = true) (hnew : s.task? task = none)
      (hroom : s.tasks.length < Config.taskRecords) (hfresh : ∀ t, s.tote? tote = some t → t.expired = false) :
      Event s (.post r task tote orderTote sku cls quantity unitVolume crushClass)
        (s.postTask (s.newTask task tote orderTote sku c quantity unitVolume crushClass)).settle
  | withdraw (r : Req) (task : TaskId) : Event s (.withdraw r task) (s.endTask .cancelled task).settle
  | rush (r : Req) (tote : ToteId) : Event s (.rush r tote) (s.updTote tote fun x => { x with rush := true }).settle
  | bind (r : Req) (pos : Byte) (orderTote : OrderToteId) (cls capacity : Byte) (p : Pos) (c : TempClass)
      (hempty : (s.pos p).state = .empty) (hnew : s.positionOf orderTote = none) :
      Event s (.bind r pos orderTote cls capacity)
        ((s.bindRecord p ⟨orderTote, c, capacity.toNat⟩).classCheckOrder ⟨orderTote, c, capacity.toNat⟩).settle
  | close (r : Req) (pos : Byte) (p : Pos) (hstate : (s.pos p).state = .bound ∨ (s.pos p).state = .pulled) :
      Event s (.close r pos) (s.enterClosing p).settle
  | mode (r : Req) (mode : Byte) (m : Mode)
      (hclear : m = .service → s.mode ≠ .service → (s.windowClear .w0 && s.windowClear .w1) = true) :
      Event s (.mode r mode) (s.setMode m)
  | clear (r : Req) : Event s (.clear r) s.clearBench.settle
  | setItem (r : Req) (item : Byte) (value : BitVec 16) (n : Fin 29)
      (hlock : ¬ (n.val ≤ 16 ∧ s.setting 28 = 1)) (hn : n.val < 28)
      (hbands : n.val ≤ 2 → bandsRise (s.writeItem n (clampItem n (requestValue n value))).settings.work = true) :
      Event s (.setItem r item value) (s.writeItem n (clampItem n (requestValue n value)))
  | store (r : Req) : Event s (.store r) (s.beginStore r.tag)
  | storeCompletion (readBack : Vector SWord 31) (job : StoreJob) :
      Event s (.storeCompletion readBack) (s.completeStore job readBack)
  | lock (r : Req) : Event s (.lock r) (s.writeItem 28 1)
  | toteIn (r : Req) (id : ToteId) (slot cls : Byte) (brought : BitVec 24) (l : Slot) (c : TempClass)
      (hnew : s.tote? id = none) (hslot : s.lane[l] = none) :
      Event s (.toteIn r id slot cls brought) (s.arrive (s.newTote id l c brought) l).settle
  | toteOut (r : Req) (id : ToteId) (t : Tote) (slot : Slot) (ht : s.tote? id = some t) (hst : t.state = .inLane slot) :
      Event s (.toteOut r id) ((((s.setSlot slot none).leaveArrival id).tasksToWaiting id).dropTote id)
  | atWin (r : Req) (id : ToteId) (window : Byte) (w : Win) (f : Fetch) (hf : (s.win w).fetch = some f) :
      Event s (.atWin r id window) (s.seeAtWin w f)
  | goneLane (r : Req) (id : ToteId) (t : Tote) (slot : Slot) (ht : s.tote? id = some t)
      (hst : t.state = .leavingLane slot) : Event s (.gone r id) (s.goneFromLane t slot)
  | goneWindow (r : Req) (id : ToteId) (t : Tote) (w : Win) (ht : s.tote? id = some t)
      (hst : t.state = .leavingWin w) : Event s (.gone r id) (s.goneFromWindow t w).settle
  | swapped (r : Req) (pos : Byte) (p : Pos) (hst : (s.pos p).state = .swapping) :
      Event s (.swapped r pos) (s.emptyPosition p)
  | picked (r : Req) (id : TaskId) (count : Byte) (t : Task) (w : Win) (ht : s.task? id = some t)
      (hw : s.litWindow t = some w) : Event s (.picked r id count) (s.confirm w t count.toNat).settle
  | short (r : Req) (id : TaskId) : Event s (.short r id) (s.countShort.endTask .short id).settle
  | toteBad (r : Req) (id : ToteId) (w : Win) (htop : s.top? w = some id) :
      Event s (.toteBad r id) (s.condemn w id).settle
  | hold (r : Req) (windows : Byte) (ws : WinSet) :
      Event s (.hold r windows) (s.changeHolds ws (Holds.setLink r.link true)).settle
  | resume (r : Req) (windows : Byte) (ws : WinSet) :
      Event s (.resume r windows) (s.changeHolds ws (Holds.setLink r.link false)).settle
  | resumeBench (r : Req) (windows : Byte) (ws : WinSet) :
      Event s (.resume r windows) ((s.changeHolds ws (Holds.setLink r.link false)).dropFaults ws).settle
  | watch (r : Req) (entry enabled subject : Byte) (low high : BitVec 32) (combine events windows : Byte) (n : Fin 4)
      (e : WatchEntry) : Event s (.watch r entry enabled subject low high combine events windows) (s.setWatch n e)
  | accrualInterval : Event s .accrualIntervalExpiry
      { s with exposure := { s.exposure with interval := some Config.accrualMs, readInFlight := true } }
  | accrual (reading : Option (BitVec 16)) : Event s (.accrualEvent reading) (s.accrue reading).settle
  | orphan (id : ToteId) (hran : ((s.tote? id).any fun t => t.orphanTimer.isSome) = true) :
      Event s (.orphanExpiry id) (s.laneSendBack id)
  | laneReturn (id : ToteId) (t : Tote) (slot : Slot) (ht : s.tote? id = some t) (hst : t.state = .leavingLane slot) :
      Event s (.laneReturnTimeout id)
        (((s.setSlot slot none).dropTote id).noteOrder (.returnUnconfirmed id (.lane slot)))
  | presRise (w : Win) : Event s (.presRise w) (s.presRises w)
  | presFall (w : Win) : Event s (.presFall w) (s.presFalls w)
  | settleExpiry (w : Win) : Event s (.settleExpiry w) (s.deliver w true).settle
  | fetchTimeout (w : Win) (f : Fetch) (hf : (s.win w).fetch = some f) :
      Event s (.fetchTimeout w) (s.loseFetch w f).settle
  | windowReturn (w : Win) (q : Return) (hq : (s.win w).ret = some q) :
      Event s (.windowReturnTimeout w) (s.loseReturn w q.tote).settle
  | blockStands (w : Win) (hb : (s.win w).blockTimer.isSome = true) (hlit : (s.win w).lit.isSome = true) :
      Event s (.blockTimerExpiry w) (s.updWin w fun x => { x with blockTimer := some 0 })
  | blockEnds (w : Win) (hlit : (s.win w).lit = none) : Event s (.blockTimerExpiry w)
      ((s.updWin w fun x => { x with blockTimer := none }).markFinished w).settle
  | swapTimeout (p : Pos) (hst : (s.pos p).state = .swapping) :
      Event s (.swapTimeout p) ((s.noteUnswapped p).emptyPosition p)
  | pposFall (p : Pos) : Event s (.pposFall p) (s.pposFalls p)
  | pposRise (p : Pos) : Event s (.pposRise p) (s.pposRises p)
  | press (p : Pos) : Event s (.btnPress p) ((s.updPos p fun q => { q with pressed := true, armed := false }).press p)
  | button (c : Instr) (p : Pos) (pressed armed : Bool) :
      Event s c (s.updPos p fun q => { q with pressed := pressed, armed := armed })
  | guardEnds (w : Win) : Event s (.guardExpiry w) (s.updWin w fun x => { x with guardTimer := none })
  | overdue (w : Win) (t : Task) (ht : (s.win w).lit.bind s.task? = some t) :
      Event s (.confirmPeriodExpiry w) (s.overdue w t)
  | await (task : TaskId) (hran : ((s.task? task).any fun t => t.awaitTimer.isSome) = true) :
      Event s (.awaitExpiry task) (s.endTask (.failed .notDelivered) task)
  | holdLine (c : Instr) (b : Bool) : Event s c (s.setHoldLine b)

/-! ### Requests -/

/-- The state in which an owner leaves the tables, when it does not refuse. -/
def Answer.state? : Answer → Option State
  | .refused _ => none
  | .portOnly t _ _ => some t
  | .taken t _ => some t
  | .deferred t => some t

/-- Command `c` on `s` ends in tables that one event of `c` makes of the tables of `s`. -/
def Meets (c : Instr) (s t : State) : Prop := ∃ u v : State, u.tables = s.tables ∧ Event u c v ∧ t.tables = v.tables

/-- An event without more. -/
theorem Event.meets {c : Instr} {s t : State} (h : Event s c t) : Meets c s t := ⟨s, t, rfl, h, rfl⟩

/-- An event, then lights and transmitters. -/
theorem Event.meets_conclude {c : Instr} {s t : State} (h : Event s c t) : Meets c s t.conclude :=
  ⟨s, t, rfl, h, t.conclude_tables⟩

/-- A state of the same tables. -/
theorem Meets.of_tables {c : Instr} {s t : State} (h : t.tables = s.tables) : Meets c s t :=
  ⟨s, s, rfl, .nothing c, h⟩

/-- What the owner of a request makes of the tables is all that its frame makes of them. -/
theorem serve_meets {k : ReqKind} {r : Req} {owner : State → Answer} {s : State} {c : Instr}
    (howner : ∀ v : State, (owner (s.heard r.link)).state? = some v → Event (s.heard r.link) c v) :
    Meets c s (s.serve k r owner) := by
  unfold State.serve
  split
  · exact .of_tables rfl
  split
  · exact .of_tables rfl
  split
  · exact .of_tables (by simp)
  split
  next => exact .of_tables (by simp)
  next t a b h => exact ⟨s.heard r.link, t, rfl, howner t (by rw [h]; rfl), by simp⟩
  next t a h => exact ⟨s.heard r.link, t, rfl, howner t (by rw [h]; rfl), by simp⟩
  next t h => exact ⟨s.heard r.link, t, rfl, howner t (by rw [h]; rfl), rfl⟩

/-! ### The owners' answers -/

section
variable {s v : State} {r : Req}

theorem ownPost_event {task : TaskId} {tote : ToteId} {orderTote : OrderToteId} {sku : Sku}
    {cls quantity unitVolume crushClass : Byte}
    (h : (ownPost task tote orderTote sku cls quantity unitVolume crushClass s).state? = some v) :
    Event s (.post r task tote orderTote sku cls quantity unitVolume crushClass) v := by
  unfold ownPost at h
  split at h
  · cases h
  next hmode =>
  split at h
  · cases h
  next c hcls =>
  split at h
  · cases h
  next hrange =>
  split at h
  · cases h
  next hnew =>
  split at h
  · cases h
  next hroom =>
  split at h
  · cases h
  next hfresh =>
  split at h
  · cases h
  dsimp only at h
  split at h
  · cases h
  split at h
  · cases h
  next =>
  obtain rfl := Option.some.inj h
  refine .post _ _ _ _ _ _ _ _ _ c hmode (by simpa using hrange) (by simpa using hnew) (Nat.not_le.1 hroom) ?_
  intro t ht
  simpa [ht] using hfresh

theorem ownWithdraw_event {task : TaskId} (h : (ownWithdraw task s).state? = some v) : Event s (.withdraw r task) v := by
  unfold ownWithdraw at h
  split at h
  next => obtain rfl := Option.some.inj h; exact .withdraw r task
  next => cases h

theorem ownRush_event {id : ToteId} (h : (ownRush id s).state? = some v) : Event s (.rush r id) v := by
  unfold ownRush at h
  split at h
  · cases h
  split at h
  · cases h
  split at h
  next => obtain rfl := Option.some.inj h; exact .rush r id
  next => cases h

theorem ownBind_event {pos : Byte} {orderTote : OrderToteId} {cls capacity : Byte}
    (h : (ownBind pos orderTote cls capacity s).state? = some v) : Event s (.bind r pos orderTote cls capacity) v := by
  unfold ownBind at h
  split at h
  next p c hp hc =>
    split at h
    · cases h
    split at h
    · cases h
    next hempty =>
    split at h
    · cases h
    split at h
    · cases h
    next hnew =>
    obtain rfl := Option.some.inj h
    exact .bind r pos orderTote cls capacity p c (by simpa using hempty) (by simpa using hnew)
  next => cases h

theorem ownClose_event {pos : Byte} (h : (ownClose pos s).state? = some v) : Event s (.close r pos) v := by
  unfold ownClose at h
  split at h
  · cases h
  next p hp =>
  split at h
  next hst => obtain rfl := Option.some.inj h; exact .close r pos p (.inl hst)
  next hst => obtain rfl := Option.some.inj h; exact .close r pos p (.inr hst)
  next => cases h

theorem ownMode_event {mode : Byte} (h : (ownMode mode s).state? = some v) : Event s (.mode r mode) v := by
  unfold ownMode at h
  split at h
  · cases h
  next m hm =>
  split at h
  · cases h
  split at h
  · cases h
  next hclear =>
  obtain rfl := Option.some.inj h
  refine .mode r mode m fun hservice hmode => ?_
  by_contra hnot
  exact hclear ⟨hservice, hmode, by rw [Bool.not_eq_true] at hnot; rw [hnot]; rfl⟩

theorem ownClear_event (h : (ownClear s).state? = some v) : Event s (.clear r) v := by
  unfold ownClear at h
  split at h
  case isTrue => cases h
  obtain rfl := Option.some.inj h
  exact .clear r

theorem ownSetItem_event {item : Byte} {value : BitVec 16} (h : (ownSetItem item value s).state? = some v) :
    Event s (.setItem r item value) v := by
  unfold ownSetItem at h
  split at h
  · cases h
  split at h
  · cases h
  split at h
  · cases h
  next n hn =>
  dsimp only at h
  split at h
  · cases h
  next hlock =>
  split at h
  · cases h
  next hbands =>
  cases h
  refine .setItem r item value n hlock ?_ fun hle => by simpa [hle] using hbands
  unfold writableItem at hn
  split at hn
  next hlt => cases hn; exact hlt
  next => cases hn

theorem ownStore_event (h : (ownStore r.tag s).state? = some v) : Event s (.store r) v := by
  unfold ownStore at h
  split at h
  · cases h
  split at h
  case isTrue => cases h
  obtain rfl := Option.some.inj h
  exact .store r

theorem ownLock_event (h : (ownLock s).state? = some v) : Event s (.lock r) v := by
  unfold ownLock at h
  split at h
  · cases h
  split at h
  case isTrue => cases h
  obtain rfl := Option.some.inj h
  exact .lock r

theorem ownToteIn_event {id : ToteId} {slot cls : Byte} {brought : BitVec 24}
    (h : (ownToteIn id slot cls brought s).state? = some v) : Event s (.toteIn r id slot cls brought) v := by
  unfold ownToteIn at h
  split at h
  · cases h
  split at h
  next l c hl hc =>
    split at h
    · cases h
    next hnew =>
    split at h
    · cases h
    next hslot =>
    obtain rfl := Option.some.inj h
    exact .toteIn r id slot cls brought l c (by simpa using hnew) (by simpa using hslot)
  next => cases h

theorem ownToteOut_event {id : ToteId} (h : (ownToteOut id s).state? = some v) : Event s (.toteOut r id) v := by
  unfold ownToteOut at h
  split at h
  · cases h
  next t ht =>
  split at h
  next slot hst => obtain rfl := Option.some.inj h; exact .toteOut r id t slot ht hst
  next => cases h

theorem ownAtWin_event {id : ToteId} {window : Byte} (h : (ownAtWin id window s).state? = some v) :
    Event s (.atWin r id window) v := by
  unfold ownAtWin at h
  split at h
  · cases h
  next w hw =>
  split at h
  · cases h
  split at h
  · cases h
  split at h
  · cases h
  next f hf =>
  split at h
  · cases h
  split at h
  case isTrue => cases h
  obtain rfl := Option.some.inj h
  exact .atWin r id window w f hf

theorem ownGone_event {id : ToteId} (h : (ownGone id s).state? = some v) : Event s (.gone r id) v := by
  unfold ownGone at h
  split at h
  · cases h
  next t ht =>
  split at h
  next slot hst => obtain rfl := Option.some.inj h; exact .goneLane r id t slot ht hst
  next w hst => obtain rfl := Option.some.inj h; exact .goneWindow r id t w ht hst
  next => cases h

theorem ownSwapped_event {pos : Byte} (h : (ownSwapped pos s).state? = some v) : Event s (.swapped r pos) v := by
  unfold ownSwapped at h
  split at h
  · cases h
  next p hp =>
  split at h
  next hst => obtain rfl := Option.some.inj h; exact .swapped r pos p hst
  next => cases h

theorem ownPicked_event {id : TaskId} {count : Byte} (h : (ownPicked id count s).state? = some v) :
    Event s (.picked r id count) v := by
  unfold ownPicked at h
  split at h
  · cases h
  split at h
  · cases h
  next t ht =>
  split at h
  · cases h
  next w hw =>
  split at h
  case isTrue => cases h
  obtain rfl := Option.some.inj h
  exact .picked r id count t w ht hw

theorem ownShort_event {id : TaskId} (h : (ownShort id s).state? = some v) : Event s (.short r id) v := by
  unfold ownShort at h
  split at h
  · cases h
  split at h
  · cases h
  split at h
  next => cases h
  next => obtain rfl := Option.some.inj h; exact .short r id

theorem topAt_eq_some {id : ToteId} {w : Win} (h : s.topAt id = some w) : s.top? w = some id := by
  unfold State.topAt at h
  split at h
  next htop => obtain rfl := Option.some.inj h; exact htop
  next => split at h <;> cases h; assumption

theorem ownToteBad_event {id : ToteId} (h : (ownToteBad id s).state? = some v) : Event s (.toteBad r id) v := by
  unfold ownToteBad at h
  split at h
  · cases h
  split at h
  · cases h
  split at h
  · cases h
  next w hw => obtain rfl := Option.some.inj h; exact .toteBad r id w (topAt_eq_some hw)

theorem ownHold_event {windows : Byte} (h : (ownHold r.link windows s).state? = some v) :
    Event s (.hold r windows) v := by
  unfold ownHold at h
  split at h
  · cases h
  next ws hws => obtain rfl := Option.some.inj h; exact .hold r windows ws

theorem ownResume_event {windows : Byte} (h : (ownResume r.link windows s).state? = some v) :
    Event s (.resume r windows) v := by
  unfold ownResume at h
  split at h
  · cases h
  next ws hws =>
  dsimp only at h
  split at h
  · obtain rfl := Option.some.inj h; exact .resumeBench r windows ws
  · obtain rfl := Option.some.inj h; exact .resume r windows ws

theorem ownWatch_event {entry enabled subject : Byte} {low high : BitVec 32} {combine events windows : Byte}
    (h : (ownWatch r.link entry enabled subject low high combine events windows s).state? = some v) :
    Event s (.watch r entry enabled subject low high combine events windows) v := by
  unfold ownWatch at h
  split at h
  · cases h
  split at h
  next n _ _ =>
    split at h
    · cases h
    next e he =>
    split at h <;> cases h
    exact .watch r entry enabled subject low high combine events windows n e
  next n _ _ =>
    split at h <;> cases h
    exact .watch r entry enabled subject low high combine events windows n _
  next => cases h

end

/-! ### Every command -/

/-- A request that its owner answers without touching the tables. -/
theorem serve_meets_of_tables {k : ReqKind} {r : Req} {owner : State → Answer} {s : State} (c : Instr)
    (howner : ∀ v : State, (owner (s.heard r.link)).state? = some v → v.tables = (s.heard r.link).tables) :
    Meets c s (s.serve k r owner) := by
  have htables : (s.serve k r owner).tables = s.tables := by
    unfold State.serve
    split
    · rfl
    split
    · rfl
    split
    · simp
    split
    next => simp
    next t a b h => rw [State.answerPort_tables]; exact howner t (by rw [h]; rfl)
    next t a h => rw [State.answer_tables]; exact howner t (by rw [h]; rfl)
    next t h => exact howner t (by rw [h]; rfl)
  exact .of_tables htables

/-- The receivers are no part of the tables. -/
@[simp] theorem State.receive_tables (s : State) (l : Link) (q : Receiver) : (s.receive l q).tables = s.tables := by
  unfold State.receive
  split <;> rfl

/-- A command that nothing turns away is an event; any other one changes nothing. -/
theorem Meets.ite {c : Instr} {s t : State} {p : Prop} [Decidable p] (h : p → Meets c s t) :
    Meets c s (if p then t else s) := by
  split
  next hp => exact h hp
  next => exact .of_tables rfl

theorem ownRead_tables {item : Byte} {index : BitVec 32} {s v : State} (h : (ownRead item index s).state? = some v) :
    v = s := by
  unfold ownRead at h
  split at h
  · exact (Option.some.inj h).symm
  · cases h

theorem ownCursor_tables {l : Link} {kind index : Byte} {s v : State} (h : (ownCursor l kind index s).state? = some v) :
    v.tables = s.tables := by
  unfold ownCursor at h
  split at h
  · cases h
  split at h
  · cases h
  obtain rfl := Option.some.inj h
  rfl

/-- Every command makes of the tables what one event of its own makes of them. -/
theorem exec_meets {c : Instr} {s t : State} (h : exec c s = .next t) : Meets c s t := by
  cases c with
  | powerOn pins =>
    obtain rfl := Host.Outcome.next.inj h
    exact (Event.restart _ pins _ ⟨0, 0, 0, 0⟩ _ .loading .idle (by decide) (.inr ⟨⟨pins, rfl⟩, rfl⟩)).meets
  | rstnFall =>
    obtain rfl := Host.Outcome.next.inj h
    split
    · exact (Event.line _ _).meets
    · exact (Event.line _ _).meets
    · exact .of_tables rfl
  | resetQualified cut =>
    obtain rfl := Host.Outcome.next.inj h
    split
    · exact (Event.restart _ s.levels _ s.counters s.free .inReset (.low 0) (by decide) (.inl rfl)).meets
    · exact (Event.restart _ s.levels _ s.counters s.free .inReset (.low 0) (by decide) (.inl rfl)).meets
    · exact .of_tables rfl
  | rstnRise pins =>
    obtain rfl := Host.Outcome.next.inj h
    split
    · exact (Event.restart _ pins _ s.counters s.free .loading .idle (by decide) (.inl rfl)).meets
    · exact .of_tables rfl
    · exact (Event.line _ _).meets
  | settingsLoadEnd => obtain rfl := Host.Outcome.next.inj h; exact .ite fun hp => (Event.load hp).meets
  | frameIgnoredDuringLoad l => obtain rfl := Host.Outcome.next.inj h; exact .of_tables rfl
  | byteStopBitAbort l => obtain rfl := Host.Outcome.next.inj h; exact .of_tables (by simp)
  | frameLengthAbandon l n => obtain rfl := Host.Outcome.next.inj h; exact .ite fun _ => .of_tables (by simp)
  | frameCrcDiscard l content crc => obtain rfl := Host.Outcome.next.inj h; exact .ite fun _ => .of_tables (by simp)
  | formatRefusal r kind body =>
    obtain rfl := Host.Outcome.next.inj h
    refine .ite fun _ => .of_tables ?_
    unfold State.refuseFormat
    dsimp only
    split <;> simp
  | frameSent l => obtain rfl := Host.Outcome.next.inj h; exact .ite fun _ => .of_tables (by simp)
  | post r task tote orderTote sku cls quantity unitVolume crushClass =>
    obtain rfl := Host.Outcome.next.inj h; exact serve_meets fun _ => ownPost_event
  | withdraw r task => obtain rfl := Host.Outcome.next.inj h; exact serve_meets fun _ => ownWithdraw_event
  | rush r id => obtain rfl := Host.Outcome.next.inj h; exact serve_meets fun _ => ownRush_event
  | bind r pos orderTote cls capacity =>
    obtain rfl := Host.Outcome.next.inj h; exact serve_meets fun _ => ownBind_event
  | close r pos => obtain rfl := Host.Outcome.next.inj h; exact serve_meets fun _ => ownClose_event
  | mode r mode => obtain rfl := Host.Outcome.next.inj h; exact serve_meets fun _ => ownMode_event
  | clear r => obtain rfl := Host.Outcome.next.inj h; exact serve_meets fun _ => ownClear_event
  | setItem r item value => obtain rfl := Host.Outcome.next.inj h; exact serve_meets fun _ => ownSetItem_event
  | store r => obtain rfl := Host.Outcome.next.inj h; exact serve_meets fun _ => ownStore_event
  | storeCompletion readBack =>
    obtain rfl := Host.Outcome.next.inj h
    split
    · exact .of_tables rfl
    next job _ => exact ⟨s, _, rfl, .storeCompletion readBack job, by simp⟩
  | lock r => obtain rfl := Host.Outcome.next.inj h; exact serve_meets fun _ => ownLock_event
  | toteIn r id slot cls brought => obtain rfl := Host.Outcome.next.inj h; exact serve_meets fun _ => ownToteIn_event
  | toteOut r id => obtain rfl := Host.Outcome.next.inj h; exact serve_meets fun _ => ownToteOut_event
  | atWin r id window => obtain rfl := Host.Outcome.next.inj h; exact serve_meets fun _ => ownAtWin_event
  | gone r id => obtain rfl := Host.Outcome.next.inj h; exact serve_meets fun _ => ownGone_event
  | swapped r pos => obtain rfl := Host.Outcome.next.inj h; exact serve_meets fun _ => ownSwapped_event
  | picked r id count => obtain rfl := Host.Outcome.next.inj h; exact serve_meets fun _ => ownPicked_event
  | short r id => obtain rfl := Host.Outcome.next.inj h; exact serve_meets fun _ => ownShort_event
  | toteBad r id => obtain rfl := Host.Outcome.next.inj h; exact serve_meets fun _ => ownToteBad_event
  | hold r windows => obtain rfl := Host.Outcome.next.inj h; exact serve_meets fun _ => ownHold_event
  | resume r windows => obtain rfl := Host.Outcome.next.inj h; exact serve_meets fun _ => ownResume_event
  | read r item index =>
    obtain rfl := Host.Outcome.next.inj h
    exact serve_meets_of_tables _ fun _ hv => congrArg State.tables (ownRead_tables hv)
  | list r =>
    obtain rfl := Host.Outcome.next.inj h
    exact serve_meets_of_tables _ fun _ hv => by obtain rfl := Option.some.inj hv; rfl
  | cursor r kind index =>
    obtain rfl := Host.Outcome.next.inj h
    exact serve_meets_of_tables _ fun _ => ownCursor_tables
  | watch r entry enabled subject low high combine events windows =>
    obtain rfl := Host.Outcome.next.inj h; exact serve_meets fun _ => ownWatch_event
  | accrualIntervalExpiry => obtain rfl := Host.Outcome.next.inj h; exact .ite fun _ => Event.accrualInterval.meets
  | accrualEvent reading => obtain rfl := Host.Outcome.next.inj h; exact .ite fun _ => (Event.accrual reading).meets_conclude
  | orphanExpiry id => obtain rfl := Host.Outcome.next.inj h; exact .ite fun h => (Event.orphan id h).meets_conclude
  | laneReturnTimeout id =>
    obtain rfl := Host.Outcome.next.inj h
    split
    · exact .of_tables rfl
    next t ht =>
      split
      next slot _ hst _ => exact (Event.laneReturn id t slot ht hst).meets_conclude
      next => exact .of_tables rfl
  | presRise w => obtain rfl := Host.Outcome.next.inj h; exact .ite fun _ => (Event.presRise w).meets_conclude
  | presFall w => obtain rfl := Host.Outcome.next.inj h; exact .ite fun _ => (Event.presFall w).meets_conclude
  | settleExpiry w => obtain rfl := Host.Outcome.next.inj h; exact .ite fun _ => (Event.settleExpiry w).meets_conclude
  | fetchTimeout w =>
    obtain rfl := Host.Outcome.next.inj h
    split
    · exact .of_tables rfl
    next f hf => exact .ite fun _ => (Event.fetchTimeout w f hf).meets_conclude
  | windowReturnTimeout w =>
    obtain rfl := Host.Outcome.next.inj h
    split
    · exact .of_tables rfl
    next q hq => exact (Event.windowReturn w q hq).meets_conclude
  | blockTimerExpiry w =>
    obtain rfl := Host.Outcome.next.inj h
    refine .ite fun hb => ?_
    split
    next hlit => exact (Event.blockStands w hb hlit).meets
    next hlit => exact (Event.blockEnds w (by simpa using hlit)).meets_conclude
  | swapTimeout p => obtain rfl := Host.Outcome.next.inj h; exact .ite fun hp => (Event.swapTimeout p hp.1).meets_conclude
  | pposFall p => obtain rfl := Host.Outcome.next.inj h; exact .ite fun _ => (Event.pposFall p).meets_conclude
  | pposRise p => obtain rfl := Host.Outcome.next.inj h; exact .ite fun _ => (Event.pposRise p).meets_conclude
  | btnPress p =>
    obtain rfl := Host.Outcome.next.inj h
    refine .ite fun _ => ?_
    split
    · exact (Event.press p).meets_conclude
    · exact (Event.button _ p true (s.pos p).armed).meets
  | btnRelease p => obtain rfl := Host.Outcome.next.inj h; exact .ite fun _ => (Event.button _ p false true).meets
  | guardExpiry w => obtain rfl := Host.Outcome.next.inj h; exact .ite fun _ => (Event.guardEnds w).meets
  | confirmPeriodExpiry w =>
    obtain rfl := Host.Outcome.next.inj h
    refine .ite fun _ => ?_
    split
    next t ht => exact (Event.overdue w t ht).meets_conclude
    next => exact .of_tables rfl
  | awaitExpiry task => obtain rfl := Host.Outcome.next.inj h; exact .ite fun h => (Event.await task h).meets_conclude
  | holdLineAsserted => obtain rfl := Host.Outcome.next.inj h; exact .ite fun _ => (Event.holdLine _ true).meets_conclude
  | holdLineReleased => obtain rfl := Host.Outcome.next.inj h; exact .ite fun _ => (Event.holdLine _ false).meets_conclude
  | lossOfSupply cut =>
    obtain rfl := Host.Outcome.next.inj h
    split
    · exact .of_tables rfl
    · exact (Event.restart _ s.levels _ s.counters s.free .off .idle (by decide) (.inl rfl)).meets
  | startByte l => obtain rfl := Host.Outcome.next.inj h; exact .of_tables (by simp)

/-! ### A step -/

/-- What an empty queue does: nothing, the qualification of RSTn counts, one expiry is queued, or a millisecond passes. -/
theorem State.tick_cases (s : State) :
    (∃ (line : RstLine) (pending : List Instr) (free : Nat),
      s.tick = { s with rstLine := line, pending := pending, free := free }) ∨ s.tick = s.countTimers := by
  unfold State.tick
  split
  · exact .inl ⟨s.rstLine, s.pending, s.free, rfl⟩
  · exact .inl ⟨s.rstLine, s.pending, s.free, rfl⟩
  · split
    · exact .inl ⟨_, s.pending, s.free, rfl⟩
    · exact .inl ⟨s.rstLine, _, _, rfl⟩
  · split
    · exact .inr rfl
    · exact .inl ⟨s.rstLine, _, _, rfl⟩
    · exact .inl ⟨s.rstLine, _, _, rfl⟩

/-- What holds of the tables alone is kept by every step when every event and the passing of a millisecond keep it. -/
theorem step_keeps {P : State → Prop} (htables : ∀ s t : State, t.tables = s.tables → P s → P t)
    (hqueue : ∀ (s : State) (line : RstLine) (pending : List Instr) (free : Nat), P s →
      P { s with rstLine := line, pending := pending, free := free })
    (htick : ∀ s : State, P s → P s.countTimers) (hevent : ∀ (s : State) (c : Instr) (t : State), Event s c t → P s → P t)
    {s t : State} (hstep : step s = .next t) (hs : P s) : P t := by
  unfold step at hstep
  split at hstep
  next =>
    obtain rfl := Host.Outcome.next.inj hstep
    obtain ⟨line, pending, free, h⟩ | h := s.tick_cases <;> rw [h]
    · exact hqueue s _ _ _ hs
    · exact htick s hs
  next c rest hpending =>
    obtain ⟨u, v, hu, hv, ht⟩ := exec_meets hstep
    exact htables _ _ ht (hevent u c v hv (htables _ _ hu (hqueue s s.rstLine rest s.free hs)))

end Sys2Proof.Machine

/-! PROOFS. What the events leave of the settings: frames of the acts that are not the windows' work, the words that a
command can write, and the statements O60 and O17. -/

namespace Sys2Proof.Machine

/-! ### Frames of the owners' own acts -/

/-- An act that keeps the base keeps the settings. -/
theorem State.settings_of_base {s t : State} (h : t.base = s.base) : t.settings = s.settings :=
  show t.base.settings = s.base.settings from congrArg _ h

@[simp] theorem endExpired_base (was : Option (Win × TaskId)) (id : TaskId) (s : State) :
    (s.endExpired was id).base = s.base := endWith_base swapOut_base _ _ _ _ _

/-- Steps 1 to 3 of R126 for the task that was lit on an expired tote (log entry 16). -/
def State.unlightWas (was : Option (Win × TaskId)) (s : State) : State :=
  match was with
  | some (w, _) => s.unlightFirst w true
  | none => s

/-- The owners' first act at an expiry (R50): the tasks that are not WAITING fail. -/
def State.failExpired (t : Tote) (s : State) : State :=
  (s.unlightWas (s.litTop t.id)).endAll (State.endExpired (s.litTop t.id))
    (ascendingIds ((s.tasksOf t.id).filter fun x => x.state != .waiting))

/-- The owners' second act at an expiry (R9, R99): the tote leaves the lane or is FINISHED at the top. -/
def State.leaveExpired (t : Tote) (s : State) : State :=
  match t.state with
  | .inLane _ => s.laneSendBack t.id
  | .onLift w => if s.top? w = some t.id then s.finishAndSend w else s
  | _ => s

theorem State.ownersExpire_eq (t : Tote) (s : State) : s.ownersExpire t = (s.failExpired t).leaveExpired t := rfl

@[simp] theorem unlightWas_base (was : Option (Win × TaskId)) (s : State) : (s.unlightWas was).base = s.base := by
  unfold State.unlightWas
  split <;> simp

@[simp] theorem failExpired_base (t : Tote) (s : State) : (s.failExpired t).base = s.base :=
  (endAll_base (endExpired_base _) _ _).trans (unlightWas_base _ _)

@[simp] theorem leaveExpired_base (t : Tote) (s : State) : (s.leaveExpired t).base = s.base := by
  unfold State.leaveExpired
  split
  · simp
  · split <;> simp
  · rfl

@[simp] theorem ownersExpire_base (t : Tote) (s : State) : (s.ownersExpire t).base = s.base := by
  rw [State.ownersExpire_eq, leaveExpired_base, failExpired_base]

@[simp] theorem expire_base (t : Tote) (limit : Nat) (s : State) : (s.expire t limit).base = s.base := by
  simp [State.expire, counted_base, State.noteBoth]

@[simp] theorem warn_base (t : Tote) (limit : Nat) (s : State) : (s.warn t limit).base = s.base := by
  simp [State.warn]

@[simp] theorem thresholdTest_base (s : State) (id : ToteId) : (s.thresholdTest id).base = s.base := by
  unfold State.thresholdTest
  split
  · rfl
  split
  · rfl
  dsimp only
  split <;> split <;> simp

@[simp] theorem chargeTote_base (s : State) (id : ToteId) : (s.chargeTote id).base = s.base := by
  unfold State.chargeTote
  split
  · rfl
  split <;> simp

@[simp] theorem accrualPass_base (s : State) : s.accrualPass.base = s.base := foldl_base chargeTote_base _ s

@[simp] theorem settleSensor_settings (s : State) (reading : Option (BitVec 16)) :
    (s.settleSensor reading).settings = s.settings := by
  unfold State.settleSensor
  split
  · dsimp only
    split <;> rfl
  · dsimp only
    split <;> rfl
  · dsimp only
    split <;> rfl

@[simp] theorem swapOutList_base (ps : List Pos) (s : State) : (s.swapOutList ps).base = s.base := by
  have hswaps : ∀ (qs : List Pos) (u : State), (qs.foldl (fun s p => s.swapOut p) u).base = u.base :=
    foldl_base fun s p => swapOut_base p s
  unfold State.swapOutList
  split
  · split <;> rw [hswaps] <;> rfl
  · exact hswaps _ _

@[simp] theorem clearStep7_base (swaps : List Pos) (s : State) : (s.clearStep7 swaps).base = s.base := by
  unfold State.clearStep7
  split
  · simp
  · dsimp only
    split
    · rw [State.swapBetween, sendIfDue_base, swapOutList_base, sendIfDue_base]
      exact (finishTest_base _ _).trans (finishTest_base _ _)
    · rw [eitherOrder_base (fun s => swapOutList_base _ s) sendBoth_base]
      exact (finishTest_base _ _).trans (finishTest_base _ _)

theorem clearModeHolds_settings (s : State) : s.clearModeHolds.settings = s.settings :=
  State.settings_of_base (t := s.clearModeHolds) (s := { s.noteBoth .benchCleared with mode := .drain })
    ((sendBoth_base _).trans (changeHolds_base _ _ _))

theorem clearBench_settings (s : State) : s.clearBench.settings = s.settings :=
  (State.settings_of_base (clearStep7_base _ _)).trans (clearModeHolds_settings _)

@[simp] theorem dropFaults_base (s : State) (ws : WinSet) : (s.dropFaults ws).base = s.base := by
  have one : ∀ (w : Win) (s : State), State.base
      (if ws.has w then s.updWin w fun x => { x with holds := { x.holds with fault := false }, faultCause := none } else s) =
        s.base := by
    intro w s; split <;> simp
  unfold State.dropFaults
  dsimp only
  rw [one, one]

@[simp] theorem classCheckOrder_base (s : State) (b : Binding) : (s.classCheckOrder b).base = s.base := endTasks_base _ _ _

@[simp] theorem bindRecord_base (s : State) (p : Pos) (b : Binding) : (s.bindRecord p b).base = s.base := rfl

@[simp] theorem postTask_base (s : State) (t : Task) : (s.postTask t).base = s.base := rfl

@[simp] theorem countShort_base (s : State) : s.countShort.base = s.base := rfl

@[simp] theorem arrive_base (s : State) (t : Tote) (l : Slot) : (s.arrive t l).base = s.base := by
  simp only [State.arrive, startOrphan_base, thresholdTest_base, State.tasksToReady_base, State.classCheckTote,
    endTasks_base]
  rfl

@[simp] theorem condemn_base (s : State) (w : Win) (id : ToteId) : (s.condemn w id).base = s.base := by
  simp [State.condemn]

@[simp] theorem seeAtWin_base (s : State) (w : Win) (f : Fetch) : (s.seeAtWin w f).base = s.base := by
  unfold State.seeAtWin
  split <;> simp

@[simp] theorem goneFromLane_base (s : State) (t : Tote) (l : Slot) : (s.goneFromLane t l).base = s.base := by
  simp [State.goneFromLane]

@[simp] theorem goneFromWindow_base (s : State) (t : Tote) (w : Win) : (s.goneFromWindow t w).base = s.base := by
  simp [State.goneFromWindow]

@[simp] theorem presRises_base (s : State) (w : Win) : (s.presRises w).base = s.base := by
  unfold State.presRises
  split
  · rfl
  · dsimp only
    split <;> simp

@[simp] theorem presFalls_base (s : State) (w : Win) : (s.presFalls w).base = s.base := by
  unfold State.presFalls
  split
  · rfl
  · dsimp only
    split <;> simp

@[simp] theorem loseFetch_base (s : State) (w : Win) (f : Fetch) : (s.loseFetch w f).base = s.base := by
  unfold State.loseFetch
  dsimp only
  split <;> simp

@[simp] theorem loseReturn_base (s : State) (w : Win) (id : ToteId) : (s.loseReturn w id).base = s.base := by
  simp [State.loseReturn]

@[simp] theorem noteUnswapped_base (s : State) (p : Pos) : (s.noteUnswapped p).base = s.base := by
  unfold State.noteUnswapped
  split <;> simp

@[simp] theorem pposFalls_base (s : State) (p : Pos) : (s.pposFalls p).base = s.base := by
  unfold State.pposFalls
  dsimp only
  split
  · split <;> simp
  · split <;> simp
  · simp

@[simp] theorem pposRises_base (s : State) (p : Pos) : (s.pposRises p).base = s.base := by
  unfold State.pposRises
  dsimp only
  split <;> simp

@[simp] theorem press_base (s : State) (p : Pos) : (s.press p).base = s.base := by
  unfold State.press
  split
  · split <;> simp
  · rfl

@[simp] theorem overdue_base (s : State) (w : Win) (t : Task) : (s.overdue w t).base = s.base := by
  simp [State.overdue]

theorem setMode_settings (s : State) (m : Mode) : (s.setMode m).settings = s.settings := by
  unfold State.setMode
  split
  · rfl
  split
  · exact State.settings_of_base (s := { s with mode := m }) (settle_base _)
  · rfl

theorem setHoldLine_settings (s : State) (b : Bool) : (s.setHoldLine b).settings = s.settings :=
  State.settings_of_base (s := { s with holdLine := b }) ((settle_base _).trans (changeHolds_base _ _ _))

/-! ### The words of the working copy -/

/-- What an event can make of the working copy: nothing, the defaults of a start, the words of a load, the word of a
SETITEM or the COLD_LOCK of a LOCK (R145, R154, R156, R161). -/
theorem Event.work_cases {s t : State} {c : Instr} (h : Event s c t) :
    t.settings.work = s.settings.work ∨ (t.phase ≠ .running ∧ t.settings.work = defaultWords) ∨
    (s.phase = .loading ∧ t.settings.work = loadedWords s.settings.image s.settings.serviceSampled) ∨
    (∃ (n : Fin 29) (value : BitVec 16), ¬ (n.val ≤ 16 ∧ s.setting 28 = 1) ∧ n.val < 28 ∧
      (n.val ≤ 2 → bandsRise (s.writeItem n (clampItem n (requestValue n value))).settings.work = true) ∧
      t = s.writeItem n (clampItem n (requestValue n value))) ∨
    t = s.writeItem 28 1 := by
  have of_base : ∀ {t : State}, t.base = s.base → t.settings.work = s.settings.work := fun h =>
    congrArg SettingsStore.work (State.settings_of_base h)
  cases h with
  | restart _ pins image counters free phase line hphase => exact .inr (.inl ⟨hphase, rfl⟩)
  | load hphase => exact .inr (.inr (.inl ⟨hphase, rfl⟩))
  | setItem r item value n hlock hn hbands => exact .inr (.inr (.inr (.inl ⟨n, value, hlock, hn, hbands, rfl⟩)))
  | lock r => exact .inr (.inr (.inr (.inr rfl)))
  | nothing | line | store | storeCompletion | watch | accrualInterval => exact .inl rfl
  | mode r mode m => exact .inl (congrArg _ (setMode_settings s m))
  | holdLine c b => exact .inl (congrArg _ (setHoldLine_settings s b))
  | clear r => exact .inl (congrArg _ ((State.settings_of_base (settle_base _)).trans (clearBench_settings s)))
  | accrual reading =>
    have hpass := State.settings_of_base ((settle_base _).trans
      (accrualPass_base (State.settleSensor { s with exposure := { s.exposure with readInFlight := false } } reading)))
    exact .inl (congrArg _ (hpass.trans (settleSensor_settings _ _)))
  | _ => exact .inl (of_base (by simp))

end Sys2Proof.Machine

/-! PROOFS. The words of the settings (R153, R154): a value in range and its word, and the statements O15, O60 and O17. -/

namespace Sys2Proof.Machine

/-! ### A value in range and its word (R153) -/

/-- The signed temperatures fit their words. -/
theorem itemRow_band {n : Fin 29} (h : n.val ≤ 2) : (itemRow n).lo = -640 ∧ (itemRow n).hi = 1360 := by
  decide +revert

/-- Every row but those of the bands and the trim holds numbers that a word shows as they stand. -/
theorem itemRow_unsigned {n : Fin 29} (hband : ¬ n.val ≤ 2) (htrim : n.val ≠ 4) :
    0 ≤ (itemRow n).lo ∧ (itemRow n).hi ≤ 65535 := by
  decide +revert

/-- A number from 0 to 65,535 is its own word. -/
theorem toNat_ofInt_word {v : Int} (hlo : 0 ≤ v) (hhi : v ≤ 65535) : ((BitVec.ofInt 16 v).toNat : Int) = v := by
  rw [BitVec.toNat_ofInt]
  omega

/-- The word of a trim shows its sign above its magnitude (R153, item 4). -/
theorem itemWord_trim {v : Int} (hlo : -255 ≤ v) (hhi : v ≤ 255) :
    (itemWord 4 v).toNat = if v < 0 then v.natAbs + 256 else v.natAbs := by
  simp only [itemWord]
  split
  · split
    · rw [BitVec.toNat_ofNat]
      omega
    · rw [BitVec.toNat_ofInt]
      omega
  next h => exact absurd rfl h

/-- The word of a value in range stands for that value (R153). -/
theorem itemValue_itemWord {n : Fin 29} {v : Int} (hlo : (itemRow n).lo ≤ v) (hhi : v ≤ (itemRow n).hi) :
    itemValue n (itemWord n v) = v := by
  by_cases hband : n.val ≤ 2
  · obtain ⟨h1, h2⟩ := itemRow_band hband
    have htrim : n.val ≠ 4 := by omega
    rw [itemValue, if_pos hband, itemWord, if_neg htrim, BitVec.toInt_ofInt_eq_self] <;> omega
  by_cases htrim : n.val = 4
  · obtain rfl : n = 4 := Fin.ext htrim
    have hlo' : -255 ≤ v := hlo
    have hhi' : v ≤ 255 := hhi
    have hword := itemWord_trim hlo' hhi'
    rw [itemValue, if_neg hband, if_pos htrim, hword]
    split <;> split <;> omega
  · obtain ⟨h1, h2⟩ := itemRow_unsigned hband htrim
    rw [itemValue, if_neg hband, if_neg htrim, itemWord, if_neg htrim]
    exact toNat_ofInt_word (h1.trans hlo) (hhi.trans h2)

/-- The word of a value in range passes the range test of a load (R161). -/
theorem wordInRange_itemWord {n : Fin 29} {v : Int} (hlo : (itemRow n).lo ≤ v) (hhi : v ≤ (itemRow n).hi) :
    wordInRange n (itemWord n v) = true := by
  unfold wordInRange
  split
  next htrim =>
    obtain rfl : n = 4 := Fin.ext htrim
    have hlo' : -255 ≤ v := hlo
    have hhi' : v ≤ 255 := hhi
    rw [itemWord_trim hlo' hhi', decide_eq_true_eq]
    split <;> omega
  next => exact decide_eq_true ⟨by rwa [itemValue_itemWord hlo hhi], by rwa [itemValue_itemWord hlo hhi]⟩

/-- A written item reads as its new word, every other item as before (R154). -/
theorem State.item_writeItem (s : State) (n m : Fin 29) (v : Int) :
    (s.writeItem n v).item m = if m = n then itemWord n v else s.item m := by
  by_cases h : m = n
  · subst h; simp [State.item, State.writeItem, State.updSettings]
  · have hval : ¬ n.val = m.val := fun e => h (Fin.ext e.symm)
    simp [State.item, State.writeItem, State.updSettings, h, hval]

/-- Settles O15: the rows one by one, and for a value between the bounds of its row the three readings of a word. -/
theorem settingWordsRoundTrip : Obligations.SettingWordsRoundTrip := by
  refine ⟨by rfl, fun n v hlo hhi => ⟨itemValue_itemWord hlo hhi, wordInRange_itemWord hlo hhi, ?_⟩⟩
  intro s m
  rw [State.signedSetting, State.item_writeItem]
  split
  next h => rw [h, itemValue_itemWord hlo hhi]
  next => rfl

/-! ### Well-formed words (R153, R161) -/

/-- Words are well formed when each is in its range and the bands rise (R153, R161). -/
theorem wordsWf_iff (ws : Vector SWord 29) :
    wordsWf ws = true ↔ (∀ n : Fin 29, wordInRange n ws[n] = true) ∧ bandsRise ws = true := by
  rw [wordsWf, Bool.and_eq_true, List.all_eq_true]
  exact and_congr_left fun _ => ⟨fun h n => h n (mem_allItems n), fun h n _ => h n⟩

/-- A word in range at an item past the bands keeps words well formed. -/
theorem wordsWf_set {ws : Vector SWord 29} {n : Fin 29} {w : SWord} (hws : wordsWf ws = true)
    (hw : wordInRange n w = true) (hbands : n.val ≤ 2 → bandsRise (ws.set n w) = true) :
    wordsWf (ws.set n w) = true := by
  obtain ⟨hrange, hrise⟩ := (wordsWf_iff ws).1 hws
  refine (wordsWf_iff _).2 ⟨fun m => ?_, ?_⟩
  · by_cases hm : m = n
    · subst hm; simpa using hw
    · have hval : ¬ n.val = m.val := fun e => hm (Fin.ext e.symm)
      simpa [Vector.getElem_set, hval] using hrange m
  · by_cases hn : n.val ≤ 2
    · exact hbands hn
    · have h0 : n.val ≠ 0 := by omega
      have h1 : n.val ≠ 1 := by omega
      have h2 : n.val ≠ 2 := by omega
      simpa [bandsRise, Vector.getElem_set, h0, h1, h2] using hrise

/-! ### The tests of a load (R161) -/

/-- Without the complete mark a load fails its first test. -/
theorem loadTest_noMark {im : Vector SWord 31} (hmark : im[30] ≠ 1) : loadTest im = .noMark := if_pos hmark

/-- With the mark and a wrong check word a load fails its second test. -/
theorem loadTest_badCheck {im : Vector SWord 31} (hmark : im[30] = 1) (hcheck : im[29] ≠ checkWord (imageItems im)) :
    loadTest im = .badCheck := (if_neg (not_not.2 hmark)).trans (if_pos hcheck)

/-- With mark and check word the values decide. -/
theorem loadTest_checked {im : Vector SWord 31} (hmark : im[30] = 1) (hcheck : im[29] = checkWord (imageItems im)) :
    loadTest im = if wordsWf (imageItems im) = true then .loaded else .badValue :=
  (if_neg (not_not.2 hmark)).trans (if_neg (not_not.2 hcheck))

/-- A load that passes has the mark, the check word and well-formed words. -/
theorem loadTest_eq_loaded_iff (im : Vector SWord 31) :
    loadTest im = .loaded ↔ im[30] = 1 ∧ im[29] = checkWord (imageItems im) ∧ wordsWf (imageItems im) = true := by
  by_cases hmark : im[30] = 1
  case neg => exact iff_of_false (by rw [loadTest_noMark hmark]; decide) fun h => hmark h.1
  by_cases hcheck : im[29] = checkWord (imageItems im)
  case neg => exact iff_of_false (by rw [loadTest_badCheck hmark hcheck]; decide) fun h => hcheck h.2.1
  by_cases hwords : wordsWf (imageItems im) = true
  · simp [loadTest_checked hmark hcheck, hmark, hcheck, hwords]
  · simp [loadTest_checked hmark hcheck, hwords]

/-- The words of a load are well formed: the image's have passed its tests, and so do the defaults (R161). -/
theorem loadedWords_wf (image : Vector SWord 31) (service : Bool) : wordsWf (loadedWords image service) = true := by
  have hbase : wordsWf (if loadTest image = .loaded then imageItems image else defaultWords) = true := by
    split
    next hloaded => exact ((loadTest_eq_loaded_iff image).1 hloaded).2.2
    next => decide
  unfold loadedWords
  dsimp only
  split
  · exact wordsWf_set (n := 28) (w := 0) hbase (by decide) fun h => absurd h (by decide)
  · exact hbase

/-- A clamped value lies between the bounds of its row (R154). -/
theorem clampItem_bounds (n : Fin 29) (v : Int) : (itemRow n).lo ≤ clampItem n v ∧ clampItem n v ≤ (itemRow n).hi := by
  have hrow : (itemRow n).lo ≤ (itemRow n).hi := by decide +revert
  unfold clampItem
  split
  · omega
  split <;> omega

/-- States of the same tables have the same working copy. -/
theorem State.work_of_tables {s t : State} (h : t.tables = s.tables) : t.settings.work = s.settings.work :=
  show t.tables.settings.work = s.tables.settings.work from congrArg (fun u : State => u.settings.work) h

/-- Settles O60: the defaults and the words of a load are well formed, a SETITEM writes a clamped value where the bands
still rise, and a LOCK writes the bit of COLD_LOCK. -/
theorem stepKeepsSettings : Obligations.StepKeepsSettings := by
  intro s t hstep hs
  refine step_keeps (P := fun s => s.settingsWf = true) ?_ (fun _ _ _ _ h => h) (fun _ h => h) ?_ hstep hs
  · intro s t htables h
    rwa [State.settingsWf, State.work_of_tables htables]
  · intro s c t hevent hwf
    obtain h | ⟨_, h⟩ | ⟨_, h⟩ | ⟨n, value, _, _, hbands, rfl⟩ | rfl := hevent.work_cases
    · rwa [State.settingsWf, h]
    · rw [State.settingsWf, h]; decide
    · rw [State.settingsWf, h]; exact loadedWords_wf _ _
    · obtain ⟨hlo, hhi⟩ := clampItem_bounds n (requestValue n value)
      exact wordsWf_set hwf (wordInRange_itemWord hlo hhi) hbands
    · exact wordsWf_set (n := 28) hwf (by decide) fun h => absurd h (by decide)

/-! ### COLD_LOCK (R154, R156) -/

/-- Settles O17: the working copy changes by a start or a load, at which the part does not run on, by a SETITEM of an item
that is not locked, and by a LOCK. -/
theorem coldLockStays : Obligations.ColdLockStays := by
  intro s t hstep ⟨hrun, hrunNext, hlock⟩
  suffices hwork : t.settings.work = s.settings.work ∨ (∃ (n : Fin 29) (v : Int), 16 < n.val ∧ n.val < 28 ∧
      t.settings.work = (s.writeItem n v).settings.work) ∨ t.settings.work = (s.writeItem 28 1).settings.work by
    have hitem : ∀ n, t.item n = t.settings.work[n] := fun _ => rfl
    obtain h | ⟨m, v, hlo, hhi, h⟩ | h := hwork <;> simp only [hitem, h]
    · exact ⟨hlock, fun _ _ => rfl⟩
    · have hkept : ∀ n : Fin 29, n ≠ m → (s.writeItem m v).item n = s.item n := fun n hn => by
        rw [State.item_writeItem, if_neg hn]
      exact ⟨(hkept 28 fun h => by subst h; exact absurd hhi (by decide)).trans hlock,
        fun n hn => hkept n fun h => by subst h; omega⟩
    · have hwritten : ∀ n : Fin 29, (s.writeItem 28 1).item n = if n = 28 then itemWord 28 1 else s.item n :=
        fun n => State.item_writeItem s 28 n 1
      refine ⟨(hwritten 28).trans ((if_pos rfl).trans (by decide)), fun n hn => (hwritten n).trans (if_neg fun h => ?_)⟩
      subst h
      exact absurd hn (by decide)
  unfold step at hstep
  split at hstep
  next =>
    obtain rfl := Host.Outcome.next.inj hstep
    obtain ⟨_, _, _, h⟩ | h := s.tick_cases <;> rw [h] <;> exact .inl rfl
  next c rest _ =>
    obtain ⟨u, v, hu, hv, ht⟩ := exec_meets hstep
    have hworkU : u.settings.work = s.settings.work := State.work_of_tables (s := { s with pending := rest }) hu
    have hphaseU : u.tables.phase = s.phase := by rw [hu]; rfl
    have hphaseT : t.tables.phase = v.tables.phase := congrArg State.phase ht
    rw [State.work_of_tables ht]
    obtain h | ⟨h, _⟩ | ⟨h, _⟩ | ⟨n, value, hlocked, hn, _, rfl⟩ | rfl := hv.work_cases
    · exact .inl (h.trans hworkU)
    · exact absurd (hphaseT.symm.trans hrunNext) h
    · exact absurd (hphaseU.symm.trans h) (by rw [hrun]; decide)
    · refine .inr (.inl ⟨n, clampItem n (requestValue n value), ?_, hn,
        congrArg (fun ws : Vector SWord 29 => ws.set n (itemWord n (clampItem n (requestValue n value)))) hworkU⟩)
      by_contra hle
      have hset : u.setting 28 = 1 := by rw [State.setting, State.item, hworkU]; exact congrArg BitVec.toNat hlock
      exact hlocked ⟨by omega, hset⟩
    · exact .inr (.inr (congrArg (fun ws : Vector SWord 29 => ws.set 28 (itemWord 28 1)) hworkU))

end Sys2Proof.Machine

/-! PROOFS. What the events leave of the counters and of the tote records' numbers, classes, accounts and flags, and the
statements O18 and O25. -/

namespace Sys2Proof.Machine

/-! ### Acts that leave counters and accounts alone -/

/-- The counters, with the numbers, ids, classes, accounts and flags of the tote records. -/
def State.ledger (s : State) : Counters × List (Nat × ToteId × TempClass × Nat × Nat × Bool × Bool) :=
  (s.counters, s.charged)

/-- Counters and records kept, the ledger is kept. -/
theorem ledger_eq {s t : State} (hcount : t.counters = s.counters) (hcharged : t.charged = s.charged) :
    t.ledger = s.ledger := Prod.ext hcount hcharged

theorem ledger_counters {s t : State} (h : t.ledger = s.ledger) : t.counters = s.counters := congrArg Prod.fst h

theorem ledger_charged {s t : State} (h : t.ledger = s.ledger) : t.charged = s.charged := congrArg Prod.snd h

@[simp] theorem settle_ledger (s : State) : s.settle.ledger = s.ledger := ledger_eq (by simp) (by simp)

@[simp] theorem changeHolds_ledger (ws : WinSet) (f : Holds → Holds) (s : State) :
    (s.changeHolds ws f).ledger = s.ledger := ledger_eq (by simp) (by simp)

theorem endTask_ledger (o : TaskOutcome) (id : TaskId) (s : State) : (s.endTask o id).ledger = s.ledger :=
  ledger_eq (by simp) (by simp)

theorem endTasks_ledger (o : TaskOutcome) (ids : List TaskId) (s : State) :
    (s.endAll (State.endTask o) ids).ledger = s.ledger := ledger_eq (by simp) (by simp)

@[simp] theorem unlightWas_ledger (was : Option (Win × TaskId)) (s : State) : (s.unlightWas was).ledger = s.ledger := by
  unfold State.unlightWas
  split
  · exact ledger_eq (by simp) (by simp)
  · rfl

@[simp] theorem failExpired_ledger (t : Tote) (s : State) : (s.failExpired t).ledger = s.ledger := by
  have hcount : ∀ (was : Option (Win × TaskId)) (id : TaskId) (u : State), (u.endExpired was id).counters = u.counters :=
    fun _ _ _ => endWith_counters swapOut_counters _ _ _ _ _
  have hcharged : ∀ (was : Option (Win × TaskId)) (id : TaskId) (u : State), (u.endExpired was id).charged = u.charged :=
    fun _ _ _ => endWith_charged swapOut_charged _ _ _ _ _
  exact (ledger_eq (endAll_counters (hcount _) _ _) (endAll_charged (hcharged _) _ _)).trans (unlightWas_ledger _ _)

@[simp] theorem leaveExpired_ledger (t : Tote) (s : State) : (s.leaveExpired t).ledger = s.ledger := by
  unfold State.leaveExpired
  split
  · exact ledger_eq (by simp) (by simp)
  · split
    · exact ledger_eq (by simp) (by simp)
    · rfl
  · rfl

@[simp] theorem ownersExpire_ledger (t : Tote) (s : State) : (s.ownersExpire t).ledger = s.ledger := by
  rw [State.ownersExpire_eq, leaveExpired_ledger, failExpired_ledger]

@[simp] theorem settleSensor_ledger (s : State) (reading : Option (BitVec 16)) :
    (s.settleSensor reading).ledger = s.ledger := by
  unfold State.settleSensor
  split
  · dsimp only
    split <;> rfl
  · dsimp only
    split <;> rfl
  · dsimp only
    split <;> rfl

@[simp] theorem swapOutList_ledger (ps : List Pos) (s : State) : (s.swapOutList ps).ledger = s.ledger := by
  have hswaps : ∀ (qs : List Pos) (u : State), (qs.foldl (fun s p => s.swapOut p) u).ledger = u.ledger := fun qs u =>
    ledger_eq (foldl_counters (fun s p => swapOut_counters p s) qs u) (foldl_charged (fun s p => swapOut_charged p s) qs u)
  unfold State.swapOutList
  split
  · split <;> rw [hswaps] <;> rfl
  · exact hswaps _ _

@[simp] theorem sendIfDue_ledger (w : Win) (s : State) : (s.sendIfDue w).ledger = s.ledger :=
  ledger_eq (by simp) (by simp)

@[simp] theorem sendBoth_ledger (s : State) : s.sendBoth.ledger = s.ledger := ledger_eq (by simp) (by simp)

@[simp] theorem finishTest_ledger (s : State) (w : Win) : (s.finishTest w).ledger = s.ledger :=
  ledger_eq (by simp) (by simp)

@[simp] theorem clearStep7_ledger (swaps : List Pos) (s : State) : (s.clearStep7 swaps).ledger = s.ledger := by
  unfold State.clearStep7
  split
  · exact ledger_eq (by simp) (by simp)
  · dsimp only
    split
    · rw [State.swapBetween, sendIfDue_ledger, swapOutList_ledger, sendIfDue_ledger]
      exact (finishTest_ledger _ _).trans (finishTest_ledger _ _)
    · have hcount := eitherOrder_counters (fun s => ledger_counters (swapOutList_ledger swaps s)) sendBoth_counters
      have hcharged := eitherOrder_charged (fun s => ledger_charged (swapOutList_ledger swaps s)) sendBoth_charged
      exact (ledger_eq (hcount _) (hcharged _)).trans ((finishTest_ledger _ _).trans (finishTest_ledger _ _))

theorem clearOrphans_ledger (s : State) (before : List Task) : (s.clearOrphans before).ledger = s.ledger := by
  refine ledger_eq rfl ?_
  simp only [State.charged, State.clearOrphans, List.map_map]
  refine List.map_congr_left fun t _ => ?_
  simp only [Function.comp_apply]
  split
  · split <;> rfl
  · rfl

theorem clearModeHolds_ledger (s : State) : s.clearModeHolds.ledger = s.ledger :=
  (sendBoth_ledger _).trans (changeHolds_ledger _ _ _)

theorem clearBench_ledger (s : State) : s.clearBench.ledger = s.ledger :=
  (clearStep7_ledger _ _).trans ((clearOrphans_ledger _ _).trans (clearModeHolds_ledger s.clearTasks))

@[simp] theorem dropFaults_ledger (s : State) (ws : WinSet) : (s.dropFaults ws).ledger = s.ledger := by
  have one : ∀ (w : Win) (s : State), State.ledger
      (if ws.has w then s.updWin w fun x => { x with holds := { x.holds with fault := false }, faultCause := none } else s) =
        s.ledger := by
    intro w s; split <;> rfl
  exact (one _ _).trans (one _ _)

@[simp] theorem postTask_ledger (s : State) (t : Task) : (s.postTask t).ledger = s.ledger :=
  ledger_eq rfl (updTote_charged _ _ _ fun _ => ⟨rfl, rfl, rfl, rfl, rfl, rfl, rfl⟩)

@[simp] theorem condemn_ledger (s : State) (w : Win) (id : ToteId) : (s.condemn w id).ledger = s.ledger :=
  (sendIfDue_ledger _ _).trans ((endTasks_ledger _ _ _).trans (ledger_eq (by simp) (by simp)))

@[simp] theorem presFalls_ledger (s : State) (w : Win) : (s.presFalls w).ledger = s.ledger := by
  unfold State.presFalls
  split
  · rfl
  · dsimp only
    split
    · exact (settle_ledger _).trans (ledger_eq (by simp) (by simp))
    · rfl

@[simp] theorem noteUnswapped_ledger (s : State) (p : Pos) : (s.noteUnswapped p).ledger = s.ledger := by
  unfold State.noteUnswapped
  split <;> rfl

@[simp] theorem pposFalls_ledger (s : State) (p : Pos) : (s.pposFalls p).ledger = s.ledger := by
  unfold State.pposFalls
  dsimp only
  split
  · split
    · exact ledger_eq (by simp) (by simp)
    · exact settle_ledger _
  · split
    · exact ledger_eq (by simp) (by simp)
    · exact settle_ledger _
  · rfl

@[simp] theorem pposRises_ledger (s : State) (p : Pos) : (s.pposRises p).ledger = s.ledger := by
  unfold State.pposRises
  dsimp only
  split
  · exact settle_ledger _
  · exact (settle_ledger _).trans (ledger_eq (by simp) (by simp))
  · rfl

@[simp] theorem overdue_ledger (s : State) (w : Win) (t : Task) : (s.overdue w t).ledger = s.ledger := rfl

@[simp] theorem setMode_ledger (s : State) (m : Mode) : (s.setMode m).ledger = s.ledger := by
  unfold State.setMode
  split
  · rfl
  split
  · exact settle_ledger _
  · rfl

@[simp] theorem setHoldLine_ledger (s : State) (b : Bool) : (s.setHoldLine b).ledger = s.ledger :=
  (settle_ledger _).trans (changeHolds_ledger _ _ _)

@[simp] theorem endReturn_ledger (w : Win) (s : State) : (s.endReturn w).ledger = s.ledger :=
  ledger_eq (by simp) (by simp)

@[simp] theorem offer_ledger (s : State) (ev : WatchEvent) : (s.offer ev).ledger = s.ledger :=
  ledger_eq (by simp) (by simp)

/-! ### Acts that count (R151) -/

/-- The units of a confirm at the task's position (R66, R67). -/
def State.putTask (t : Task) (units : Nat) (s : State) : State :=
  match s.positionOf t.orderTote with
  | some p => s.putUnits p units t.unitVolume t.crushClass
  | none => s

/-- The count of a confirm in the task's record (R122, step 1). -/
def Task.confirmedBy (t : Task) (count : Nat) (x : Task) : Task :=
  { x with confirmed := x.confirmed + unitsTaken t count,
           overcount := x.overcount || decide (t.quantity - t.confirmed < count) }

/-- The confirms since top, one more (R66). -/
def Window.confirmedOnce (x : Window) : Window := { x with confirms := min (x.confirms + 1) 255 }

/-- What a confirm makes of the counters (R122, R151). -/
def Counters.countUnits (c : Counters) (k : Nat) : Counters := { c with units := raise c.units k }

/-- A confirm before the end of a task that has no units left (R122). -/
def State.takeUnits (w : Win) (t : Task) (count : Nat) (s : State) : State :=
  let u := ((s.updTask t.id (t.confirmedBy count)).putTask t (unitsTaken t count)).updWin w Window.confirmedOnce
  { u with counters := u.counters.countUnits (unitsTaken t count) }

theorem State.confirm_eq (w : Win) (t : Task) (count : Nat) (s : State) :
    s.confirm w t count =
      if t.confirmed + unitsTaken t count = t.quantity then (s.takeUnits w t count).endTask .done t.id
      else s.takeUnits w t count := rfl

/-- A confirm raises UNITS alone (R122). -/
theorem confirm_counters (w : Win) (t : Task) (n : Nat) (s : State) :
    (s.confirm w t n).counters = s.counters.countUnits (unitsTaken t n) := by
  have hput : ∀ u : State, (u.putTask t (unitsTaken t n)).counters = u.counters := by
    intro u
    unfold State.putTask
    split <;> simp
  have htake : (s.takeUnits w t n).counters = s.counters.countUnits (unitsTaken t n) :=
    congrArg (Counters.countUnits · _) (hput _)
  rw [State.confirm_eq]
  split
  · rw [endTask_counters, htake]
  · exact htake

/-- A delivery raises PRESENTATIONS by 1, where there is a fetch (R86). -/
theorem deliver_counters (w : Win) (b : Bool) (s : State) :
    (s.deliver w b).counters = s.counters ∨
      (s.deliver w b).counters = { s.counters with presentations := raise s.counters.presentations 1 } := by
  unfold State.deliver
  split
  · exact .inl rfl
  · refine .inr ?_
    dsimp only
    split
    · rw [takeFault_counters]
      split
      · rw [offer_counters]; rfl
      · rfl
    · split
      · rw [offer_counters]; rfl
      · rfl

/-- A threshold test counts in EXPIRIES alone (R31). -/
theorem thresholdTest_counters (s : State) (id : ToteId) :
    ∃ n : BitVec 32, (s.thresholdTest id).counters = { s.counters with expiries := n } := by
  unfold State.thresholdTest
  split
  · exact ⟨_, rfl⟩
  next t _ =>
  split
  · exact ⟨_, rfl⟩
  next limit _ =>
  have hwarn : (s.warn t limit).counters = s.counters := offer_counters _ _
  have hexpire : ∀ u : State, (u.expire t limit).counters =
      { u.counters with expiries := raise u.counters.expiries 1 } := fun u =>
    (ledger_counters (ownersExpire_ledger _ _)).trans (by rw [offer_counters]; rfl)
  dsimp only
  split <;> split
  · exact ⟨_, by rw [hexpire, hwarn]⟩
  · exact ⟨_, hexpire s⟩
  · exact ⟨s.counters.expiries, hwarn⟩
  · exact ⟨_, rfl⟩

theorem chargeTote_counters (s : State) (id : ToteId) :
    ∃ n : BitVec 32, (s.chargeTote id).counters = { s.counters with expiries := n } := by
  unfold State.chargeTote
  split
  · exact ⟨_, rfl⟩
  split
  · exact ⟨_, rfl⟩
  · exact thresholdTest_counters _ _

/-- An accrual pass counts in EXPIRIES alone. -/
theorem foldl_chargeTote_counters (ids : List ToteId) (s : State) :
    ∃ n : BitVec 32, (ids.foldl State.chargeTote s).counters = { s.counters with expiries := n } := by
  induction ids generalizing s with
  | nil => exact ⟨_, rfl⟩
  | cons id ids ih =>
    obtain ⟨n, hn⟩ := ih (s.chargeTote id)
    obtain ⟨m, hm⟩ := chargeTote_counters s id
    exact ⟨n, by rw [List.foldl_cons, hn, hm]⟩

/-- The events that count, or that change a number, a class, an account or a flag of a tote record. -/
inductive Tally (s : State) : Instr → State → Prop
  | restart (c : Instr) (t : State) (htotes : t.totes = [])
      (hcount : t.counters = s.counters ∨ (∃ pins, c = .powerOn pins) ∧ t.counters = ⟨0, 0, 0, 0⟩) : Tally s c t
  | short (r : Req) (id : TaskId) : Tally s (.short r id) (s.countShort.endTask .short id).settle
  | confirm (c : Instr) (u : State) (w : Win) (t : Task) (n : Nat) (hu : u.ledger = s.ledger)
      (hc : (∃ r i n, c = .picked r i n) ∨ ∃ p, c = .btnPress p) : Tally s c (u.confirm w t n).settle
  | deliver (c : Instr) (u : State) (w : Win) (settled : Bool) (hu : u.ledger = s.ledger)
      (hc : (∃ r i w, c = .atWin r i w) ∨ (∃ w, c = .presRise w) ∨ (∃ w, c = .settleExpiry w)) :
      Tally s c (u.deliver w settled).settle
  | toteIn (r : Req) (id : ToteId) (slot cls : Byte) (brought : BitVec 24) (l : Slot) (c : TempClass)
      (hnew : s.tote? id = none) :
      Tally s (.toteIn r id slot cls brought) (s.arrive (s.newTote id l c brought) l).settle
  | accrual (reading : Option (BitVec 16)) : Tally s (.accrualEvent reading) (s.accrue reading).settle
  | dropped (c : Instr) (id : ToteId) (t : State) (ht : t.ledger = (s.dropTote id).ledger) : Tally s c t

/-- Every other event leaves the counters and those fields of the records as they are. -/
theorem Event.ledger_or_tally {s t : State} {c : Instr} (h : Event s c t) : t.ledger = s.ledger ∨ Tally s c t := by
  cases h with
  | restart _ pins image counters free phase line hphase hcount => exact .inr (.restart _ _ rfl hcount)
  | short r id => exact .inr (.short r id)
  | picked r id count task w => exact .inr (.confirm _ s w task _ rfl (.inl ⟨r, id, count, rfl⟩))
  | press p =>
    unfold State.press
    split
    · split
      · exact .inr (.confirm _ _ _ _ _ rfl (.inr ⟨p, rfl⟩))
      · exact .inl rfl
    · exact .inl rfl
  | atWin r id window w f =>
    unfold State.seeAtWin
    split
    · exact .inr (.deliver _ _ _ _ rfl (.inl ⟨r, id, window, rfl⟩))
    · exact .inl rfl
  | presRise w =>
    unfold State.presRises
    split
    · exact .inl rfl
    · dsimp only
      split
      · exact .inr (.deliver _ _ _ _ rfl (.inr (.inl ⟨w, rfl⟩)))
      · exact .inl rfl
  | settleExpiry w => exact .inr (.deliver _ _ _ _ rfl (.inr (.inr ⟨w, rfl⟩)))
  | toteIn r id slot cls brought l k hnew => exact .inr (.toteIn r id slot cls brought l k hnew)
  | accrual reading => exact .inr (.accrual reading)
  | toteOut r id t slot => exact .inr (.dropped _ id _ rfl)
  | goneLane r id t slot => exact .inr (.dropped _ t.id _ (offer_ledger _ _))
  | goneWindow r id t w =>
    exact .inr (.dropped _ t.id _ ((settle_ledger _).trans ((endReturn_ledger _ _).trans (offer_ledger _ _))))
  | laneReturn id t slot => exact .inr (.dropped _ id _ rfl)
  | fetchTimeout w f hf =>
    refine .inr (.dropped _ f.tote _ ((settle_ledger _).trans ((ledger_eq (takeFault_counters _ _ _ _)
      (takeFault_charged _ _ _ _)).trans ?_)))
    split <;> rfl
  | windowReturn w q => exact .inr (.dropped _ q.tote _ ((settle_ledger _).trans (endReturn_ledger _ _)))
  | clear r => exact .inl ((settle_ledger _).trans (clearBench_ledger s))
  | withdraw r task => exact .inl ((settle_ledger _).trans (endTask_ledger _ _ _))
  | rush r id => exact .inl ((settle_ledger _).trans (ledger_eq (by simp) (by simp)))
  | bind r pos orderTote cls capacity p k => exact .inl ((settle_ledger _).trans (endTasks_ledger _ _ _))
  | close r pos p => exact .inl ((settle_ledger _).trans (ledger_eq (by simp) (by simp)))
  | orphan id => exact .inl (ledger_eq (by simp) (by simp))
  | await id => exact .inl (endTask_ledger _ _ _)
  | blockEnds w => exact .inl ((settle_ledger _).trans (ledger_eq (by simp) (by simp)))
  | swapTimeout p => exact .inl (noteUnswapped_ledger s p)
  | nothing | line | load | setItem | store | storeCompletion | lock | swapped | watch | accrualInterval | blockStands
  | button | guardEnds => exact .inl rfl
  | _ => exact .inl (by simp)

/-! ### The counters (R151, R152) -/

/-- What the counters of two states have to do with each other over a command `c` (R151). -/
def Counts (c : Instr) (a b : Counters) : Prop :=
  (b.presentations = a.presentations ∨ (b.presentations = a.presentations + 1 ∧
      ((∃ r i w, c = .atWin r i w) ∨ (∃ w, c = .presRise w) ∨ (∃ w, c = .settleExpiry w)))) ∧
    (b.units = a.units ∨ (∃ r i n, c = .picked r i n) ∨ (∃ p, c = .btnPress p)) ∧
    (b.shorts = a.shorts ∨ (b.shorts = a.shorts + 1 ∧ ∃ r i, c = .short r i)) ∧
    (b.expiries = a.expiries ∨ (∃ r i l k b, c = .toteIn r i l k b) ∨ (∃ x, c = .accrualEvent x))

theorem Counts.same {c : Instr} {a b : Counters} (h : b = a) : Counts c a b := by
  subst h
  exact ⟨.inl rfl, .inl rfl, .inl rfl, .inl rfl⟩

/-- The counters rise in the events of their causes alone (R151, R152). -/
theorem Tally.counts {s t : State} {c : Instr} (h : Tally s c t) :
    ((∃ pins, c = .powerOn pins) ∧ t.counters = ⟨0, 0, 0, 0⟩) ∨ Counts c s.counters t.counters := by
  cases h with
  | restart _ _ htotes hcount =>
    obtain h | ⟨hc, h⟩ := hcount
    · exact .inr (.same h)
    · exact .inl ⟨hc, h⟩
  | short r id =>
    have hcount : ((s.countShort.endTask .short id).settle).counters = s.countShort.counters := by simp
    exact .inr (by rw [hcount]; exact ⟨.inl rfl, .inl rfl, .inr ⟨rfl, r, id, rfl⟩, .inl rfl⟩)
  | confirm _ u w task n hu hc =>
    refine .inr ?_
    rw [settle_counters, confirm_counters, ledger_counters hu]
    exact ⟨.inl rfl, .inr hc, .inl rfl, .inl rfl⟩
  | deliver _ u w settled hu hc =>
    refine .inr ?_
    rw [settle_counters, ← ledger_counters hu]
    obtain h | h := deliver_counters w settled u <;> rw [h]
    · exact .same rfl
    · exact ⟨.inr ⟨rfl, hc⟩, .inl rfl, .inl rfl, .inl rfl⟩
  | toteIn r id slot cls brought l k =>
    refine .inr ?_
    obtain ⟨n, hn⟩ := thresholdTest_counters
      (((s.admitTote (s.newTote id l k brought) l).classCheckTote id k).tasksToReady id) id
    have hcheck : ∀ u : State, (u.classCheckTote id k).counters = u.counters := fun u => endTasks_counters _ _ _
    have hcount : (s.arrive (s.newTote id l k brought) l).settle.counters = { s.counters with expiries := n } := by
      rw [settle_counters, State.arrive, startOrphan_counters]
      exact hn.trans (by rw [State.tasksToReady_counters, hcheck]; rfl)
    rw [hcount]
    exact ⟨.inl rfl, .inl rfl, .inl rfl, .inr (.inl ⟨r, id, slot, cls, brought, rfl⟩)⟩
  | accrual reading =>
    refine .inr ?_
    rw [settle_counters, State.accrue, State.accrualPass]
    obtain ⟨n, hn⟩ := foldl_chargeTote_counters _ (State.settleSensor
      { s with exposure := { s.exposure with readInFlight := false } } reading)
    rw [hn, ledger_counters (settleSensor_ledger _ _)]
    exact ⟨.inl rfl, .inl rfl, .inl rfl, .inr (.inr ⟨reading, rfl⟩)⟩
  | dropped _ id _ ht => exact .inr (.same (ledger_counters (s := s.dropTote id) ht))

/-- Settles O18: the tables of a command's next state are those of one of its events, and an event that tallies nothing
leaves the counters. -/
theorem countersRiseOnlyInTheirEvents : Obligations.CountersRiseOnlyInTheirEvents := by
  intro s c t hexec
  obtain ⟨u, v, hu, hv, ht⟩ := exec_meets hexec
  have hcountU : u.tables.counters = s.tables.counters := congrArg _ hu
  have hcountT : t.tables.counters = v.tables.counters := congrArg _ ht
  change u.counters = s.counters at hcountU
  change t.counters = v.counters at hcountT
  rw [hcountT, ← hcountU]
  obtain h | h := hv.ledger_or_tally
  · exact .inr (Counts.same (ledger_counters h))
  · exact h.counts

/-! ### The life of a tote record (R28, R32, R36) -/

/-- Record `y` is record `x` later on: number, id and class are the same, URGENT and EXPIRED stay, and a well-formed
account stays well formed and never falls. -/
def Tote.Older (x y : Tote) : Prop :=
  y.id = x.id ∧ y.recNo = x.recNo ∧ y.cls = x.cls ∧ (x.urgent = true → y.urgent = true) ∧
    (x.expired = true → y.expired = true) ∧ (x.accountWf = true → y.accountWf = true ∧ x.account ≤ y.account)

theorem Tote.Older.trans {x y z : Tote} (h : x.Older y) (k : y.Older z) : x.Older z := by
  obtain ⟨hid, hno, hcls, hurg, hexp, hacc⟩ := h
  obtain ⟨kid, kno, kcls, kurg, kexp, kacc⟩ := k
  exact ⟨kid.trans hid, kno.trans hno, kcls.trans hcls, kurg ∘ hurg, kexp ∘ hexp, fun hx =>
    ⟨(kacc (hacc hx).1).1, (hacc hx).2.trans (kacc (hacc hx).1).2⟩⟩

/-- Records that agree in what a charge and a test write are each the other later on. -/
theorem Tote.Older.of_charged {x y : Tote} (h : y.charged = x.charged) : x.Older y := by
  simp only [Tote.charged, Prod.mk.injEq] at h
  obtain ⟨hno, hid, hcls, hacc, hcarry, hurg, hexp⟩ := h
  exact ⟨hid, hno, hcls, fun h => hurg.trans h, fun h => hexp.trans h,
    fun hx => ⟨by rwa [Tote.accountWf, hacc, hcarry, hcls], hacc.ge⟩⟩

/-- The tote records of `t` are records of `s` later on, none new and none twice. -/
structure Aged (s t : State) : Prop where
  ids : (t.totes.map fun x => x.id).Sublist (s.totes.map fun x => x.id)
  older : ∀ y ∈ t.totes, ∃ x ∈ s.totes, x.Older y

theorem Aged.trans {s t u : State} (h : Aged s t) (k : Aged t u) : Aged s u where
  ids := k.ids.trans h.ids
  older z hz := by
    obtain ⟨y, hy, hyz⟩ := k.older z hz
    obtain ⟨x, hx, hxy⟩ := h.older y hy
    exact ⟨x, hx, hxy.trans hyz⟩

/-- Records whose charged fields stay, some of them perhaps dropped, age. -/
theorem Aged.of_sublist {s t : State} (h : t.charged.Sublist s.charged) : Aged s t where
  ids := by simpa [State.charged, Function.comp_def, Tote.charged] using h.map fun c => c.2.1
  older y hy := by
    have hmem : y.charged ∈ s.charged := h.subset (List.mem_map_of_mem hy)
    obtain ⟨x, hx, hxy⟩ := List.mem_map.1 hmem
    exact ⟨x, hx, .of_charged hxy.symm⟩

theorem Aged.of_charged {s t : State} (h : t.charged = s.charged) : Aged s t := .of_sublist (h ▸ List.Sublist.refl _)

theorem Aged.refl (s : State) : Aged s s := .of_charged rfl

/-- An update that ages the record it finds ages the table. -/
theorem Aged.updTote {s : State} {id : ToteId} {f : Tote → Tote} (hf : ∀ x ∈ s.totes, x.id = id → x.Older (f x)) :
    Aged s (s.updTote id f) where
  ids := by
    have hsame : (s.updTote id f).totes.map (fun x => x.id) = s.totes.map fun x => x.id := by
      rw [State.updTote_totes, List.map_map]
      refine List.map_congr_left fun x hx => ?_
      simp only [Function.comp_apply]
      split
      next hid => exact (hf x hx hid).1
      next => rfl
    rw [hsame]
  older y hy := by
    obtain ⟨x, hx, rfl⟩ := List.mem_map.1 hy
    refine ⟨x, hx, ?_⟩
    split
    next hid => exact hf x hx hid
    next => exact .of_charged rfl

/-- Distinct ids stay distinct and accounts well formed as the table ages. -/
theorem Aged.totesWf {s t : State} (h : Aged s t) (hs : s.totesWf) : t.totesWf := by
  obtain ⟨hnodup, hwf⟩ := hs
  refine ⟨hnodup.sublist h.ids, fun y hy => ?_⟩
  obtain ⟨x, hx, _, _, _, _, _, hacc⟩ := h.older y hy
  exact (hacc (hwf x hx)).1

/-! ### Charge and test -/

/-- With distinct ids a record of the table is the one found under its id (R3). -/
theorem State.tote?_eq_of_mem {s : State} (hnodup : (s.totes.map fun x => x.id).Nodup) {x : Tote} (hx : x ∈ s.totes) :
    s.tote? x.id = some x := by
  unfold State.tote?
  cases hfind : s.totes.find? fun t => t.id == x.id with
  | none => exact absurd (List.find?_eq_none.1 hfind x hx) (by simp)
  | some y =>
    have hyid : y.id = x.id := by simpa using List.find?_some hfind
    exact congrArg some (List.inj_on_of_nodup_map hnodup (List.mem_of_find?_eq_some hfind) hx hyid)

/-- A record with a weight is charged for its class, never below what it has, and not past 16,777,215 (R27, R28). -/
theorem Tote.older_charge {x : Tote} (hcls : x.cls ≠ .ambient) (r w : Nat) : x.Older (x.charge r w) := by
  refine ⟨rfl, rfl, rfl, fun h => h, fun h => h, fun hx => ?_⟩
  simp only [Tote.accountWf, Bool.and_eq_true, decide_eq_true_eq] at hx
  obtain ⟨⟨hacc, _⟩, _⟩ := hx
  have hcarry : (r * w + x.carry) % 8 ≤ 7 := by omega
  constructor
  · simp [Tote.accountWf, Tote.charge, hcarry, hcls]
  · simp only [Tote.charge]
    omega

theorem Aged.warn (t : Tote) (limit : Nat) (s : State) : Aged s (s.warn t limit) := by
  have hmark : Aged s (s.updTote t.id fun x => { x with urgent := true }) :=
    .updTote fun x _ _ => ⟨rfl, rfl, rfl, fun _ => rfl, id, fun h => ⟨h, le_rfl⟩⟩
  exact hmark.trans (.of_charged (offer_charged _ _))

theorem Aged.expire (t : Tote) (limit : Nat) (s : State) : Aged s (s.expire t limit) := by
  have hmark : Aged s (s.updTote t.id fun x => { x with expired := true }) :=
    .updTote fun x _ _ => ⟨rfl, rfl, rfl, id, fun _ => rfl, fun h => ⟨h, le_rfl⟩⟩
  refine hmark.trans (.of_charged ?_)
  simp only [State.expire]
  rw [ledger_charged (ownersExpire_ledger _ _), counted_charged, offer_charged, State.noteBoth_charged]

theorem Aged.thresholdTest (s : State) (id : ToteId) : Aged s (s.thresholdTest id) := by
  unfold State.thresholdTest
  split
  · exact .refl s
  split
  · exact .refl s
  dsimp only
  split <;> split
  · exact (Aged.warn _ _ s).trans (.expire _ _ _)
  · exact .expire _ _ s
  · exact .warn _ _ s
  · exact .refl s

theorem Aged.chargeTote {s : State} (hs : s.totesWf) (id : ToteId) : Aged s (s.chargeTote id) := by
  unfold State.chargeTote
  split
  · exact .refl s
  next t ht =>
  split
  · exact .refl s
  next w hw =>
  have hcls : t.cls ≠ .ambient := by
    rintro h
    simp [State.weight, h] at hw
  refine Aged.trans (.updTote fun x hx hid => ?_) (.thresholdTest _ _)
  subst hid
  obtain rfl : x = t := Option.some.inj ((State.tote?_eq_of_mem hs.1 hx).symm.trans ht)
  exact Tote.older_charge hcls _ _

theorem Aged.foldl_chargeTote {s : State} (hs : s.totesWf) (ids : List ToteId) : Aged s (ids.foldl State.chargeTote s) := by
  induction ids generalizing s with
  | nil => exact .refl s
  | cons id ids ih =>
    have hcharge := Aged.chargeTote hs id
    exact hcharge.trans (ih (hcharge.totesWf hs))

/-! ### The arrival of a tote, and every event -/

/-- A tote arrives by the admission of its record; what follows ages the table (R7). -/
theorem Aged.arrive (s : State) (t : Tote) (l : Slot) : Aged (s.admitTote t l) (s.arrive t l) := by
  have hcheck : Aged (s.admitTote t l) (((s.admitTote t l).classCheckTote t.id t.cls).tasksToReady t.id) :=
    .of_charged (endTasks_charged _ _ _)
  exact (hcheck.trans (.thresholdTest _ _)).trans (.of_charged (startOrphan_charged _ _))

/-- An event ages the tote table, after the admission of the record that a TOTEIN brings. -/
theorem Event.aged {s t : State} {c : Instr} (h : Event s c t) (hs : s.totesWf) :
    Aged s t ∨ ∃ (id : ToteId) (l : Slot) (k : TempClass) (brought : BitVec 24), s.tote? id = none ∧
      Aged (s.admitTote (s.newTote id l k brought) l) t := by
  obtain h | h := h.ledger_or_tally
  · exact .inl (.of_charged (ledger_charged h))
  cases h with
  | restart _ _ htotes => exact .inl ⟨by simp [htotes], by simp [htotes]⟩
  | short r id => exact .inl (.of_charged ((settle_charged _).trans (endTask_charged _ _ _)))
  | confirm _ u w task n hu =>
    exact .inl (.of_charged ((settle_charged _).trans ((confirm_charged _ _ _ _).trans (ledger_charged hu))))
  | deliver _ u w settled hu =>
    exact .inl (.of_charged ((settle_charged _).trans ((deliver_charged _ _ _).trans (ledger_charged hu))))
  | toteIn r id slot cls brought l k hnew =>
    exact .inr ⟨id, l, k, brought, hnew, (Aged.arrive s _ l).trans (.of_charged (settle_charged _))⟩
  | accrual reading =>
    let u := State.settleSensor { s with exposure := { s.exposure with readInFlight := false } } reading
    have hsensor : Aged s u := .of_charged (ledger_charged (settleSensor_ledger _ _))
    have hpass : Aged u u.accrualPass := Aged.foldl_chargeTote (hsensor.totesWf hs) _
    exact .inl ((hsensor.trans hpass).trans (.of_charged (settle_charged _)))
  | dropped _ id _ ht =>
    refine .inl (.of_sublist ?_)
    rw [ledger_charged ht]
    exact (List.filter_sublist).map _

/-- States of the same tables have the same tote records. -/
theorem State.totes_of_tables {s t : State} (h : t.tables = s.tables) : t.totes = s.totes :=
  show t.tables.totes = s.tables.totes from congrArg _ h

/-- A record found under an id is in the table under that id. -/
theorem State.mem_of_tote? {s : State} {id : ToteId} {t : Tote} (h : s.tote? id = some t) : t ∈ s.totes ∧ t.id = id :=
  ⟨List.mem_of_find?_eq_some h, by simpa using List.find?_some h⟩

/-- Putting a record into the table puts it there once. -/
theorem insertByNo_perm {α : Type} (no : α → Nat) (a : α) (as : List α) : (insertByNo no a as).Perm (a :: as) := by
  induction as with
  | nil => exact .refl _
  | cons b bs ih =>
    unfold insertByNo
    split
    · exact .refl _
    · exact (ih.cons b).trans (.swap a b bs)

/-- Settles O25: a record of the next state is a record of this one later on, or one that a TOTEIN has brought under an id
that had none. -/
theorem toteRecordIsSticky : Obligations.ToteRecordIsSticky := by
  intro s t hstep hs id x hx y hy
  obtain ⟨hyMem, hyId⟩ := State.mem_of_tote? hy
  have hxMem := (State.mem_of_tote? hx).1
  suffices hfrom : ∃ x' ∈ s.totes, x'.Older y by
    obtain ⟨x', hx', hid, hno, hcls, hurg, hexp, hacc⟩ := hfrom
    have hfind := State.tote?_eq_of_mem hs.1 hx'
    rw [← hid, hyId, hx] at hfind
    obtain rfl := Option.some.inj hfind
    exact ⟨hno, hcls, (hacc (hs.2 x hxMem)).2, hurg, hexp⟩
  unfold step at hstep
  split at hstep
  next =>
    obtain rfl := Host.Outcome.next.inj hstep
    obtain ⟨_, _, _, h⟩ | h := s.tick_cases <;> rw [h] at hyMem
    · exact ⟨y, hyMem, .of_charged rfl⟩
    · obtain ⟨x', hx', rfl⟩ := List.mem_map.1 hyMem
      exact ⟨x', hx', .of_charged rfl⟩
  next c rest _ =>
    obtain ⟨u, v, hu, hv, ht⟩ := exec_meets hstep
    have hutotes : u.totes = s.totes := State.totes_of_tables (s := { s with pending := rest }) hu
    have huwf : u.totesWf := by rwa [State.totesWf, hutotes]
    rw [State.totes_of_tables ht] at hyMem
    rw [← hutotes]
    obtain h | ⟨new, l, k, brought, hnew, h⟩ := hv.aged huwf
    · exact h.older y hyMem
    · obtain ⟨x', hx', hold⟩ := h.older y hyMem
      obtain rfl | hmem := List.mem_cons.1 ((insertByNo_perm _ _ _).mem_iff.1 hx')
      · have hnone : s.tote? id = none := by
          rw [← hyId, hold.1, State.tote?, ← hutotes]
          exact hnew
        rw [hx] at hnone
        cases hnone
      · exact ⟨x', hmem, hold⟩

/-- The record that a TOTEIN brings has a well-formed account (R7, R33). -/
theorem newTote_accountWf (s : State) (id : ToteId) (l : Slot) (k : TempClass) (brought : BitVec 24) :
    (s.newTote id l k brought).accountWf = true := by
  have hlt : brought.toNat ≤ Config.accountMax := Nat.le_of_lt_succ brought.isLt
  cases k <;> simp [Tote.accountWf, State.newTote, hlt]

/-- Settles O55: the table ages, which keeps ids distinct and accounts well formed, and a TOTEIN admits one record under
an id that had none. -/
theorem stepKeepsTotes : Obligations.StepKeepsTotes := by
  intro s t hstep hs
  refine step_keeps (P := fun s => s.totesWf) ?_ (fun _ _ _ _ h => h) ?_ ?_ hstep hs
  · intro s t h hwf
    rwa [State.totesWf, State.totes_of_tables h]
  · intro s hwf
    refine Aged.totesWf (.of_charged ?_) hwf
    simp only [State.charged, State.countTimers, List.map_map]
    rfl
  · intro s c t hevent hwf
    obtain h | ⟨id, l, k, brought, hnew, h⟩ := hevent.aged hwf
    · exact h.totesWf hwf
    · refine h.totesWf ⟨?_, fun x hx => ?_⟩
      · refine ((insertByNo_perm Tote.recNo _ s.totes).map _).nodup_iff.2 (List.nodup_cons.2 ⟨fun hmem => ?_, hwf.1⟩)
        obtain ⟨x, hx, hid⟩ := List.mem_map.1 hmem
        have hfound := State.tote?_eq_of_mem hwf.1 hx
        rw [hid] at hfound
        exact absurd (hfound.symm.trans hnew) (by simp)
      · obtain rfl | hmem := List.mem_cons.1 ((insertByNo_perm _ _ _).mem_iff.1 hx)
        · exact newTote_accountWf s id l k brought
        · exact hwf.2 x hmem

end Sys2Proof.Machine

/-! PROOFS. The moves: the few kinds of change of which all work of the tables, the windows and the put controller is made.
Each operation is shown once to be made of moves; what every move keeps, every operation keeps. -/

namespace Sys2Proof.Machine

/-! ### Moves -/

/-- What work leaves of a task record: all but its state, its await timer and its flags. -/
def Task.core (t : Task) : Nat × TaskId × ToteId × OrderToteId × Sku × TempClass × Nat × Nat × Nat × Nat :=
  (t.recNo, t.id, t.tote, t.orderTote, t.sku, t.cls, t.quantity, t.confirmed, t.unitVolume, t.crushClass)

/-- What the moves beside a SENDBACK and a FETCH leave of a window record: all but its lit task and its timers. -/
def Window.core (x : Window) : List ToteId × Option Fetch × Option Return × Nat × Holds × Option WinFault × Bool :=
  (x.lift, x.fetch, x.ret, x.confirms, x.holds, x.faultCause, x.present)

/-- What work leaves of a position record: its order tote, its amounts and its lines. -/
def Position.core (q : Position) : Option Binding × Nat × Nat × Bool × Bool × Bool × Light :=
  (q.binding, q.fill, q.floor, q.present, q.pressed, q.armed, q.light)

/-- A queue of `n` places that only grows and is never overfilled (R168, R169). -/
def Joins {α : Type} (n : Nat) (q r : List α) : Prop := q <+: r ∧ (q.length ≤ n → r.length ≤ n)

/-- The records of a SENDBACK at window `w` of its top `id` (R94): the pop, the tote LEAVING, its tasks WAITING, the return
in flight. -/
def State.sendRecords (w : Win) (id : ToteId) (rest : List ToteId) (s : State) : State :=
  (((s.updWin w fun x => { x with
      lift := rest, fetch := fetchAfterPop x.fetch rest, blockTimer := none,
      confirms := if rest.isEmpty then x.confirms else 0 }).updTote id fun t => { t with
        state := .leavingWin w, finished := false }).tasksToWaiting id).updWin w fun x => { x with
    ret := some ⟨id, s.returnMs⟩ }

/-- The records of a lane SENDBACK (R13): the tote LEAVING with its slot kept, the arrival entry gone. -/
def State.laneSendRecords (id : ToteId) (slot : Slot) (s : State) : State :=
  (s.updTote id fun t => { t with
    state := .leavingLane slot, orphanTimer := none, laneReturnTimer := some s.returnMs }).leaveArrival id

/-- The records of a FETCH to window `w` of tote `id` from `slot` (R81): slot and arrival entry empty, the tote FETCHING,
the fetch in flight. -/
def State.fetchRecords (w : Win) (id : ToteId) (slot : Slot) (s : State) : State :=
  (((s.setSlot slot none).leaveArrival id).updTote id fun x => { x with
      state := .fetching w, rush := false, orphanTimer := none }).updWin w fun x => { x with
    fetch := some { tote := id, kind := if (s.win w).lift.isEmpty then .plain else .preempting,
                    fetchTimer := some s.fetchMs, atwinSeen := false, presRisen := false, settleTimer := none },
    blockTimer := none }

/-- One move of the tables, the windows or the put controller. -/
inductive Move (s : State) : State → Prop
  | queues (order bench : NoticeQueue) (directions : List Direction) (free : Nat)
      (horder : Joins 16 s.orderQueue.entries order.entries) (hbench : Joins 16 s.benchQueue.entries bench.entries)
      (hdirections : Joins 24 s.directions directions) :
      Move s { s with orderQueue := order, benchQueue := bench, directions := directions, free := free }
  | totes (f : Tote → Tote) (hf : ∀ t, (f t).charged = t.charged ∧ (f t).state = t.state) :
      Move s { s with totes := s.totes.map f }
  | tasks (f : Task → Task) (hf : ∀ t, (f t).core = t.core) : Move s { s with tasks := s.tasks.map f }
  | endTasks (p : Task → Bool) : Move s { s with tasks := s.tasks.filter p }
  | windows (ws : PerWin Window) (hws : ∀ w, (ws.get w).core = (s.win w).core) : Move s { s with windows := ws }
  | positions (ps : Vector Position 6) (hps : ∀ p : Pos, ps[p].core = (s.pos p).core) :
      Move s { s with positions := ps }
  | send (w : Win) (id : ToteId) (rest : List ToteId) (hlift : (s.win w).lift = id :: rest)
      (hret : (s.win w).ret = none) : Move s (s.sendRecords w id rest)
  | laneSend (id : ToteId) (t : Tote) (slot : Slot) (ht : s.tote? id = some t) (hst : t.state = .inLane slot) :
      Move s (s.laneSendRecords id slot)
  | fetch (w : Win) (t : Tote) (slot : Slot) (hchoice : s.fetchChoice w = some t) (hst : t.state = .inLane slot) :
      Move s (s.fetchRecords w t.id slot)

/-- Any number of moves, one after the other. -/
def Moves : State → State → Prop := Relation.ReflTransGen Move

@[refl] theorem Moves.refl {s : State} : Moves s s := Relation.ReflTransGen.refl

@[trans] theorem Moves.trans {s t u : State} (h : Moves s t) (k : Moves t u) : Moves s u :=
  Relation.ReflTransGen.trans h k

theorem Moves.single {s t : State} (h : Move s t) : Moves s t := Relation.ReflTransGen.single h

theorem Moves.tail {s t u : State} (h : Moves s t) (k : Move t u) : Moves s u := Relation.ReflTransGen.tail h k

/-- What every move keeps, any number of them keep. -/
theorem Moves.keep {P : State → Prop} (hmove : ∀ {s t}, Move s t → P s → P t) {s t : State} (h : Moves s t) (hs : P s) :
    P t := by
  induction h with
  | refl => exact hs
  | tail _ hlast ih => exact hmove hlast ih

/-! ### Single moves -/

theorem Joins.refl {α : Type} (n : Nat) (q : List α) : Joins n q q := ⟨List.prefix_refl q, id⟩

theorem NoticeQueue.joins_push (q : NoticeQueue) (n : Notice) : Joins 16 q.entries (q.push n).entries := by
  by_cases h : q.entries.length < 16
  · rw [NoticeQueue.push_of_lt n h]
    exact ⟨List.prefix_append _ _, fun _ => by simp; omega⟩
  · rw [NoticeQueue.push_of_le n (Nat.not_lt.1 h)]
    exact .refl 16 _

section
variable (s : State)

theorem Moves.noteOrder (n : Notice) : Moves s (s.noteOrder n) :=
  .single (.queues _ _ _ s.free (s.orderQueue.joins_push n) (.refl 16 _) (.refl 24 _))

theorem Moves.noteBench (n : Notice) : Moves s (s.noteBench n) :=
  .single (.queues _ _ _ s.free (.refl 16 _) (s.benchQueue.joins_push n) (.refl 24 _))

theorem Moves.noteBoth (n : Notice) : Moves s (s.noteBoth n) := (Moves.noteOrder s n).trans (.noteBench _ n)

theorem Moves.noteOwner (l : NoticeLink) (n : Notice) : Moves s (s.noteOwner l n) := by
  cases l with
  | order => exact .noteOrder s n
  | bench => exact .noteBench s n

theorem Moves.direct (d : Direction) : Moves s (s.direct d) := by
  by_cases h : s.directions.length < 24
  · rw [State.direct_of_lt d h]
    exact .single (.queues _ _ _ s.free (.refl 16 _) (.refl 16 _) ⟨List.prefix_append _ _, fun _ => by simp; omega⟩)
  · rw [State.direct_of_le d (Nat.not_lt.1 h)]

theorem Moves.free (n : Nat) : Moves s { s with free := n } :=
  .single (.queues _ _ _ n (.refl 16 _) (.refl 16 _) (.refl 24 _))

theorem Moves.offerTo (ev : WatchEvent) (n : Fin 4) : Moves s (State.offerTo ev n s) := by
  unfold State.offerTo
  split
  · split
    · exact .noteOwner s _ _
    · exact .refl
  · exact .refl

theorem Moves.offer (ev : WatchEvent) : Moves s (s.offer ev) :=
  (((Moves.offerTo s ev 0).trans (.offerTo _ ev 1)).trans (.offerTo _ ev 2)).trans (.offerTo _ ev 3)

theorem Moves.updTote (id : ToteId) (f : Tote → Tote) (hf : ∀ t, (f t).charged = t.charged ∧ (f t).state = t.state) :
    Moves s (s.updTote id f) :=
  .single (.totes _ fun t => by
    split
    · exact hf t
    · exact ⟨rfl, rfl⟩)

theorem Moves.updTask (id : TaskId) (f : Task → Task) (hf : ∀ t, (f t).core = t.core) : Moves s (s.updTask id f) :=
  .single (.tasks _ fun t => by
    split
    · exact hf t
    · rfl)

theorem Moves.dropTask (id : TaskId) : Moves s (s.dropTask id) := .single (.endTasks _)

theorem Moves.tasksToWaiting (id : ToteId) : Moves s (s.tasksToWaiting id) :=
  .single (.tasks _ fun t => by split <;> rfl)

theorem Moves.tasksToActive (id : ToteId) : Moves s (s.tasksToActive id) :=
  .single (.tasks _ fun t => by split <;> rfl)

theorem Moves.tasksToReady (id : ToteId) : Moves s (s.tasksToReady id) :=
  .single (.tasks _ fun t => by split <;> rfl)

/-- A window's record after the update of one: the update at that window, the old record at the other. -/
theorem PerWin.get_set_cases {α : Type} (p : PerWin α) (v w : Win) (a : α) :
    (w = v ∧ (p.set v a).get w = a) ∨ (w ≠ v ∧ (p.set v a).get w = p.get w) := by
  by_cases h : w = v
  · subst h
    exact .inl ⟨rfl, PerWin.get_set p w a⟩
  · exact .inr ⟨h, PerWin.get_set_ne p h a⟩

theorem Moves.updWin (w : Win) (f : Window → Window) (hf : ∀ x, (f x).core = x.core) : Moves s (s.updWin w f) :=
  .single (.windows _ fun v => by
    obtain ⟨rfl, h⟩ | ⟨_, h⟩ := PerWin.get_set_cases s.windows w v (f (s.windows.get w)) <;> rw [h]
    · exact hf _
    · rfl)

theorem Moves.updPos (p : Pos) (f : Position → Position) (hf : ∀ q, (f q).core = q.core) : Moves s (s.updPos p f) :=
  .single (.positions _ fun q => by
    by_cases h : q = p
    · subst h
      exact (congrArg Position.core (s.pos_updPos q f)).trans (hf _)
    · exact congrArg Position.core (s.pos_updPos_ne h f))

end

/-! ### Operations -/

/-- Two actions made of moves are so in either order. -/
theorem Moves.eitherOrder {f g : State → State} (hf : ∀ s, Moves s (f s)) (hg : ∀ s, Moves s (g s)) (s : State) :
    Moves s (s.eitherOrder f g) := by
  unfold State.eitherOrder
  split
  · exact ((Moves.free s _).trans (hf _)).trans (hg _)
  · exact ((Moves.free s _).trans (hg _)).trans (hf _)

theorem Moves.foldl {α : Type} {f : State → α → State} (hf : ∀ s a, Moves s (f s a)) (as : List α) (s : State) :
    Moves s (as.foldl f s) := by
  induction as generalizing s with
  | nil => exact .refl
  | cons a as ih => exact (hf s a).trans (ih _)

section
variable (s : State)

theorem Moves.startOrphan (id : ToteId) : Moves s (s.startOrphan id) := by
  unfold State.startOrphan
  split
  · split
    · split
      · exact .refl
      · exact .updTote s id _ fun _ => ⟨rfl, rfl⟩
    · exact .refl
  · exact .refl

theorem Moves.markFinished (w : Win) : Moves s (s.markFinished w) := by
  unfold State.markFinished
  split
  · exact .updTote s _ _ fun _ => ⟨rfl, rfl⟩
  · exact .refl

theorem Moves.finishTest (w : Win) : Moves s (s.finishTest w) := by
  obtain h | h := finishTest_cases s w <;> rw [h]
  exact .markFinished s w

/-- A SENDBACK: the direction, the records, the test of the tote brought up (R94, R95). -/
theorem State.sendBack_of_lift {s : State} {w : Win} {id : ToteId} {rest : List ToteId}
    (h : (s.win w).lift = id :: rest) :
    s.sendBack w = ((s.direct (.sendBack id (.window w))).sendRecords w id rest).finishTest w := by
  simp only [State.sendBack, h]
  rfl

@[simp] theorem State.direct_win (d : Direction) (w : Win) : (s.direct d).win w = s.win w := by
  unfold State.direct
  split <;> rfl

@[simp] theorem State.direct_tote? (d : Direction) (id : ToteId) : (s.direct d).tote? id = s.tote? id := by
  unfold State.direct
  split <;> rfl

/-- A send-back is due at a window with a top, not held, with no return in flight (R94). -/
theorem State.sendBackDue_ret {w : Win} (h : s.sendBackDue w = true) : (s.win w).ret = none := by
  simp only [State.sendBackDue, Bool.and_eq_true] at h
  simpa using h.2

theorem Moves.sendIfDue (w : Win) : Moves s (s.sendIfDue w) := by
  unfold State.sendIfDue
  split
  next hdue =>
    have hret := s.sendBackDue_ret hdue
    cases hlift : (s.win w).lift with
    | nil => simp only [State.sendBack, hlift]; exact .refl
    | cons id rest =>
      rw [State.sendBack_of_lift hlift]
      exact ((Moves.direct s _).tail (.send w id rest (by simpa using hlift) (by simpa using hret))).trans
        (.finishTest _ w)
  next => exact .refl

theorem Moves.sendBoth : Moves s s.sendBoth := by
  unfold State.sendBoth
  split
  · exact .eitherOrder (fun s => .sendIfDue s .w0) (fun s => .sendIfDue s .w1) s
  · exact (Moves.sendIfDue s .w0).trans (.sendIfDue _ .w1)

theorem Moves.finishBoth : Moves s s.finishBoth :=
  ((Moves.finishTest s .w0).trans (.finishTest _ .w1)).trans (.sendBoth _)

theorem Moves.finishAndSend (w : Win) : Moves s (s.finishAndSend w) := (Moves.finishTest s w).trans (.sendIfDue _ w)

theorem Moves.finishIfTop (id : ToteId) : Moves s (s.finishIfTop id) := by
  unfold State.finishIfTop
  split
  · exact .refl
  split
  · exact .finishAndSend s .w0
  split
  · exact .finishAndSend s .w1
  · exact .refl

theorem Moves.releaseTote (id : ToteId) : Moves s (s.releaseTote id) := (Moves.startOrphan s id).trans (.finishIfTop _ id)

/-- A lane send-back: the direction, then the records (R13). -/
theorem State.laneSendBack_of_inLane {s : State} {id : ToteId} {t : Tote} {slot : Slot} (ht : s.tote? id = some t)
    (hst : t.state = .inLane slot) :
    s.laneSendBack id = (s.direct (.sendBack id (.lane slot))).laneSendRecords id slot := by
  simp only [State.laneSendBack, ht, hst]
  rfl

theorem Moves.laneSendBack (id : ToteId) : Moves s (s.laneSendBack id) := by
  cases ht : s.tote? id with
  | none => simp only [State.laneSendBack, ht]; exact .refl
  | some t =>
    cases hst : t.state with
    | inLane slot =>
      rw [State.laneSendBack_of_inLane ht hst]
      exact (Moves.direct s _).tail (.laneSend id t slot (by simpa using ht) hst)
    | _ => simp only [State.laneSendBack, ht, hst]; exact .refl

theorem Moves.unlightFirst (w : Win) (ending : Bool) : Moves s (s.unlightFirst w ending) := by
  unfold State.unlightFirst
  split
  · exact Moves.trans (.updTask s _ _ fun _ => by rfl) (.updWin _ w _ fun _ => by rfl)
  · exact .refl

theorem Moves.releaseLock (p : Option Pos) : Moves s (s.releaseLock p) := by
  unfold State.releaseLock
  split
  · exact .updPos s _ _ fun _ => rfl
  · exact .refl

theorem Moves.unlightLast (w : Win) (p : Option Pos) (t : Task) (cause : UnlitCause) :
    Moves s (s.unlightLast w p t cause) := (Moves.releaseLock s p).trans (.noteBench _ _)

theorem Moves.offerTaskEnd (o : TaskOutcome) (t : Task) : Moves s (s.offerTaskEnd o t) := by
  unfold State.offerTaskEnd
  split
  · exact .offer s _
  · exact .refl

theorem Moves.endRecord (o : TaskOutcome) (lit : Option Win) (t : Task) : Moves s (s.endRecord o lit t) := by
  unfold State.endRecord
  refine Moves.trans ?_ (((Moves.noteOrder _ _).trans (.offerTaskEnd _ o t)).trans (.dropTask _ _))
  split
  · exact .unlightFirst s _ true
  · exact .refl

end

theorem Moves.swapIfReady {swap : Pos → State → State} (hs : ∀ p s, Moves s (swap p s)) (p : Option Pos) (s : State) :
    Moves s (s.swapIfReady swap p) := by
  unfold State.swapIfReady
  split
  · split
    · exact hs _ s
    · exact .refl
  · exact .refl

theorem Moves.afterUnlit {swap : Pos → State → State} (hs : ∀ p s, Moves s (swap p s)) (o : TaskOutcome) (p : Option Pos)
    (id : ToteId) (s : State) : Moves s (s.afterUnlit swap o p id) := by
  unfold State.afterUnlit
  split
  · exact .eitherOrder (Moves.swapIfReady hs p) (fun s => .releaseTote s id) s
  · exact (Moves.swapIfReady hs p s).trans (.releaseTote _ id)

theorem Moves.endWith {swap : Pos → State → State} (hs : ∀ p s, Moves s (swap p s)) (o : TaskOutcome) (c : UnlitCause)
    (lit : Option Win) (id : TaskId) (s : State) : Moves s (s.endWith swap o c lit id) := by
  unfold State.endWith
  split
  · exact .refl
  · split
    · exact (Moves.endRecord s o none _).trans (.releaseTote _ _)
    · exact ((Moves.endRecord s o _ _).trans (.unlightLast _ _ _ _ _)).trans (.afterUnlit hs _ _ _ _)

theorem Moves.endAll {f : TaskId → State → State} (hf : ∀ id s, Moves s (f id s)) (ids : List TaskId) (s : State) :
    Moves s (s.endAll f ids) := Moves.foldl (fun s id => hf id s) ids s

theorem Moves.endInSwap (id : TaskId) (s : State) : Moves s (s.endInSwap id) := .endWith (fun _ _ => .refl) _ _ _ _ _

theorem Moves.swapOut (p : Pos) (s : State) : Moves s (s.swapOut p) := by
  unfold State.swapOut
  split
  · exact Moves.trans (.direct s _) (.trans (.updPos _ p _ fun _ => by rfl) (.endAll Moves.endInSwap _ _))
  · exact .refl

theorem Moves.endTask (o : TaskOutcome) (id : TaskId) (s : State) : Moves s (s.endTask o id) := .endWith Moves.swapOut _ _ _ _ _

theorem Moves.endTasks (o : TaskOutcome) (ids : List TaskId) (s : State) : Moves s (s.endAll (State.endTask o) ids) :=
  .endAll (Moves.endTask o) ids s

section
variable (s : State)

theorem Moves.unlight (w : Win) (c : UnlitCause) : Moves s (s.unlight w c) := by
  unfold State.unlight
  split
  · exact (Moves.unlightFirst s w false).trans (.unlightLast _ _ _ _ _)
  · exact .refl

theorem Moves.enterClosing (p : Pos) : Moves s (s.enterClosing p) := by
  unfold State.enterClosing
  dsimp only
  split
  · exact Moves.trans (.updPos s p _ fun _ => by rfl) (.swapOut p _)
  · exact .updPos s p _ fun _ => rfl

theorem Moves.light (w : Win) (c : Task × Pos) : Moves s (s.light w c) :=
  Moves.trans (.updTask s c.1.id _ fun _ => by rfl) (.trans (.updPos _ c.2 _ fun _ => by rfl)
    (.trans (.updWin _ w _ fun _ => by rfl) (.noteBench _ _)))

theorem Moves.chooseAt (w : Win) : Moves s (s.chooseAt w) := by
  unfold State.chooseAt
  split
  · exact .light s w _
  · exact .refl

theorem Moves.chooseBoth : Moves s s.chooseBoth := by
  unfold State.chooseBoth
  split
  · split
    · exact (Moves.chooseAt s _).trans (.chooseAt _ _)
    · exact .eitherOrder (fun s => .chooseAt s .w0) (fun s => .chooseAt s .w1) s
  · exact (Moves.chooseAt s .w0).trans (.chooseAt _ .w1)

theorem Moves.setBlock (w : Win) : Moves s (s.setBlock w) := by
  unfold State.setBlock
  split
  · split
    · exact .refl
    · split
      · exact .markFinished s w
      · exact .updWin s w _ fun _ => rfl
  · exact .updWin s w _ fun _ => rfl

theorem Moves.swapAt (p : Pos) : Moves s (s.swapAt p) := by
  unfold State.swapAt
  split
  · exact .swapOut p s
  · exact .refl

theorem Moves.workWindows : Moves s s.workWindows :=
  ((((Moves.foldl (fun s p => Moves.swapAt s p) allPos s).trans (.finishBoth _)).trans (.chooseBoth _)).trans
    (.setBlock _ .w0)).trans (.setBlock _ .w1)

/-- A fetch of a lane tote: the direction, the records, the top stood down (R81, R82). -/
theorem State.issueFetch_of_inLane {s : State} {w : Win} {t : Tote} {slot : Slot} (hst : t.state = .inLane slot) :
    s.issueFetch w t = ((s.direct (.fetch t.id slot w)).fetchRecords w t.id slot).unlight w .preempt := by
  simp only [State.issueFetch, hst]
  rfl

@[simp] theorem State.direct_fetchChoice (d : Direction) (w : Win) : (s.direct d).fetchChoice w = s.fetchChoice w := by
  unfold State.direct
  split <;> rfl

theorem Moves.takeFetch (w : Win) : Moves s (s.takeFetch w) := by
  unfold State.takeFetch
  split
  next t hchoice =>
    cases hst : t.state with
    | inLane slot =>
      rw [State.issueFetch_of_inLane hst]
      exact ((Moves.direct s _).tail (.fetch w t slot (by simpa using hchoice) hst)).trans (.unlight _ w _)
    | _ => simp only [State.issueFetch, hst]; exact .refl
  next => exact .refl

theorem Moves.fetchFirst : Moves s s.fetchFirst := by
  unfold State.fetchFirst
  split
  · exact .eitherOrder (fun s => .takeFetch s .w0) (fun s => .takeFetch s .w1) s
  · exact (Moves.takeFetch s .w0).trans (.takeFetch _ .w1)

theorem Moves.settleRounds (n : Nat) : Moves s (s.settleRounds n) := by
  induction n generalizing s with
  | zero => exact .refl
  | succ n ih =>
    unfold State.settleRounds
    dsimp only
    split
    · refine (Moves.workWindows s).trans (Moves.trans ?_ (ih _))
      split
      · exact .refl
      · exact .fetchFirst _
    · exact .workWindows s

theorem Moves.settle : Moves s s.settle := .settleRounds s 16

end

end Sys2Proof.Machine

/-! PROOFS. What every move leaves unchanged, and the statement O26. -/

namespace Sys2Proof.Machine

/-- What the moves leave as it is: the order of the live tasks, of which they only end some; holds and PRES of the windows;
order totes, amounts and lines of the positions; the heads of the queues. -/
structure WorkFrame (s t : State) : Prop where
  tasks : (t.tasks.map Task.core).Sublist (s.tasks.map Task.core)
  holds : ∀ w : Win, (t.win w).holds = (s.win w).holds
  faultCause : ∀ w : Win, (t.win w).faultCause = (s.win w).faultCause
  present : ∀ w : Win, (t.win w).present = (s.win w).present
  positions : ∀ p : Pos, (t.pos p).core = (s.pos p).core
  order : Joins 16 s.orderQueue.entries t.orderQueue.entries
  bench : Joins 16 s.benchQueue.entries t.benchQueue.entries
  directions : Joins 24 s.directions t.directions

theorem Joins.trans {α : Type} {n : Nat} {q r v : List α} (h : Joins n q r) (k : Joins n r v) : Joins n q v :=
  ⟨h.1.trans k.1, fun hq => k.2 (h.2 hq)⟩

theorem WorkFrame.refl (s : State) : WorkFrame s s :=
  ⟨.refl _, fun _ => rfl, fun _ => rfl, fun _ => rfl, fun _ => rfl, .refl 16 _, .refl 16 _, .refl 24 _⟩

theorem WorkFrame.trans {s t u : State} (h : WorkFrame s t) (k : WorkFrame t u) : WorkFrame s u where
  tasks := k.tasks.trans h.tasks
  holds w := (k.holds w).trans (h.holds w)
  faultCause w := (k.faultCause w).trans (h.faultCause w)
  present w := (k.present w).trans (h.present w)
  positions p := (k.positions p).trans (h.positions p)
  order := h.order.trans k.order
  bench := h.bench.trans k.bench
  directions := h.directions.trans k.directions

/-- An update of one window's record that keeps holds and PRES keeps them at both. -/
theorem WorkFrame.updWin (s : State) (w : Win) (f : Window → Window)
    (hf : ∀ x, (f x).holds = x.holds ∧ (f x).faultCause = x.faultCause ∧ (f x).present = x.present) :
    WorkFrame s (s.updWin w f) := by
  have hwin : ∀ v, ((s.updWin w f).win v).holds = (s.win v).holds ∧
      ((s.updWin w f).win v).faultCause = (s.win v).faultCause ∧ ((s.updWin w f).win v).present = (s.win v).present := by
    intro v
    by_cases h : v = w
    · subst h
      rw [State.win_updWin]
      exact hf _
    · rw [State.win_updWin_ne s h]
      exact ⟨rfl, rfl, rfl⟩
  exact { WorkFrame.refl s with
    holds := fun v => (hwin v).1, faultCause := fun v => (hwin v).2.1, present := fun v => (hwin v).2.2 }

/-- Tasks whose records keep their core stay in their order. -/
theorem map_core_map {f : Task → Task} (hf : ∀ t, (f t).core = t.core) (ts : List Task) :
    (ts.map f).map Task.core = ts.map Task.core := by
  rw [List.map_map]
  exact List.map_congr_left fun t _ => hf t

theorem WorkFrame.updTote (s : State) (id : ToteId) (f : Tote → Tote) : WorkFrame s (s.updTote id f) :=
  { WorkFrame.refl s with }

theorem WorkFrame.tasksToWaiting (s : State) (id : ToteId) : WorkFrame s (s.tasksToWaiting id) :=
  { WorkFrame.refl s with
    tasks := by
      unfold State.tasksToWaiting
      dsimp only
      rw [map_core_map fun t => by split <;> rfl] }

theorem WorkFrame.sendRecords (s : State) (w : Win) (id : ToteId) (rest : List ToteId) :
    WorkFrame s (s.sendRecords w id rest) :=
  .trans (.updWin s w _ fun x => by exact ⟨rfl, rfl, rfl⟩) (.trans (.updTote _ id _)
    (.trans (.tasksToWaiting _ id) (.updWin _ w _ fun x => by exact ⟨rfl, rfl, rfl⟩)))

theorem Move.frame {s t : State} (h : Move s t) : WorkFrame s t := by
  cases h with
  | queues order bench directions free horder hbench hdirections =>
    exact { WorkFrame.refl s with order := horder, bench := hbench, directions := hdirections }
  | totes f hf => exact { WorkFrame.refl s with }
  | tasks f hf => exact { WorkFrame.refl s with tasks := by rw [map_core_map hf] }
  | endTasks p => exact { WorkFrame.refl s with tasks := List.filter_sublist.map _ }
  | windows ws hws =>
    refine { WorkFrame.refl s with holds := fun w => ?_, faultCause := fun w => ?_, present := fun w => ?_ }
    · exact congrArg (fun c => c.2.2.2.2.1) (hws w)
    · exact congrArg (fun c => c.2.2.2.2.2.1) (hws w)
    · exact congrArg (fun c => c.2.2.2.2.2.2) (hws w)
  | positions ps hps => exact { WorkFrame.refl s with positions := hps }
  | send w id rest => exact .sendRecords s w id rest
  | laneSend id t slot => exact { WorkFrame.refl s with }
  | fetch w t slot =>
    have hwin : WorkFrame s (s.updWin w fun x => { x with
        fetch := some { tote := t.id, kind := if (s.win w).lift.isEmpty then .plain else .preempting,
                        fetchTimer := some s.fetchMs, atwinSeen := false, presRisen := false, settleTimer := none },
        blockTimer := none }) := .updWin s w _ fun x => ⟨rfl, rfl, rfl⟩
    exact { hwin with }

theorem Moves.frame {s t : State} (h : Moves s t) : WorkFrame s t :=
  h.keep (P := WorkFrame s) (fun hmove hs => hs.trans hmove.frame) (.refl s)

/-- Settles O26: the work of the windows is made of moves, which leave all this as it is. -/
theorem windowWorkFrame : Obligations.WindowWorkFrame := by
  intro s
  have h := (Moves.settle s).frame
  refine ⟨settle_base s, settle_counters s, settle_charged s, ?_, fun w => ⟨h.holds w, h.faultCause w, h.present w⟩,
    fun p => ?_, h.order.1, h.bench.1, h.directions.1⟩
  · simpa [Function.comp_def, Task.core] using h.tasks.map fun c => c.2.1
  · have hpos := h.positions p
    simp only [Position.core, Prod.mk.injEq] at hpos
    exact hpos

end Sys2Proof.Machine

/-! PROOFS. The acts: a move, or one of the few further kinds of change that an event begins or ends with. Every event is
shown once to be made of acts; an invariant of the tables is what every act keeps. -/

namespace Sys2Proof.Machine

/-! ### Acts -/

/-- The totes that a window is answerable for, as its record names them. -/
def Window.held (x : Window) : List ToteId × Option ToteId × Option ToteId :=
  (x.lift, x.fetch.map fun f => f.tote, x.ret.map fun r => r.tote)

/-- The records of a delivery at window `w` of its fetch of tote `id` (R86). -/
def State.deliverRecords (w : Win) (id : ToteId) (s : State) : State :=
  (s.updWin w fun x => { x with lift := id :: x.lift, fetch := none, confirms := 0, blockTimer := none }).updTote id
    fun t => { t with state := .onLift w }

/-- The records of a lost fetch of tote `id` to window `w` (R88). -/
def State.loseRecords (w : Win) (id : ToteId) (s : State) : State :=
  (s.updWin w fun x => { x with fetch := none }).dropTote id

/-- The records of a return to its end at window `w` of tote `id` (R96, R97). -/
def State.returnRecords (w : Win) (id : ToteId) (s : State) : State :=
  (s.updWin w fun x => { x with ret := none }).dropTote id

/-- What the tables hold of a state, with its mode and its queues. -/
structure Stage where
  totes : List Tote
  lane : Vector (Option ToteId) 8
  arrival : List ToteId
  tasks : List Task
  positions : Vector Position 6
  windows : PerWin Window
  mode : Mode
  orderQueue : NoticeQueue
  benchQueue : NoticeQueue
  directions : List Direction

/-- The stage of a state. -/
def State.stage (s : State) : Stage :=
  { totes := s.totes, lane := s.lane, arrival := s.arrival, tasks := s.tasks, positions := s.positions,
    windows := s.windows, mode := s.mode, orderQueue := s.orderQueue, benchQueue := s.benchQueue,
    directions := s.directions }

/-- One act of an event. -/
inductive Act (s : State) : State → Prop
  | move (t : State) (h : Move s t) : Act s t
  /-- What the stage does not show: the base but for the mode, and the counters. -/
  | other (t : State) (h : t.stage = s.stage) : Act s t
  | mode (m : Mode) (hclear : m = .service → s.mode ≠ .service → (s.windowClear .w0 && s.windowClear .w1) = true) :
      Act s { s with mode := m }
  | windows (ws : PerWin Window) (hheld : ∀ w, (ws.get w).held = (s.win w).held)
      (hconfirms : ∀ w, (s.win w).confirms ≤ 255 → (ws.get w).confirms ≤ 255) : Act s { s with windows := ws }
  | records (f : Tote → Tote) (hf : ∀ t, (f t).id = t.id ∧ (f t).recNo = t.recNo ∧ (f t).state = t.state) :
      Act s { s with totes := s.totes.map f }
  | tasks (f : Task → Task) (hid : ∀ t, (f t).id = t.id ∧ (f t).recNo = t.recNo)
      (hf : s.tasksDistinct → ∀ t ∈ s.tasks, t.boundsWf = true → (f t).boundsWf = true) :
      Act s { s with tasks := s.tasks.map f }
  | positions (ps : Vector Position 6)
      (hps : (∀ t ∈ s.tasks, t.boundsWf = true) → ∀ p : Pos, (s.pos p).boundsWf = true → ps[p].boundsWf = true) :
      Act s { s with positions := ps }
  | post (t : Task) (hroom : s.tasks.length < Config.taskRecords) (hnew : s.task? t.id = none)
      (hbounds : t.boundsWf = true) (hno : t.recNo = lowestFree (s.tasks.map fun t => t.recNo)) :
      Act s { s with tasks := insertByNo Task.recNo t s.tasks }
  | enterLane (t : Tote) (slot : Slot) (hnew : s.tote? t.id = none) (hslot : s.lane[slot] = none)
      (hstate : t.state = .inLane slot) (hno : t.recNo = lowestFree (s.totes.map fun t => t.recNo)) :
      Act s (s.admitTote t slot)
  | takeOut (id : ToteId) (t : Tote) (slot : Slot) (ht : s.tote? id = some t) (hst : t.state = .inLane slot) :
      Act s (((s.setSlot slot none).leaveArrival id).dropTote id)
  | leaveLane (id : ToteId) (t : Tote) (slot : Slot) (ht : s.tote? id = some t) (hst : t.state = .leavingLane slot) :
      Act s ((s.setSlot slot none).dropTote id)
  | deliver (w : Win) (f : Fetch) (hf : (s.win w).fetch = some f) : Act s (s.deliverRecords w f.tote)
  | lose (w : Win) (f : Fetch) (hf : (s.win w).fetch = some f) : Act s (s.loseRecords w f.tote)
  | endReturn (w : Win) (id : ToteId) (h : (∃ q, (s.win w).ret = some q ∧ q.tote = id) ∨
      ∃ t, s.tote? id = some t ∧ t.state = .leavingWin w) : Act s (s.returnRecords w id)
  | restart (pins : Pins) (image : Vector SWord 31) (counters : Counters) (free : Nat) (phase : Phase) (line : RstLine)
      (pending : List Instr) :
      Act s { startUp pins image counters free pending with phase := phase, rstLine := line }

/-- Any number of acts, one after the other. -/
def Acts : State → State → Prop := Relation.ReflTransGen Act

@[refl] theorem Acts.refl {s : State} : Acts s s := Relation.ReflTransGen.refl

@[trans] theorem Acts.trans {s t u : State} (h : Acts s t) (k : Acts t u) : Acts s u := Relation.ReflTransGen.trans h k

theorem Act.acts {s t : State} (h : Act s t) : Acts s t := Relation.ReflTransGen.single h

theorem Moves.acts {s t : State} (h : Moves s t) : Acts s t :=
  Relation.ReflTransGen.mono (p := Act) (fun _ _ hmove => Act.move _ hmove) _ _ h

/-- What every act keeps, any number of them keep. -/
theorem Acts.keep {P : State → Prop} (hact : ∀ {s t}, Act s t → P s → P t) {s t : State} (h : Acts s t) (hs : P s) :
    P t := by
  induction h with
  | refl => exact hs
  | tail _ hlast ih => exact hact hlast ih

/-! ### Operations -/

section
variable (s : State)

/-- An update of a window's record that keeps its totes and its confirms. -/
theorem Acts.updWin (w : Win) (f : Window → Window) (hf : (f (s.win w)).held = (s.win w).held)
    (hconfirms : (s.win w).confirms ≤ 255 → (f (s.win w)).confirms ≤ 255) : Acts s (s.updWin w f) := by
  have hcases := PerWin.get_set_cases s.windows w
  refine (Act.windows _ (fun v => ?_) (fun v => ?_)).acts
  · obtain ⟨rfl, h⟩ | ⟨_, h⟩ := hcases v (f (s.windows.get w)) <;> rw [h]
    · exact hf
    · rfl
  · obtain ⟨rfl, h⟩ | ⟨_, h⟩ := hcases v (f (s.windows.get w)) <;> rw [h]
    · exact hconfirms
    · exact id

theorem Acts.updPos (p : Pos) (f : Position → Position)
    (hf : (∀ t ∈ s.tasks, t.boundsWf = true) → (s.pos p).boundsWf = true → (f (s.pos p)).boundsWf = true) :
    Acts s (s.updPos p f) := by
  refine (Act.positions _ fun htasks q hq => ?_).acts
  by_cases h : q = p
  · subst h
    exact (congrArg Position.boundsWf (s.pos_updPos q f)).trans (hf htasks hq)
  · exact (congrArg Position.boundsWf (s.pos_updPos_ne h f)).trans hq

theorem Acts.updTote (id : ToteId) (f : Tote → Tote)
    (hf : ∀ t, (f t).id = t.id ∧ (f t).recNo = t.recNo ∧ (f t).state = t.state) : Acts s (s.updTote id f) :=
  (Act.records _ fun t => by
    split
    · exact hf t
    · exact ⟨rfl, rfl, rfl⟩).acts

theorem Moves.unlightHeld (before after : State) : Moves s (State.unlightHeld before after s) := by
  have hone : ∀ (c : Bool) (w : Win) (u : State), Moves u (if c then u.unlight w .hold else u) := by
    intro c w u
    split
    · exact .unlight u w _
    · exact .refl
  unfold State.unlightHeld
  dsimp only
  split
  · exact .eitherOrder (fun u => hone _ .w0 u) (fun u => hone _ .w1 u) s
  · exact (hone _ _ s).trans (hone _ _ _)

theorem Acts.changeHolds (ws : WinSet) (f : Holds → Holds) : Acts s (s.changeHolds ws f) := by
  have hone : ∀ (w : Win) (u : State), Acts u (if ws.has w then u.updWin w fun x => { x with holds := f x.holds } else u) := by
    intro w u
    split
    · exact .updWin u w _ (by rfl) (by exact id)
    · exact .refl
  exact ((hone .w0 s).trans (hone .w1 _)).trans (Moves.unlightHeld _ _ _).acts

theorem Acts.dropFaults (ws : WinSet) : Acts s (s.dropFaults ws) := by
  have hone : ∀ (w : Win) (u : State), Acts u (if ws.has w then u.updWin w fun x => { x with
      holds := { x.holds with fault := false }, faultCause := none } else u) := by
    intro w u
    split
    · exact .updWin u w _ (by rfl) (by exact id)
    · exact .refl
  exact (hone .w0 s).trans (hone .w1 _)

theorem Acts.takeFault (w : Win) (c : WinFault) (id : ToteId) : Acts s (s.takeFault w c id) :=
  .trans (.updWin s w _ (by rfl) (by exact fun h => h)) (.trans (Moves.unlightHeld _ _ _).acts (Moves.noteBoth _ _).acts)

theorem Acts.pulledFault (w : Win) : Acts s (s.pulledFault w) := by
  unfold State.pulledFault
  split
  · exact (Moves.unlight s w _).acts.trans (.takeFault _ w _ _)
  · exact .refl

theorem Acts.endReturn (w : Win) : Acts s (s.endReturn w) := by
  unfold State.endReturn
  split
  · exact .pulledFault s w
  · exact .refl

/-- What the stage does not show. -/
theorem Acts.other {s t : State} (h : t.stage = s.stage) : Acts s t := (Act.other t h).acts

/-- A change of the counters alone. -/
theorem Acts.count (c : Counters) : Acts s { s with counters := c } :=
  .other rfl

theorem Acts.deliver (w : Win) (settled : Bool) : Acts s (s.deliver w settled) := by
  unfold State.deliver
  split
  · exact .refl
  next f hf =>
    have hcounted : Acts s { (s.deliverRecords w f.tote).tasksToActive f.tote with
        counters := { s.counters with presentations := raise s.counters.presentations 1 } } :=
      (Act.deliver w f hf).acts.trans ((Moves.tasksToActive _ f.tote).acts.trans (.count _ _))
    dsimp only
    refine hcounted.trans ?_
    have hoffer : ∀ u : State, Acts u (match u.tote? f.tote with
        | some t => u.offer (toteEvent .totePresented t (some w))
        | none => u) := by
      intro u
      split
      · exact (Moves.offer u _).acts
      · exact .refl
    split
    · exact (hoffer _).trans (.takeFault _ w _ _)
    · exact hoffer _

theorem Acts.warn (t : Tote) (limit : Nat) : Acts s (s.warn t limit) :=
  .trans (.updTote s t.id _ fun _ => by exact ⟨rfl, rfl, rfl⟩) ((Moves.noteBoth _ _).trans (.offer _ _)).acts

theorem Moves.unlightWas (was : Option (Win × TaskId)) : Moves s (s.unlightWas was) := by
  unfold State.unlightWas
  split
  · exact .unlightFirst s _ true
  · exact .refl

theorem Moves.failExpired (t : Tote) : Moves s (s.failExpired t) :=
  (Moves.unlightWas s _).trans (.endAll (f := State.endExpired (s.litTop t.id))
    (fun _ s => .endWith Moves.swapOut _ _ _ _ s) _ _)

theorem Moves.leaveExpired (t : Tote) : Moves s (s.leaveExpired t) := by
  unfold State.leaveExpired
  split
  · exact .laneSendBack s t.id
  · split
    · exact .finishAndSend s _
    · exact .refl
  · exact .refl

theorem Moves.ownersExpire (t : Tote) : Moves s (s.ownersExpire t) :=
  (Moves.failExpired s t).trans (.leaveExpired _ t)

theorem Acts.expire (t : Tote) (limit : Nat) : Acts s (s.expire t limit) :=
  .trans (.updTote s t.id _ fun _ => by exact ⟨rfl, rfl, rfl⟩)
    (.trans ((Moves.noteBoth _ _).trans (.offer _ _)).acts (.trans (.count _ _) (Moves.ownersExpire _ t).acts))

theorem Acts.thresholdTest (id : ToteId) : Acts s (s.thresholdTest id) := by
  unfold State.thresholdTest
  split
  · exact .refl
  split
  · exact .refl
  dsimp only
  split <;> split
  · exact (Acts.warn s _ _).trans (.expire _ _ _)
  · exact .expire s _ _
  · exact .warn s _ _
  · exact .refl

theorem Acts.chargeTote (id : ToteId) : Acts s (s.chargeTote id) := by
  unfold State.chargeTote
  split
  · exact .refl
  split
  · exact .refl
  · exact .trans (.updTote s id _ fun _ => by exact ⟨rfl, rfl, rfl⟩) (.thresholdTest _ id)

theorem Acts.settleSensor (reading : Option (BitVec 16)) : Acts s (s.settleSensor reading) := by
  have hset : ∀ e : Exposure, Acts s { s with exposure := e } := fun e =>
    .other rfl
  unfold State.settleSensor
  split
  · dsimp only
    split
    · exact (hset _).trans (Moves.noteBoth _ _).acts
    · exact (hset _).trans (Moves.noteBoth _ _).acts
    · exact hset _
  · dsimp only
    split
    · exact (hset _).trans (Moves.noteBoth _ _).acts
    · exact hset _
  · dsimp only
    split
    · exact (hset _).trans (Moves.noteBoth _ _).acts
    · exact hset _

theorem Acts.accrue (reading : Option (BitVec 16)) : Acts s (s.accrue reading) := by
  have hpass : ∀ (ids : List ToteId) (u : State), Acts u (ids.foldl State.chargeTote u) := by
    intro ids
    induction ids with
    | nil => exact fun u => .refl
    | cons id ids ih => exact fun u => (Acts.chargeTote u id).trans (ih _)
  have hread : Acts s { s with exposure := { s.exposure with readInFlight := false } } := .other rfl
  exact hread.trans ((Acts.settleSensor _ reading).trans (hpass _ _))

end

/-- A found task's record is the only one of its id, where ids are distinct (R39). -/
theorem State.eq_of_task? {s : State} (hdistinct : s.tasksDistinct) {id : TaskId} {t x : Task} (ht : s.task? id = some t)
    (hx : x ∈ s.tasks) (hid : x.id = id) : x = t :=
  List.inj_on_of_nodup_map hdistinct hx (List.mem_of_find?_eq_some ht) (hid.trans (State.id_of_task? ht).symm)

/-- What the bounds of a task record say (R39). -/
theorem Task.boundsWf_iff (t : Task) : t.boundsWf = true ↔ (1 ≤ t.quantity ∧ t.quantity ≤ 99) ∧
    t.confirmed ≤ t.quantity ∧ (1 ≤ t.unitVolume ∧ t.unitVolume ≤ 15) ∧ t.crushClass ≤ 3 := by
  simp only [Task.boundsWf, Bool.and_eq_true, decide_eq_true_eq, and_assoc]

/-- What the bounds of a position record say (R60). -/
theorem Position.boundsWf_iff (q : Position) : q.boundsWf = true ↔ q.fill ≤ 255 ∧ q.floor ≤ 3 := by
  simp only [Position.boundsWf, Bool.and_eq_true, decide_eq_true_eq]

/-- A confirm takes no more than the units remaining (R122). -/
theorem Task.confirmedBy_boundsWf {t : Task} (h : t.boundsWf = true) (count : Nat) :
    (t.confirmedBy count t).boundsWf = true := by
  obtain ⟨hquantity, hconfirmed, hvolume, hcrush⟩ := t.boundsWf_iff.1 h
  have htaken : t.confirmed + unitsTaken t count ≤ t.quantity := by
    unfold unitsTaken
    omega
  exact (Task.boundsWf_iff _).2 ⟨hquantity, htaken, hvolume, hcrush⟩

theorem Acts.putUnits (s : State) (p : Pos) (units volume crushClass : Nat)
    (hcrush : (∀ t ∈ s.tasks, t.boundsWf = true) → crushClass ≤ 3) : Acts s (s.putUnits p units volume crushClass) := by
  have hput : Acts s (s.updPos p fun q => { q with
      fill := min (q.fill + volume * units) 255, floor := max q.floor crushClass }) := by
    refine .updPos s p _ fun htasks hq => ?_
    obtain ⟨_, hfloor⟩ := (Position.boundsWf_iff _).1 hq
    exact (Position.boundsWf_iff _).2 ⟨Nat.min_le_right _ _, Nat.max_le.2 ⟨hfloor, hcrush htasks⟩⟩
  unfold State.putUnits
  dsimp only
  split
  · exact hput.trans (Moves.enterClosing _ p).acts
  · exact hput

theorem Acts.putTask (s : State) (t : Task) (units : Nat)
    (hcrush : (∀ t ∈ s.tasks, t.boundsWf = true) → t.crushClass ≤ 3) : Acts s (s.putTask t units) := by
  unfold State.putTask
  split
  · exact .putUnits s _ _ _ _ hcrush
  · exact .refl

theorem Acts.takeUnits (s : State) (w : Win) {id : TaskId} {t : Task} (ht : s.task? id = some t) (count : Nat) :
    Acts s (s.takeUnits w t count) := by
  have htid := State.id_of_task? ht
  have hmem := List.mem_of_find?_eq_some ht
  have hupd : Acts s (s.updTask t.id (t.confirmedBy count)) := by
    refine (Act.tasks _ (fun x => ?_) fun hdistinct x hx hwf => ?_).acts
    · split <;> exact ⟨rfl, rfl⟩
    · split
      next hid =>
        obtain rfl := State.eq_of_task? hdistinct ht hx (hid.trans htid)
        exact Task.confirmedBy_boundsWf hwf count
      next => exact hwf
  have hcrush : (∀ x ∈ (s.updTask t.id (t.confirmedBy count)).tasks, x.boundsWf = true) → t.crushClass ≤ 3 := by
    intro h
    have hnew : t.confirmedBy count t ∈ (s.updTask t.id (t.confirmedBy count)).tasks :=
      List.mem_map.2 ⟨t, hmem, if_pos rfl⟩
    exact ((Task.boundsWf_iff _).1 (h _ hnew)).2.2.2
  exact hupd.trans ((Acts.putTask _ t _ hcrush).trans (.trans
    (.updWin _ w _ (by rfl) fun _ => Nat.min_le_right _ _) (.count _ _)))

theorem Acts.confirm (s : State) (w : Win) {id : TaskId} {t : Task} (ht : s.task? id = some t) (count : Nat) :
    Acts s (s.confirm w t count) := by
  rw [State.confirm_eq]
  split
  · exact (Acts.takeUnits s w ht count).trans (Moves.endTask _ _ _).acts
  · exact .takeUnits s w ht count

section
variable (s : State)

/-- TOTE_LOST of the tote of a fetch (R88). -/
def State.noteLost (w : Win) (f : Fetch) (s : State) : State :=
  match s.tote? f.tote with
  | some r => s.noteOrder (.toteLost r.id r.cls r.account w)
  | none => s

/-- A lost fetch: its notice, its records, its tasks WAITING, the fault (R88). -/
theorem State.loseFetch_eq (w : Win) (f : Fetch) :
    s.loseFetch w f =
      (((s.noteLost w f).loseRecords w f.tote).tasksToWaiting f.tote).takeFault w .fetch f.tote := by
  unfold State.loseFetch State.noteLost
  cases s.tote? f.tote <;> rfl

theorem State.noteLost_win (w v : Win) (f : Fetch) : (s.noteLost w f).win v = s.win v := by
  unfold State.noteLost
  split <;> rfl

theorem Moves.noteLost (w : Win) (f : Fetch) : Moves s (s.noteLost w f) := by
  unfold State.noteLost
  split
  · exact .noteOrder s _
  · exact .refl

theorem Acts.loseFetch (w : Win) {f : Fetch} (hf : (s.win w).fetch = some f) : Acts s (s.loseFetch w f) := by
  rw [State.loseFetch_eq]
  have hlose := Act.lose w f ((congrArg Window.fetch (s.noteLost_win w w f)).trans hf)
  exact (Moves.noteLost s w f).acts.trans (hlose.acts.trans ((Moves.tasksToWaiting _ _).acts.trans (.takeFault _ w _ _)))

theorem Moves.noteUnswapped (p : Pos) : Moves s (s.noteUnswapped p) := by
  unfold State.noteUnswapped
  split
  · exact .noteOrder s _
  · exact .refl

theorem Acts.emptyPosition (p : Pos) : Acts s (s.emptyPosition p) :=
  .updPos s p _ fun _ _ => by rfl

theorem Acts.presFalls (w : Win) : Acts s (s.presFalls w) := by
  unfold State.presFalls
  split
  next f hf => exact .updWin s w _ (by simp [Window.held, hf]) (by exact id)
  next =>
    have hlow : Acts s (s.updWin w fun x => { x with present := false }) := .updWin s w _ (by rfl) (by exact id)
    dsimp only
    split
    · exact hlow.trans ((Acts.pulledFault _ w).trans (Moves.settle _).acts)
    · exact hlow

theorem Acts.presRises (w : Win) : Acts s (s.presRises w) := by
  unfold State.presRises
  split
  · exact .updWin s w _ (by rfl) (by exact id)
  next f hf =>
    have hhigh : Acts s (s.updWin w fun x => { x with present := true, fetch := some { f with presRisen := true } }) :=
      .updWin s w _ (by simp [Window.held, hf]) (by exact id)
    dsimp only
    split
    · exact hhigh.trans ((Acts.deliver _ w _).trans (Moves.settle _).acts)
    · exact hhigh

theorem Acts.seeAtWin (w : Win) {f : Fetch} (hf : (s.win w).fetch = some f) : Acts s (s.seeAtWin w f) := by
  unfold State.seeAtWin
  split
  · exact .trans (.updWin s w _ (by simp [Window.held, hf]) (by exact id)) ((Acts.deliver _ w _).trans (Moves.settle _).acts)
  · exact .updWin s w _ (by simp [Window.held, hf]) (by exact id)

theorem Acts.pposFalls (p : Pos) : Acts s (s.pposFalls p) := by
  have hpull : ∀ before : PrePull, Acts s (s.updPos p fun q => { q with
      present := false, state := .pulled, beforePull := some before }) := fun before => .updPos s p _ fun _ => by exact id
  unfold State.pposFalls
  dsimp only
  split
  · split
    · exact (hpull _).trans ((Moves.unlight _ _ _).trans (.settle _)).acts
    · exact (hpull _).trans (Moves.settle _).acts
  · split
    · exact (hpull _).trans ((Moves.unlight _ _ _).trans (.settle _)).acts
    · exact (hpull _).trans (Moves.settle _).acts
  · exact .updPos s p _ fun _ => by exact id

theorem Acts.pposRises (p : Pos) : Acts s (s.pposRises p) := by
  have hback : Acts s (s.updPos p fun q => { q with present := true }) := .updPos s p _ fun _ => by exact id
  unfold State.pposRises
  dsimp only
  split
  · exact hback.trans ((Moves.updPos _ p _ fun _ => by rfl).trans (.settle _)).acts
  · exact hback.trans ((Moves.enterClosing _ p).trans (.settle _)).acts
  · exact hback

theorem Acts.press (p : Pos) : Acts s (s.press p) := by
  unfold State.press
  split
  next w t hlit =>
    have ht : ∃ id, s.task? id = some t := by
      unfold State.litTo at hlit
      split at hlit
      · obtain ⟨x, hx, heq⟩ := Option.map_eq_some_iff.1 hlit
        obtain ⟨id, _, hid⟩ := Option.bind_eq_some_iff.1 hx
        exact ⟨id, by rw [hid, (Prod.mk.inj heq).2]⟩
      · cases hlit
    obtain ⟨id, ht⟩ := ht
    split
    · exact (Acts.confirm s w ht _).trans (Moves.settle _).acts
    · exact .refl
  next => exact .refl

theorem Acts.setMode (m : Mode)
    (hclear : m = .service → s.mode ≠ .service → (s.windowClear .w0 && s.windowClear .w1) = true) :
    Acts s (s.setMode m) := by
  unfold State.setMode
  split
  · exact .refl
  split
  · exact (Act.mode m hclear).acts.trans (Moves.settle _).acts
  · exact (Act.mode m hclear).acts

theorem Acts.setHoldLine (b : Bool) : Acts s (s.setHoldLine b) := by
  have hline : Acts s { s with holdLine := b } := .other rfl
  exact hline.trans ((Acts.changeHolds _ _ _).trans (Moves.settle _).acts)

theorem Moves.swapOutList (ps : List Pos) : Moves s (s.swapOutList ps) := by
  have hswaps : ∀ (qs : List Pos) (u : State), Moves u (qs.foldl (fun s p => s.swapOut p) u) :=
    Moves.foldl fun u p => .swapOut p u
  unfold State.swapOutList
  split
  · split
    · exact (Moves.free s _).trans (hswaps _ _)
    · exact (Moves.free s _).trans (hswaps _ _)
  · exact hswaps _ _

theorem Moves.clearStep7 (swaps : List Pos) : Moves s (s.clearStep7 swaps) := by
  unfold State.clearStep7
  split
  · exact .finishBoth s
  · have htests : Moves s { (s.finishTest .w0).finishTest .w1 with
        free := ((s.finishTest .w0).finishTest .w1).free + 1 } :=
      ((Moves.finishTest s .w0).trans (.finishTest _ .w1)).trans (.free _ _)
    dsimp only
    split
    · exact htests.trans (((Moves.free _ _).trans (.sendIfDue _ _)).trans ((Moves.swapOutList _ _).trans (.sendIfDue _ _)))
    · exact htests.trans (.eitherOrder (fun u => .swapOutList u swaps) (fun u => .sendBoth u) _)

theorem Moves.clearTasks : Moves s s.clearTasks := by
  have htasks : Moves s { s with tasks := [] } := by
    have h := Moves.single (Move.endTasks (s := s) fun _ => false)
    rwa [show s.tasks.filter (fun _ => false) = [] from List.filter_eq_nil_iff.2 (by simp)] at h
  refine htasks.trans (.trans (.single (.windows ⟨s.windows.w0.clearLit, s.windows.w1.clearLit⟩ fun w => ?_))
    (.single (.positions _ fun p => ?_)))
  · cases w <;> rfl
  · simp [Vector.getElem_mk, State.pos, Position.core]

theorem Acts.clearBench : Acts s s.clearBench := by
  have hmode : Acts (s.clearTasks.noteBoth .benchCleared) { s.clearTasks.noteBoth .benchCleared with mode := .drain } :=
    (Act.mode .drain nofun).acts
  have hholds : Acts s s.clearTasks.clearModeHolds :=
    ((Moves.clearTasks s).trans (.noteBoth _ _)).acts.trans (hmode.trans ((Acts.changeHolds _ _ _).trans (Moves.sendBoth _).acts))
  have hwatches : Acts s.clearTasks.clearModeHolds s.clearTasks.clearModeHolds.clearWatchesCursors := .other rfl
  have horphans : ∀ u : State, Moves u (u.clearOrphans s.tasks) := fun u => .single (.totes _ fun t => by
    split
    · split <;> exact ⟨rfl, rfl⟩
    · exact ⟨rfl, rfl⟩)
  exact hholds.trans (hwatches.trans ((horphans _).trans (.clearStep7 _ _)).acts)

theorem Acts.arrive (id : ToteId) (l : Slot) (c : TempClass) (brought : BitVec 24) (hnew : s.tote? id = none)
    (hslot : s.lane[l] = none) : Acts s (s.arrive (s.newTote id l c brought) l) := by
  have hadmit : Acts s (s.admitTote (s.newTote id l c brought) l) := (Act.enterLane _ l hnew hslot rfl rfl).acts
  exact hadmit.trans (((Moves.endTasks _ _ _).trans (.tasksToReady _ _)).acts.trans
    ((Acts.thresholdTest _ _).trans (Moves.startOrphan _ _).acts))

theorem Moves.condemn (w : Win) (id : ToteId) : Moves s (s.condemn w id) :=
  ((Moves.markFinished s w).trans (.endTasks _ _ _)).trans (.sendIfDue _ w)

/-- The record of an accepted POST keeps its bounds (R39, R42, R43). -/
theorem newTask_boundsWf {task : TaskId} {tote : ToteId} {orderTote : OrderToteId} {sku : Sku} {c : TempClass}
    {quantity unitVolume crushClass : Byte}
    (h : postInRange task tote orderTote quantity unitVolume crushClass = true) :
    (s.newTask task tote orderTote sku c quantity unitVolume crushClass).boundsWf = true := by
  simp only [postInRange, Bool.and_eq_true, decide_eq_true_eq] at h
  obtain ⟨⟨⟨_, hquantity⟩, hvolume⟩, hcrush⟩ := h
  exact (Task.boundsWf_iff _).2 ⟨hquantity, Nat.zero_le _, hvolume, hcrush⟩

end

/-- Every event is made of acts. -/
theorem Event.acts {s t : State} {c : Instr} (h : Event s c t) : Acts s t := by
  cases h with
  | nothing => exact .refl
  | restart _ pins image counters free phase line => exact (Act.restart pins image counters free phase line _).acts
  | line | load | setItem | store | storeCompletion | lock | watch | accrualInterval => exact .other rfl
  | post r task tote orderTote sku cls quantity unitVolume crushClass c hmode hrange hnew hroom =>
    exact (Act.post _ hroom hnew (newTask_boundsWf s hrange) rfl).acts.trans
      ((Moves.updTote _ _ _ fun _ => by exact ⟨rfl, rfl⟩).trans (.settle _)).acts
  | withdraw r task => exact ((Moves.endTask _ _ _).trans (.settle _)).acts
  | rush r tote => exact ((Moves.updTote s _ _ fun _ => by exact ⟨rfl, rfl⟩).trans (.settle _)).acts
  | bind r pos orderTote cls capacity p c =>
    exact .trans (.updPos s p _ fun _ _ => by rfl) ((Moves.endTasks _ _ _).trans (.settle _)).acts
  | close r pos p => exact ((Moves.enterClosing s p).trans (.settle _)).acts
  | mode r mode m hclear => exact .setMode s m hclear
  | clear r => exact (Acts.clearBench s).trans (Moves.settle _).acts
  | toteIn r id slot cls brought l c hnew hslot => exact (Acts.arrive s id l c brought hnew hslot).trans (Moves.settle _).acts
  | toteOut r id t slot ht hst => exact (Act.takeOut id t slot ht hst).acts.trans (Moves.tasksToWaiting _ id).acts
  | atWin r id window w f hf => exact .seeAtWin s w hf
  | goneLane r id t slot ht hst =>
    have hid := (State.mem_of_tote? ht).2
    exact (Act.leaveLane t.id t slot (hid ▸ ht) hst).acts.trans (Moves.offer _ _).acts
  | goneWindow r id t w ht hst =>
    have hid := (State.mem_of_tote? ht).2
    exact (Act.endReturn w t.id (.inr ⟨t, hid ▸ ht, hst⟩)).acts.trans
      ((Moves.offer _ _).acts.trans ((Acts.endReturn _ w).trans (Moves.settle _).acts))
  | swapped r pos p => exact .emptyPosition s p
  | picked r id count t w ht => exact (Acts.confirm s w ht _).trans (Moves.settle _).acts
  | short r id =>
    exact (Acts.count s _).trans ((Moves.endTask _ _ _).trans (.settle _)).acts
  | toteBad r id w => exact ((Moves.condemn s w id).trans (.settle _)).acts
  | hold r windows ws => exact (Acts.changeHolds s _ _).trans (Moves.settle _).acts
  | resume r windows ws => exact (Acts.changeHolds s _ _).trans (Moves.settle _).acts
  | resumeBench r windows ws =>
    exact (Acts.changeHolds s _ _).trans ((Acts.dropFaults _ ws).trans (Moves.settle _).acts)
  | accrual reading => exact (Acts.accrue s reading).trans (Moves.settle _).acts
  | orphan id => exact (Moves.laneSendBack s id).acts
  | laneReturn id t slot ht hst => exact (Act.leaveLane id t slot ht hst).acts.trans (Moves.noteOrder _ _).acts
  | presRise w => exact .presRises s w
  | presFall w => exact .presFalls s w
  | settleExpiry w => exact (Acts.deliver s w true).trans (Moves.settle _).acts
  | fetchTimeout w f hf => exact (Acts.loseFetch s w hf).trans (Moves.settle _).acts
  | windowReturn w q hq =>
    exact (Act.endReturn w q.tote (.inl ⟨q, hq, rfl⟩)).acts.trans
      ((Moves.noteOrder _ _).acts.trans ((Acts.endReturn _ w).trans (Moves.settle _).acts))
  | blockStands w => exact (Moves.updWin s w _ fun _ => by rfl).acts
  | blockEnds w => exact ((Moves.updWin s w _ fun _ => by rfl).trans ((Moves.markFinished _ w).trans (.settle _))).acts
  | swapTimeout p => exact (Moves.noteUnswapped s p).acts.trans (.emptyPosition _ p)
  | pposFall p => exact .pposFalls s p
  | pposRise p => exact .pposRises s p
  | press p => exact .trans (.updPos s p _ fun _ => by exact id) (.press _ p)
  | button _ p => exact .updPos s p _ fun _ => by exact id
  | guardEnds w => exact (Moves.updWin s w _ fun _ => by rfl).acts
  | overdue w t =>
    exact ((Moves.updWin s w _ fun _ => by rfl).trans ((Moves.updTask _ _ _ fun _ => by rfl).trans (.noteBoth _ _))).acts
  | await id => exact (Moves.endTask _ _ _).acts
  | holdLine _ b => exact .setHoldLine s b

end Sys2Proof.Machine

/-! PROOFS. The link ports between events (R159, R167 to R169), and the statement O54. -/

namespace Sys2Proof.Machine

/-! ### What keeps the ports well formed -/

/-- The queues are within their places (R168, R169). -/
def State.queuesWf (s : State) : Prop :=
  s.orderQueue.entries.length ≤ 16 ∧ s.benchQueue.entries.length ≤ 16 ∧ s.directions.length ≤ 24

/-- The ports are well formed when the queues are within their places, idle transmitters have nothing to send, and a STORE
reply waits for a full slot only. -/
theorem State.linksWf_iff (s : State) :
    s.linksWf = true ↔ s.queuesWf ∧ (∀ l : Link, s.restsEmpty l = true) ∧ s.filled = true := by
  have hlinks : (∀ l : Link, s.restsEmpty l = true) ↔
      s.restsEmpty .order = true ∧ s.restsEmpty .transport = true ∧ s.restsEmpty .bench = true :=
    ⟨fun h => ⟨h _, h _, h _⟩, fun ⟨h1, h2, h3⟩ l => by cases l <;> assumption⟩
  rw [hlinks]
  simp only [State.linksWf, State.queuesWf, State.filled, Bool.and_eq_true, decide_eq_true_eq, and_assoc]
  rfl

/-- Only transmitters, slots, queues and a STORE reply that waits count. -/
theorem State.linksWf_congr {s t : State} (hs : s.linksWf = true)
    (hports : ∀ l, (t.port l).transmitter = (s.port l).transmitter ∧ (t.port l).replySlot = (s.port l).replySlot)
    (horder : t.orderQueue = s.orderQueue) (hbench : t.benchQueue = s.benchQueue) (hdirections : t.directions = s.directions)
    (hwaiting : t.settings.waitingReply = s.settings.waitingReply) : t.linksWf = true := by
  obtain ⟨hqueues, hrest, hfilled⟩ := s.linksWf_iff.1 hs
  have hout : ∀ l, t.outbound l = s.outbound l := by
    intro l
    cases l with
    | order => simp only [State.outbound, horder]
    | transport => simp only [State.outbound, hdirections]
    | bench => simp only [State.outbound, hbench]
  refine t.linksWf_iff.2 ⟨by rwa [State.queuesWf, horder, hbench, hdirections], fun l => ?_, ?_⟩
  · rw [State.restsEmpty, (hports l).1, (hports l).2, hout]
    exact hrest l
  · rwa [State.filled, (hports .order).2, hwaiting]

/-- A queue is no longer than before when its frames are. -/
theorem State.queuesWf_of_outbound {s t : State} (h : ∀ l, (t.outbound l).length ≤ (s.outbound l).length)
    (hs : s.queuesWf) : t.queuesWf := by
  obtain ⟨h1, h2, h3⟩ := hs
  have ho := h .order
  have hb := h .bench
  have ht := h .transport
  simp only [State.outbound, List.length_map] at ho hb ht
  exact ⟨ho.trans h1, hb.trans h2, ht.trans h3⟩

/-- A transmitter that may take makes no queue longer. -/
theorem State.pump_queuesWf {s : State} (l : Link) (hs : s.queuesWf) : (s.pump l).queuesWf := by
  refine State.queuesWf_of_outbound (fun m => ?_) hs
  have hfill : ∀ u : State, u.fillSlot.outbound m = u.outbound m := fun u => (u.fillSlot_frame m).2.1
  have hport : ∀ (u : State) (f : Port → Port), (u.updPort l f).outbound m = u.outbound m := fun u f => by cases m <;> rfl
  obtain ⟨_, h⟩ | ⟨r, _, _, h⟩ | ⟨f, t, _, _, htake, h⟩ | ⟨_, _, _, h⟩ := s.pump_cases l <;> rw [h]
  · rw [hfill]
  · rw [hfill, hport, hfill]
  · obtain ⟨_, _, _, _, hown, hother⟩ := State.takeQueued_frame htake
    rw [hport, ← hfill s]
    by_cases hm : m = l
    · subst hm; omega
    · rw [hother m hm]
  · rw [hfill]

/-- The port of link `l` apart, the links are well formed. -/
def State.linksBut (l : Link) (s : State) : Prop :=
  s.queuesWf ∧ (∀ m : Link, m ≠ l → s.restsEmpty m = true) ∧ s.filled = true

theorem State.linksBut_of_linksWf {s : State} (l : Link) (h : s.linksWf = true) : s.linksBut l := by
  obtain ⟨hqueues, hrest, hfilled⟩ := s.linksWf_iff.1 h
  exact ⟨hqueues, fun m _ => hrest m, hfilled⟩

/-- The transmitter of a link sees to its own port (R167). -/
theorem State.pump_linksWf {s : State} {l : Link} (h : s.linksBut l) : (s.pump l).linksWf = true := by
  obtain ⟨hqueues, hrest, hfilled⟩ := h
  refine (State.linksWf_iff _).2 ⟨State.pump_queuesWf l hqueues, fun m => ?_, State.pump_filled s l⟩
  by_cases hm : m = l
  · subst hm; exact State.pump_restsEmpty s m
  · exact State.pump_restsEmpty_ne hm hfilled (hrest m hm)

/-- A change of a port that empties no slot leaves the other links well formed. -/
theorem State.updPort_linksBut {s : State} {l : Link} (f : Port → Port)
    (hf : (s.port l).replySlot.isSome = true → (f (s.port l)).replySlot.isSome = true) (h : s.linksBut l) :
    (s.updPort l f).linksBut l := by
  obtain ⟨hqueues, hrest, hfilled⟩ := h
  have hout : ∀ m, (s.updPort l f).outbound m = s.outbound m := fun m => by cases m <;> rfl
  refine ⟨hqueues, fun m hm => ?_, ?_⟩
  · rw [State.restsEmpty, s.port_updPort_ne hm, hout]
    exact hrest m hm
  · simp only [State.filled, Bool.or_eq_true] at hfilled ⊢
    refine hfilled.imp id fun hslot => ?_
    by_cases hl : Link.order = l
    · subst hl
      rw [State.port_updPort]
      exact hf hslot
    · rwa [s.port_updPort_ne hl]

theorem State.reply_linksBut {s : State} {l : Link} (r : Reply) (h : s.linksBut l) : (s.reply l r).linksBut l := by
  unfold State.reply
  split
  · exact h
  · exact State.updPort_linksBut _ (fun _ => rfl) h

theorem State.heard_linksBut {s : State} {l : Link} (h : s.linksBut l) : (s.heard l).linksBut l :=
  State.updPort_linksBut _ (by exact id) h

/-- What a link hears changes its receiver alone. -/
theorem State.updPort_linksWf {s : State} (l : Link) (f : Port → Port)
    (hf : ∀ p, (f p).transmitter = p.transmitter ∧ (f p).replySlot = p.replySlot) (h : s.linksWf = true) :
    (s.updPort l f).linksWf = true := by
  refine State.linksWf_congr h (fun m => ?_) rfl rfl rfl rfl
  by_cases hm : m = l
  · subst hm
    rw [State.port_updPort]
    exact hf _
  · rw [s.port_updPort_ne hm]
    exact ⟨rfl, rfl⟩

theorem State.receive_linksWf {s : State} (l : Link) (q : Receiver) (h : s.linksWf = true) :
    (s.receive l q).linksWf = true := by
  unfold State.receive
  split
  · exact State.updPort_linksWf l _ (by exact fun _ => ⟨rfl, rfl⟩) h
  · exact h

theorem State.heard_linksWf {s : State} (l : Link) (h : s.linksWf = true) : (s.heard l).linksWf = true :=
  State.updPort_linksWf l _ (by exact fun _ => ⟨rfl, rfl⟩) h

theorem State.refuse_linksWf {s : State} (r : Req) (k : Byte) (c : Reason) (h : s.linksWf = true) :
    (s.refuse r k c).linksWf = true :=
  State.pump_linksWf (State.reply_linksBut _ (State.linksBut_of_linksWf _ h))

theorem State.answerPort_linksWf {s : State} (r : Req) (k : ReqKind) (c : Reason) (result : List Byte)
    (h : s.linksWf = true) : (s.answerPort r k c result).linksWf = true :=
  State.pump_linksWf (State.reply_linksBut _ (State.linksBut_of_linksWf _ h))

/-- The end of an event leaves the ports well formed, whatever the event left of them (log entry 4). -/
theorem State.conclude_linksWf {s : State} (h : s.queuesWf) : s.conclude.linksWf = true := by
  have hlights : ∀ (ps : List Pos) (u : State), u.queuesWf → (ps.foldl (fun s p => s.driveLight p) u).queuesWf := by
    intro ps
    induction ps with
    | nil => exact fun u hu => hu
    | cons p ps ih =>
      refine fun u hu => ih _ (?_ : (u.driveLight p).queuesWf)
      unfold State.driveLight
      split <;> exact hu
  rw [show s.conclude = ((s.driveLights.pump .order).pump .transport).pump .bench from rfl]
  refine (State.linksWf_iff _).2 ⟨?_, State.pumpAll_restsEmpty _, State.pump_filled _ _⟩
  exact State.pump_queuesWf _ (State.pump_queuesWf _ (State.pump_queuesWf _ (hlights allPos s h)))

theorem State.answer_linksWf {s : State} (r : Req) (k : ReqKind) (c : Reason) (h : s.queuesWf) :
    (s.answer r k c).linksWf = true := by
  refine State.conclude_linksWf ?_
  unfold State.reply
  split <;> exact h

/-! ### What the events do to the queues -/

/-- Every act keeps the queues within their places. -/
theorem Act.queuesWf {s t : State} (h : Act s t) (hs : s.queuesWf) : t.queuesWf := by
  cases h with
  | move t h =>
    have hframe := h.frame
    exact ⟨hframe.order.2 hs.1, hframe.bench.2 hs.2.1, hframe.directions.2 hs.2.2⟩
  | other t h =>
    have horder : t.orderQueue = s.orderQueue := congrArg Stage.orderQueue h
    have hbench : t.benchQueue = s.benchQueue := congrArg Stage.benchQueue h
    have hdirections : t.directions = s.directions := congrArg Stage.directions h
    rwa [State.queuesWf, horder, hbench, hdirections]
  | restart => exact ⟨Nat.zero_le _, Nat.zero_le _, Nat.zero_le _⟩
  | _ => exact hs

theorem Event.queuesWf {s t : State} {c : Instr} (h : Event s c t) (hs : s.linksWf = true) : t.queuesWf :=
  h.acts.keep Act.queuesWf (s.linksWf_iff.1 hs).1

/-! ### Requests -/

/-- Does the port conclude the event of this answer? Not where its port alone has a frame to send, nor where it is
answered later. -/
def Answer.concludes : Answer → Bool
  | .refused _ => true
  | .portOnly _ _ _ => false
  | .taken _ _ => true
  | .deferred _ => false

/-- A request whose owner has the event concluded. -/
theorem serve_linksWf {k : ReqKind} {r : Req} {owner : State → Answer} {s : State} {c : Instr} (hs : s.linksWf = true)
    (hends : (owner (s.heard r.link)).concludes = true)
    (howner : ∀ v : State, (owner (s.heard r.link)).state? = some v → Event (s.heard r.link) c v) :
    (s.serve k r owner).linksWf = true := by
  have hheard := State.heard_linksWf r.link hs
  unfold State.serve
  split
  · exact hs
  split
  · exact hheard
  split
  · exact State.refuse_linksWf _ _ _ hheard
  split
  next => exact State.refuse_linksWf _ _ _ hheard
  next t a b h => rw [h] at hends; cases hends
  next t a h => exact State.answer_linksWf _ _ _ ((howner t (by rw [h]; rfl)).queuesWf hheard)
  next t h => rw [h] at hends; cases hends

/-- A request whose owner leaves the ports well formed as they are. -/
theorem serve_linksWf_of_port {k : ReqKind} {r : Req} {owner : State → Answer} {s : State} (hs : s.linksWf = true)
    (howner : ∀ v : State, (owner (s.heard r.link)).state? = some v → v.linksWf = true) :
    (s.serve k r owner).linksWf = true := by
  have hheard := State.heard_linksWf r.link hs
  unfold State.serve
  split
  · exact hs
  split
  · exact hheard
  split
  · exact State.refuse_linksWf _ _ _ hheard
  split
  next => exact State.refuse_linksWf _ _ _ hheard
  next t a b h => exact State.answerPort_linksWf _ _ _ _ (howner t (by rw [h]; rfl))
  next t a h => exact State.answer_linksWf _ _ _ ((State.linksWf_iff _).1 (howner t (by rw [h]; rfl))).1
  next t h => exact howner t (by rw [h]; rfl)

section
variable (s : State)

theorem ownPost_concludes (task : TaskId) (tote : ToteId) (orderTote : OrderToteId) (sku : Sku)
    (cls quantity unitVolume crushClass : Byte) :
    (ownPost task tote orderTote sku cls quantity unitVolume crushClass s).concludes = true := by
  unfold ownPost; dsimp only; repeat' split
  all_goals rfl

theorem ownWithdraw_concludes (task : TaskId) : (ownWithdraw task s).concludes = true := by
  unfold ownWithdraw; split <;> rfl

theorem ownRush_concludes (id : ToteId) : (ownRush id s).concludes = true := by
  unfold ownRush; repeat' split
  all_goals rfl

theorem ownBind_concludes (pos : Byte) (orderTote : OrderToteId) (cls capacity : Byte) :
    (ownBind pos orderTote cls capacity s).concludes = true := by
  unfold ownBind; repeat' split
  all_goals rfl

theorem ownClose_concludes (pos : Byte) : (ownClose pos s).concludes = true := by
  unfold ownClose; repeat' split
  all_goals rfl

theorem ownMode_concludes (mode : Byte) : (ownMode mode s).concludes = true := by
  unfold ownMode; repeat' split
  all_goals rfl

theorem ownClear_concludes : (ownClear s).concludes = true := by
  unfold ownClear; split <;> rfl

theorem ownToteIn_concludes (id : ToteId) (slot cls : Byte) (brought : BitVec 24) :
    (ownToteIn id slot cls brought s).concludes = true := by
  unfold ownToteIn; repeat' split
  all_goals rfl

theorem ownToteOut_concludes (id : ToteId) : (ownToteOut id s).concludes = true := by
  unfold ownToteOut; repeat' split
  all_goals rfl

theorem ownAtWin_concludes (id : ToteId) (window : Byte) : (ownAtWin id window s).concludes = true := by
  unfold ownAtWin; repeat' split
  all_goals rfl

theorem ownGone_concludes (id : ToteId) : (ownGone id s).concludes = true := by
  unfold ownGone; repeat' split
  all_goals rfl

theorem ownSwapped_concludes (pos : Byte) : (ownSwapped pos s).concludes = true := by
  unfold ownSwapped; repeat' split
  all_goals rfl

theorem ownPicked_concludes (id : TaskId) (count : Byte) : (ownPicked id count s).concludes = true := by
  unfold ownPicked; repeat' split
  all_goals rfl

theorem ownShort_concludes (id : TaskId) : (ownShort id s).concludes = true := by
  unfold ownShort; repeat' split
  all_goals rfl

theorem ownToteBad_concludes (id : ToteId) : (ownToteBad id s).concludes = true := by
  unfold ownToteBad; repeat' split
  all_goals rfl

theorem ownHold_concludes (l : Link) (windows : Byte) : (ownHold l windows s).concludes = true := by
  unfold ownHold; split <;> rfl

theorem ownResume_concludes (l : Link) (windows : Byte) : (ownResume l windows s).concludes = true := by
  unfold ownResume; split <;> rfl

end

/-! ### Every command -/

/-- A change of the settings, the watches or a cursor leaves the ports well formed. -/
theorem ownWatch_linksWf {l : Link} {entry enabled subject : Byte} {low high : BitVec 32} {combine events windows : Byte}
    {s v : State} (hs : s.linksWf = true)
    (h : (ownWatch l entry enabled subject low high combine events windows s).state? = some v) : v.linksWf = true := by
  unfold ownWatch at h
  split at h
  · cases h
  split at h
  · split at h
    · cases h
    split at h
    · obtain rfl := Option.some.inj h; exact hs
    · cases h
  · split at h
    · obtain rfl := Option.some.inj h; exact hs
    · cases h
  · cases h

theorem ownCursor_linksWf {l : Link} {kind index : Byte} {s v : State} (hs : s.linksWf = true)
    (h : (ownCursor l kind index s).state? = some v) : v.linksWf = true := by
  unfold ownCursor at h
  split at h
  · cases h
  split at h
  · cases h
  obtain rfl := Option.some.inj h
  exact State.updPort_linksWf l _ (by exact fun _ => ⟨rfl, rfl⟩) hs

theorem ownSetItem_linksWf {item : Byte} {value : BitVec 16} {s v : State} (hs : s.linksWf = true)
    (h : (ownSetItem item value s).state? = some v) : v.linksWf = true := by
  unfold ownSetItem at h
  split at h
  · cases h
  split at h
  · cases h
  split at h
  · cases h
  dsimp only at h
  split at h
  · cases h
  split at h
  · cases h
  obtain rfl := Option.some.inj h
  exact hs

theorem ownStore_linksWf {tag : Tag} {s v : State} (hs : s.linksWf = true) (h : (ownStore tag s).state? = some v) :
    v.linksWf = true := by
  unfold ownStore at h
  split at h
  · cases h
  split at h
  · cases h
  obtain rfl := Option.some.inj h
  exact hs

theorem ownLock_linksWf {s v : State} (hs : s.linksWf = true) (h : (ownLock s).state? = some v) : v.linksWf = true := by
  unfold ownLock at h
  split at h
  · cases h
  split at h
  · cases h
  obtain rfl := Option.some.inj h
  exact hs

/-- The completion of a store leaves its reply to the order link's slot (R159). -/
theorem completeStore_linksWf {s : State} (job : StoreJob) (readBack : Vector SWord 31) (hs : s.linksWf = true) :
    ((s.completeStore job readBack).pump .order).linksWf = true := by
  obtain ⟨hqueues, hrest, _⟩ := s.linksWf_iff.1 hs
  refine (State.linksWf_iff _).2 ⟨State.pump_queuesWf .order hqueues, fun m => ?_, State.pump_filled _ _⟩
  by_cases hm : m = .order
  · subst hm; exact State.pump_restsEmpty _ _
  · have hfill : ((s.completeStore job readBack).fillSlot).pump .order = (s.completeStore job readBack).pump .order := by
      unfold State.pump
      rw [State.fillSlot_of_filled (State.fillSlot_filled _)]
    rw [← hfill]
    refine State.pump_restsEmpty_ne hm (State.fillSlot_filled _) ?_
    obtain ⟨_, hout, hport⟩ := (s.completeStore job readBack).fillSlot_frame m
    rw [State.restsEmpty, hport hm, hout]
    exact hrest m

/-- An event that has the lights and transmitters conclude it. -/
theorem Event.conclude_linksWf {s t : State} {c : Instr} (h : Event s c t) (hs : s.linksWf = true) :
    t.conclude.linksWf = true := State.conclude_linksWf (h.queuesWf hs)

/-- A command that nothing turns away, or that changes nothing. -/
theorem linksWf_ite {s t : State} {p : Prop} [Decidable p] (hs : s.linksWf = true) (ht : p → t.linksWf = true) :
    (if p then t else s).linksWf = true := by
  split
  next hp => exact ht hp
  next => exact hs

/-- A start empties the ports (R163). -/
theorem startUp_linksWf (pins : Pins) (image : Vector SWord 31) (counters : Counters) (free : Nat) (pending : List Instr) :
    (startUp pins image counters free pending).linksWf = true := rfl

/-- Every command keeps the ports well formed. -/
theorem exec_linksWf {c : Instr} {s t : State} (h : exec c s = .next t) (hs : s.linksWf = true) : t.linksWf = true := by
  cases c with
  | powerOn pins => obtain rfl := Host.Outcome.next.inj h; exact startUp_linksWf _ _ _ _ _
  | rstnFall => obtain rfl := Host.Outcome.next.inj h; split <;> exact hs
  | resetQualified cut =>
    obtain rfl := Host.Outcome.next.inj h
    split
    · exact startUp_linksWf s.levels (s.imageLeft cut) s.counters s.free s.pending
    · exact startUp_linksWf s.levels (s.imageLeft cut) s.counters s.free s.pending
    · exact hs
  | rstnRise pins =>
    obtain rfl := Host.Outcome.next.inj h
    split
    · exact startUp_linksWf _ _ _ _ _
    · exact hs
    · exact hs
  | settingsLoadEnd =>
    obtain rfl := Host.Outcome.next.inj h
    exact linksWf_ite hs fun _ => State.linksWf_congr hs (fun l => by cases l <;> exact ⟨rfl, rfl⟩) rfl rfl rfl rfl
  | frameIgnoredDuringLoad l => obtain rfl := Host.Outcome.next.inj h; exact hs
  | byteStopBitAbort l => obtain rfl := Host.Outcome.next.inj h; exact State.receive_linksWf _ _ hs
  | frameLengthAbandon l n =>
    obtain rfl := Host.Outcome.next.inj h; exact linksWf_ite hs fun _ => State.receive_linksWf _ _ hs
  | frameCrcDiscard l content crc =>
    obtain rfl := Host.Outcome.next.inj h; exact linksWf_ite hs fun _ => State.receive_linksWf _ _ hs
  | formatRefusal r kind body =>
    obtain rfl := Host.Outcome.next.inj h
    refine linksWf_ite hs fun _ => ?_
    have hheard := State.receive_linksWf r.link .hunting hs
    unfold State.refuseFormat
    dsimp only
    split
    · exact hheard
    · exact State.refuse_linksWf _ _ _ hheard
  | frameSent l =>
    obtain rfl := Host.Outcome.next.inj h
    exact linksWf_ite hs fun _ => State.pump_linksWf (State.updPort_linksBut _ (by exact id) (State.linksBut_of_linksWf l hs))
  | post r task tote orderTote sku cls quantity unitVolume crushClass =>
    obtain rfl := Host.Outcome.next.inj h
    exact serve_linksWf hs (ownPost_concludes _ _ _ _ _ _ _ _ _) fun _ => ownPost_event (r := r)
  | withdraw r task =>
    obtain rfl := Host.Outcome.next.inj h
    exact serve_linksWf hs (ownWithdraw_concludes _ _) fun _ => ownWithdraw_event (r := r)
  | rush r id =>
    obtain rfl := Host.Outcome.next.inj h
    exact serve_linksWf hs (ownRush_concludes _ _) fun _ => ownRush_event (r := r)
  | bind r pos orderTote cls capacity =>
    obtain rfl := Host.Outcome.next.inj h
    exact serve_linksWf hs (ownBind_concludes _ _ _ _ _) fun _ => ownBind_event (r := r)
  | close r pos =>
    obtain rfl := Host.Outcome.next.inj h
    exact serve_linksWf hs (ownClose_concludes _ _) fun _ => ownClose_event (r := r)
  | mode r mode =>
    obtain rfl := Host.Outcome.next.inj h
    exact serve_linksWf hs (ownMode_concludes _ _) fun _ => ownMode_event (r := r)
  | clear r =>
    obtain rfl := Host.Outcome.next.inj h
    exact serve_linksWf hs (ownClear_concludes _) fun _ => ownClear_event (r := r)
  | setItem r item value =>
    obtain rfl := Host.Outcome.next.inj h
    exact serve_linksWf_of_port hs fun _ => ownSetItem_linksWf (State.heard_linksWf _ hs)
  | store r =>
    obtain rfl := Host.Outcome.next.inj h
    exact serve_linksWf_of_port hs fun _ => ownStore_linksWf (State.heard_linksWf _ hs)
  | storeCompletion readBack =>
    obtain rfl := Host.Outcome.next.inj h
    split
    · exact hs
    · exact completeStore_linksWf _ _ hs
  | lock r =>
    obtain rfl := Host.Outcome.next.inj h
    exact serve_linksWf_of_port hs fun _ => ownLock_linksWf (State.heard_linksWf _ hs)
  | toteIn r id slot cls brought =>
    obtain rfl := Host.Outcome.next.inj h
    exact serve_linksWf hs (ownToteIn_concludes _ _ _ _ _) fun _ => ownToteIn_event (r := r)
  | toteOut r id =>
    obtain rfl := Host.Outcome.next.inj h
    exact serve_linksWf hs (ownToteOut_concludes _ _) fun _ => ownToteOut_event (r := r)
  | atWin r id window =>
    obtain rfl := Host.Outcome.next.inj h
    exact serve_linksWf hs (ownAtWin_concludes _ _ _) fun _ => ownAtWin_event (r := r)
  | gone r id =>
    obtain rfl := Host.Outcome.next.inj h
    exact serve_linksWf hs (ownGone_concludes _ _) fun _ => ownGone_event (r := r)
  | swapped r pos =>
    obtain rfl := Host.Outcome.next.inj h
    exact serve_linksWf hs (ownSwapped_concludes _ _) fun _ => ownSwapped_event (r := r)
  | picked r id count =>
    obtain rfl := Host.Outcome.next.inj h
    exact serve_linksWf hs (ownPicked_concludes _ _ _) fun _ => ownPicked_event (r := r)
  | short r id =>
    obtain rfl := Host.Outcome.next.inj h
    exact serve_linksWf hs (ownShort_concludes _ _) fun _ => ownShort_event (r := r)
  | toteBad r id =>
    obtain rfl := Host.Outcome.next.inj h
    exact serve_linksWf hs (ownToteBad_concludes _ _) fun _ => ownToteBad_event (r := r)
  | hold r windows =>
    obtain rfl := Host.Outcome.next.inj h
    exact serve_linksWf hs (ownHold_concludes _ _ _) fun _ => ownHold_event (r := r)
  | resume r windows =>
    obtain rfl := Host.Outcome.next.inj h
    exact serve_linksWf hs (ownResume_concludes _ _ _) fun _ => ownResume_event (r := r)
  | read r item index =>
    obtain rfl := Host.Outcome.next.inj h
    exact serve_linksWf_of_port hs fun _ hv => ownRead_tables hv ▸ State.heard_linksWf _ hs
  | list r =>
    obtain rfl := Host.Outcome.next.inj h
    refine serve_linksWf_of_port hs fun _ hv => ?_
    obtain rfl := Option.some.inj hv
    exact State.updPort_linksWf _ _ (by exact fun _ => ⟨rfl, rfl⟩) (State.heard_linksWf _ hs)
  | cursor r kind index =>
    obtain rfl := Host.Outcome.next.inj h
    exact serve_linksWf_of_port hs fun _ => ownCursor_linksWf (State.heard_linksWf _ hs)
  | watch r entry enabled subject low high combine events windows =>
    obtain rfl := Host.Outcome.next.inj h
    exact serve_linksWf_of_port hs fun _ => ownWatch_linksWf (State.heard_linksWf _ hs)
  | accrualIntervalExpiry => obtain rfl := Host.Outcome.next.inj h; exact linksWf_ite hs fun _ => hs
  | accrualEvent reading =>
    obtain rfl := Host.Outcome.next.inj h; exact linksWf_ite hs fun _ => (Event.accrual reading).conclude_linksWf hs
  | orphanExpiry id =>
    obtain rfl := Host.Outcome.next.inj h; exact linksWf_ite hs fun h => (Event.orphan id h).conclude_linksWf hs
  | laneReturnTimeout id =>
    obtain rfl := Host.Outcome.next.inj h
    split
    · exact hs
    next t ht =>
      split
      next slot _ hst _ => exact (Event.laneReturn id t slot ht hst).conclude_linksWf hs
      next => exact hs
  | presRise w =>
    obtain rfl := Host.Outcome.next.inj h; exact linksWf_ite hs fun _ => (Event.presRise w).conclude_linksWf hs
  | presFall w =>
    obtain rfl := Host.Outcome.next.inj h; exact linksWf_ite hs fun _ => (Event.presFall w).conclude_linksWf hs
  | settleExpiry w =>
    obtain rfl := Host.Outcome.next.inj h; exact linksWf_ite hs fun _ => (Event.settleExpiry w).conclude_linksWf hs
  | fetchTimeout w =>
    obtain rfl := Host.Outcome.next.inj h
    split
    · exact hs
    next f hf => exact linksWf_ite hs fun _ => (Event.fetchTimeout w f hf).conclude_linksWf hs
  | windowReturnTimeout w =>
    obtain rfl := Host.Outcome.next.inj h
    split
    · exact hs
    next q hq => exact (Event.windowReturn w q hq).conclude_linksWf hs
  | blockTimerExpiry w =>
    obtain rfl := Host.Outcome.next.inj h
    refine linksWf_ite hs fun hb => ?_
    split
    next hlit => exact hs
    next hlit => exact (Event.blockEnds w (by simpa using hlit)).conclude_linksWf hs
  | swapTimeout p =>
    obtain rfl := Host.Outcome.next.inj h
    exact linksWf_ite hs fun hp => (Event.swapTimeout p hp.1).conclude_linksWf hs
  | pposFall p =>
    obtain rfl := Host.Outcome.next.inj h; exact linksWf_ite hs fun _ => (Event.pposFall p).conclude_linksWf hs
  | pposRise p =>
    obtain rfl := Host.Outcome.next.inj h; exact linksWf_ite hs fun _ => (Event.pposRise p).conclude_linksWf hs
  | btnPress p =>
    obtain rfl := Host.Outcome.next.inj h
    refine linksWf_ite hs fun _ => ?_
    split
    · exact (Event.press p).conclude_linksWf hs
    · exact hs
  | btnRelease p => obtain rfl := Host.Outcome.next.inj h; exact linksWf_ite hs fun _ => hs
  | guardExpiry w => obtain rfl := Host.Outcome.next.inj h; exact linksWf_ite hs fun _ => hs
  | confirmPeriodExpiry w =>
    obtain rfl := Host.Outcome.next.inj h
    refine linksWf_ite hs fun _ => ?_
    split
    next t ht => exact (Event.overdue w t ht).conclude_linksWf hs
    next => exact hs
  | awaitExpiry task =>
    obtain rfl := Host.Outcome.next.inj h; exact linksWf_ite hs fun h => (Event.await task h).conclude_linksWf hs
  | holdLineAsserted =>
    obtain rfl := Host.Outcome.next.inj h
    exact linksWf_ite hs fun _ => (Event.holdLine .holdLineAsserted true).conclude_linksWf hs
  | holdLineReleased =>
    obtain rfl := Host.Outcome.next.inj h
    exact linksWf_ite hs fun _ => (Event.holdLine .holdLineReleased false).conclude_linksWf hs
  | lossOfSupply cut =>
    obtain rfl := Host.Outcome.next.inj h
    split
    · exact hs
    · exact startUp_linksWf s.levels (s.imageLeft cut) s.counters s.free s.pending
  | startByte l => obtain rfl := Host.Outcome.next.inj h; exact State.receive_linksWf _ _ hs

/-- Settles O54: an event leaves the queues within their places, and its end, or the transmitter of the one port that it
changes, sees to the rest. -/
theorem stepKeepsLinks : Obligations.StepKeepsLinks := by
  intro s t hstep hs
  unfold step at hstep
  split at hstep
  next =>
    obtain rfl := Host.Outcome.next.inj hstep
    obtain ⟨_, _, _, h⟩ | h := s.tick_cases <;> rw [h] <;> exact hs
  next c rest _ => exact exec_linksWf hstep hs

end Sys2Proof.Machine

/-! PROOFS. The bounds of the tables and of the windows, kept by every act, and the statements O56 and O57. -/

namespace Sys2Proof.Machine

/-! ### The tables (R39, R60) -/

/-- The bounds of a task record rest on its core. -/
theorem Task.boundsWf_of_core {t x : Task} (h : t.core = x.core) (hx : x.boundsWf = true) : t.boundsWf = true := by
  simp only [Task.core, Prod.mk.injEq] at h
  obtain ⟨_, _, _, _, _, _, hquantity, hconfirmed, hvolume, hcrush⟩ := h
  rwa [Task.boundsWf, hquantity, hconfirmed, hvolume, hcrush]

/-- The bounds of a position record rest on its core. -/
theorem Position.boundsWf_of_core {q x : Position} (h : q.core = x.core) (hx : x.boundsWf = true) : q.boundsWf = true := by
  simp only [Position.core, Prod.mk.injEq] at h
  obtain ⟨_, hfill, hfloor, _⟩ := h
  rwa [Position.boundsWf, hfill, hfloor]

/-- Moves only end tasks and leave their cores, and those of the positions. -/
theorem WorkFrame.tablesWf {s t : State} (h : WorkFrame s t) (hs : s.tablesWf) : t.tablesWf := by
  obtain ⟨hlen, hdistinct, hbounds, hpos⟩ := hs
  refine ⟨?_, ?_, fun x hx => ?_, fun p => Position.boundsWf_of_core (h.positions p) (hpos p)⟩
  · have hle := h.tasks.length_le
    simp only [List.length_map] at hle
    exact hle.trans hlen
  · have hids := h.tasks.map fun c : Nat × TaskId × ToteId × OrderToteId × Sku × TempClass × Nat × Nat × Nat × Nat => c.2.1
    simp only [List.map_map] at hids
    exact hdistinct.sublist hids
  · obtain ⟨y, hy, hyx⟩ := List.mem_map.1 (h.tasks.subset (List.mem_map_of_mem hx))
    exact Task.boundsWf_of_core hyx.symm (hbounds y hy)

/-- The stage has the tables. -/
theorem tablesWf_congr {s t : State} (htasks : t.tasks = s.tasks) (hpositions : ∀ p, (t.pos p).boundsWf = (s.pos p).boundsWf)
    (hs : s.tablesWf) : t.tablesWf := by
  obtain ⟨hlen, hdistinct, hbounds, hpos⟩ := hs
  exact ⟨by rwa [htasks], by rwa [State.tasksDistinct, htasks], by rwa [htasks], fun p => (hpositions p).trans (hpos p)⟩

theorem Act.tablesWf {s t : State} (h : Act s t) (hs : s.tablesWf) : t.tablesWf := by
  have ⟨hlen, hdistinct, hbounds, hpos⟩ := hs
  cases h with
  | move t h => exact h.frame.tablesWf hs
  | other t h =>
    have htasks : t.tasks = s.tasks := congrArg Stage.tasks h
    have hpositions : t.positions = s.positions := congrArg Stage.positions h
    exact tablesWf_congr htasks (fun p => by rw [State.pos, State.pos, hpositions]) hs
  | tasks f hid hf =>
    refine ⟨by simpa using hlen, ?_, fun x hx => ?_, hpos⟩
    · have hids : (s.tasks.map f).map (fun t => t.id) = s.tasks.map fun t => t.id := by
        rw [List.map_map]
        exact List.map_congr_left fun t _ => (hid t).1
      rw [State.tasksDistinct, hids]
      exact hdistinct
    · obtain ⟨y, hy, rfl⟩ := List.mem_map.1 hx
      exact hf hdistinct y hy (hbounds y hy)
  | positions ps hps => exact ⟨hlen, hdistinct, hbounds, fun p => hps hbounds p (hpos p)⟩
  | post t hroom hnew hwf =>
    have hperm := insertByNo_perm Task.recNo t s.tasks
    refine ⟨?_, ?_, fun x hx => ?_, hpos⟩
    · exact hperm.length_eq.trans_le (Nat.succ_le_of_lt hroom)
    · refine (hperm.map _).nodup_iff.2 (List.nodup_cons.2 ⟨fun hmem => ?_, hdistinct⟩)
      obtain ⟨y, hy, hid⟩ := List.mem_map.1 hmem
      exact absurd (List.find?_eq_none.1 hnew y hy) (by simpa using hid)
    · obtain rfl | hmem := List.mem_cons.1 (hperm.mem_iff.1 hx)
      · exact hwf
      · exact hbounds x hmem
  | restart =>
    exact ⟨Nat.zero_le _, List.nodup_nil, nofun, fun p => by fin_cases p <;> rfl⟩
  | _ => exact hs

/-- The tables with lights lit as they may be. -/
theorem tablesWf_of_tables {s t : State} (h : t.tables = s.tables) (hwf : s.tablesWf) : t.tablesWf := by
  have htasks : t.tables.tasks = s.tables.tasks := congrArg _ h
  have hbounds : ∀ p, (t.pos p).unlighted.boundsWf = (s.pos p).unlighted.boundsWf := fun p =>
    congrArg Position.boundsWf (State.unlighted_of_tables h p)
  exact tablesWf_congr (s := s) htasks hbounds hwf

/-- The passing of a millisecond keeps the tables within their bounds. -/
theorem tablesWf_countTimers {s : State} (hwf : s.tablesWf) : s.countTimers.tablesWf := by
  refine tablesWf_congr (s := { s with tasks := s.tasks.map Task.tick }) rfl (fun p => ?_) ?_
  · simp only [State.countTimers, State.pos, Fin.getElem_fin, Vector.getElem_mk, List.getElem_toArray, List.getElem_map,
      Vector.getElem_toList]
    rfl
  · exact WorkFrame.tablesWf (Move.tasks Task.tick fun _ => rfl).frame hwf

/-- Settles O56: every act keeps the tables within their bounds, and so does the passing of a millisecond. -/
theorem stepKeepsTables : Obligations.StepKeepsTables := fun _ _ hstep hs =>
  step_keeps (P := fun s => s.tablesWf) (fun _ _ => tablesWf_of_tables) (fun _ _ _ _ h => h) (fun _ => tablesWf_countTimers)
    (fun _ _ _ hevent hwf => hevent.acts.keep Act.tablesWf hwf) hstep hs

/-! ### The windows (R79, R135) -/

/-- What the bounds of a window record say (R79). -/
theorem Window.liftWf_iff (x : Window) : x.liftWf = true ↔ x.load ≤ 4 ∧ x.confirms ≤ 255 := by
  simp only [Window.liftWf, Bool.and_eq_true, decide_eq_true_eq]

theorem State.liftsWf_iff (s : State) : s.liftsWf = true ↔ ∀ w : Win, (s.win w).liftWf = true := by
  rw [State.liftsWf, Bool.and_eq_true]
  exact ⟨fun ⟨h0, h1⟩ w => by cases w <;> assumption, fun h => ⟨h .w0, h .w1⟩⟩

theorem State.serviceClear_iff (s : State) :
    s.serviceClear = true ↔ (s.mode = .service → ∀ w : Win, s.windowClear w = true) := by
  have hboth : (∀ w : Win, s.windowClear w = true) ↔ (s.windowClear .w0 && s.windowClear .w1) = true := by
    rw [Bool.and_eq_true]
    exact ⟨fun h => ⟨h .w0, h .w1⟩, fun ⟨h0, h1⟩ w => by cases w <;> assumption⟩
  rw [hboth, State.serviceClear]
  cases s.mode <;> simp

/-- The load of a window rests on the totes that its record names. -/
theorem Window.load_of_held {x y : Window} (h : x.held = y.held) : x.load = y.load := by
  simp only [Window.held, Prod.mk.injEq] at h
  obtain ⟨hlift, hfetch, hret⟩ := h
  have hf : x.fetch.isSome = y.fetch.isSome := by
    rw [← Option.isSome_map (f := fun f : Fetch => f.tote), hfetch, Option.isSome_map]
  have hr : x.ret.isSome = y.ret.isSome := by
    rw [← Option.isSome_map (f := fun r : Return => r.tote), hret, Option.isSome_map]
  rw [Window.load, Window.load, hlift, hf, hr]

/-- An empty window is one without load (R135). -/
theorem State.windowClear_iff (s : State) (w : Win) : s.windowClear w = true ↔ (s.win w).load = 0 := by
  unfold State.windowClear Window.load
  cases (s.win w).lift <;> cases (s.win w).fetch <;> cases (s.win w).ret <;> simp

/-- The bounds of the windows; where `strict`, with SERVICE at empty ones only. -/
def State.loadsWf (strict : Prop) (s : State) : Prop :=
  (∀ w : Win, (s.win w).liftWf = true) ∧ (strict → s.mode = .service → ∀ w : Win, (s.win w).load = 0)

/-- A change that raises no load keeps the bounds. -/
theorem loadsWf_of_le {strict : Prop} (s t : State) (hmode : t.mode = s.mode) (hload : ∀ w, (t.win w).load ≤ (s.win w).load)
    (hconfirms : ∀ w, (s.win w).confirms ≤ 255 → (t.win w).confirms ≤ 255) (hs : s.loadsWf strict) : t.loadsWf strict := by
  obtain ⟨hwf, hclear⟩ := hs
  refine ⟨fun w => ?_, fun hstrict hservice w => ?_⟩
  · obtain ⟨hl, hc⟩ := (Window.liftWf_iff _).1 (hwf w)
    exact (Window.liftWf_iff _).2 ⟨(hload w).trans hl, hconfirms w hc⟩
  · exact Nat.le_zero.1 ((hload w).trans_eq (hclear hstrict (hmode ▸ hservice) w))

/-- A change of one window that does not raise its load keeps the bounds. -/
theorem loadsWf_of_win {strict : Prop} (s t : State) (w : Win) (hmode : t.mode = s.mode) (hother : ∀ v, v ≠ w → t.win v = s.win v)
    (hload : (t.win w).load ≤ (s.win w).load) (hconfirms : (s.win w).confirms ≤ 255 → (t.win w).confirms ≤ 255)
    (hs : s.loadsWf strict) : t.loadsWf strict := by
  refine loadsWf_of_le s t hmode (fun v => ?_) (fun v => ?_) hs
  all_goals
    by_cases hv : v = w
    · subst hv; assumption
    · simp [hother v hv]

/-- A fetch opportunity that gives a tote is one in RUN, at a window without a fetch and with room for one (R106, R107). -/
theorem State.fetchChoice_open {s : State} {w : Win} {t : Tote} (h : s.fetchChoice w = some t) :
    s.mode = .run ∧ (s.win w).fetch = none ∧ ((s.win w).lift = [] ∨ (s.win w).lift.length + 1 ≤ (s.win w).liftLimit) := by
  unfold State.fetchChoice at h
  split at h
  next hopen =>
    simp only [State.plainOpen, Bool.and_eq_true, beq_iff_eq, List.isEmpty_iff, Option.isNone_iff_eq_none] at hopen
    exact ⟨hopen.2, hopen.1.1.2, .inl hopen.1.1.1⟩
  next =>
    split at h
    next hopen =>
      simp only [State.preemptOpen, Bool.and_eq_true, beq_iff_eq, decide_eq_true_eq, Option.isNone_iff_eq_none] at hopen
      obtain ⟨⟨⟨⟨⟨⟨_, hfetch⟩, _⟩, hrun⟩, _⟩, _⟩, hroom⟩ := hopen
      exact ⟨hrun, hfetch, .inr hroom⟩
    next => cases h

@[simp] theorem fetchAfterPop_isSome (f : Option Fetch) (rest : List ToteId) : (fetchAfterPop f rest).isSome = f.isSome := by
  simp [fetchAfterPop]

/-- The record of a window that sends its top back (R94). -/
theorem State.sendRecords_win (s : State) (w : Win) (id : ToteId) (rest : List ToteId) :
    (s.sendRecords w id rest).win w = { s.win w with
      lift := rest, fetch := fetchAfterPop (s.win w).fetch rest, blockTimer := none,
      confirms := if rest.isEmpty then (s.win w).confirms else 0, ret := some ⟨id, s.returnMs⟩ } := by
  cases w <;> rfl

theorem State.sendRecords_win_ne (s : State) {v w : Win} (h : v ≠ w) (id : ToteId) (rest : List ToteId) :
    (s.sendRecords w id rest).win v = s.win v :=
  (State.win_updWin_ne _ h _).trans (PerWin.get_set_ne s.windows h _)

/-- The record of a window that fetches a tote (R81). -/
theorem State.fetchRecords_win (s : State) (w : Win) (id : ToteId) (slot : Slot) :
    (s.fetchRecords w id slot).win w = { s.win w with
      fetch := some { tote := id, kind := if (s.win w).lift.isEmpty then .plain else .preempting,
                      fetchTimer := some s.fetchMs, atwinSeen := false, presRisen := false, settleTimer := none },
      blockTimer := none } := by
  cases w <;> rfl

theorem State.fetchRecords_win_ne (s : State) {v w : Win} (h : v ≠ w) (id : ToteId) (slot : Slot) :
    (s.fetchRecords w id slot).win v = s.win v :=
  State.win_updWin_ne _ h _

theorem Move.loadsWf {strict : Prop} {s t : State} (h : Move s t) (hs : s.loadsWf strict) : t.loadsWf strict := by
  cases h with
  | windows ws hws =>
    have hcore := fun w => hws w
    simp only [Window.core, Prod.mk.injEq] at hcore
    refine loadsWf_of_le s _ rfl (fun w => le_of_eq ?_) (fun w => ?_) hs
    · obtain ⟨hlift, hfetch, hret, _⟩ := hcore w
      exact Window.load_of_held (x := ws.get w) (by rw [Window.held, hlift, hfetch, hret]; rfl)
    · exact (hcore w).2.2.2.1.trans_le
  | send w id rest hlift hret =>
    refine loadsWf_of_win s _ w rfl (fun v hv => s.sendRecords_win_ne hv id rest) ?_ (fun hc => ?_) hs
    · rw [s.sendRecords_win w id rest]
      simp only [Window.load, hlift, hret, fetchAfterPop_isSome, List.length_cons, Option.isSome_none, Option.isSome_some,
        if_true, Bool.false_eq_true, if_false]
      omega
    · rw [s.sendRecords_win w id rest]
      dsimp only
      split
      · exact hc
      · exact Nat.zero_le _
  | fetch w t slot hchoice =>
    obtain ⟨hrun, hfetch, hroom⟩ := s.fetchChoice_open hchoice
    obtain ⟨hwf, _⟩ := hs
    refine ⟨fun v => ?_, fun _ hservice => absurd (hrun.symm.trans hservice) (by decide)⟩
    obtain ⟨hl, hc⟩ := (Window.liftWf_iff _).1 (hwf v)
    by_cases hv : v = w
    · subst hv
      refine (Window.liftWf_iff _).2 ⟨?_, ?_⟩
      · rw [s.fetchRecords_win v t.id slot]
        unfold Window.liftLimit at hroom
        simp only [Window.load, Option.isSome_some, if_true]
        obtain hlift | hroom := hroom
        · simp only [hlift, List.length_nil]
          split <;> omega
        · split at hroom <;> simp_all
          omega
      · rw [s.fetchRecords_win v t.id slot]
        exact hc
    · rw [s.fetchRecords_win_ne hv]
      exact hwf v
  | _ => exact hs

/-- The record of a window whose fetch is delivered (R86). -/
theorem State.deliverRecords_win (s : State) (w : Win) (id : ToteId) :
    (s.deliverRecords w id).win w = { s.win w with
      lift := id :: (s.win w).lift, fetch := none, confirms := 0, blockTimer := none } := by
  cases w <;> rfl

theorem State.deliverRecords_win_ne (s : State) {v w : Win} (h : v ≠ w) (id : ToteId) :
    (s.deliverRecords w id).win v = s.win v := PerWin.get_set_ne s.windows h _

/-- The record of a window whose fetch is lost (R88). -/
theorem State.loseRecords_win (s : State) (w : Win) (id : ToteId) :
    (s.loseRecords w id).win w = { s.win w with fetch := none } := by
  cases w <;> rfl

theorem State.loseRecords_win_ne (s : State) {v w : Win} (h : v ≠ w) (id : ToteId) :
    (s.loseRecords w id).win v = s.win v := PerWin.get_set_ne s.windows h _

/-- The record of a window whose return ends (R96, R97). -/
theorem State.returnRecords_win (s : State) (w : Win) (id : ToteId) :
    (s.returnRecords w id).win w = { s.win w with ret := none } := by
  cases w <;> rfl

theorem State.returnRecords_win_ne (s : State) {v w : Win} (h : v ≠ w) (id : ToteId) :
    (s.returnRecords w id).win v = s.win v := PerWin.get_set_ne s.windows h _

/-- The windows after the passing of a millisecond. -/
theorem State.countTimers_win (s : State) (w : Win) : s.countTimers.win w = (s.win w).tick := by cases w <;> rfl

theorem Window.tick_held (x : Window) : x.tick.held = x.held := by
  simp only [Window.held, Window.tick, Option.map_map]
  rfl

theorem Act.loadsWf {strict : Prop} {s t : State} (h : Act s t) (hs : s.loadsWf strict) : t.loadsWf strict := by
  cases h with
  | move t h => exact h.loadsWf hs
  | other t h =>
    have hwindows : t.windows = s.windows := congrArg Stage.windows h
    refine loadsWf_of_le s t (congrArg Stage.mode h) (fun w => ?_) (fun w => ?_) hs
    all_goals simp [State.win, hwindows]
  | mode m hclear =>
    refine ⟨hs.1, fun hstrict hservice w => ?_⟩
    by_cases hmode : s.mode = .service
    · exact hs.2 hstrict hmode w
    · have hboth := Bool.and_eq_true _ _ |>.mp (hclear hservice hmode)
      have hw : s.windowClear w = true := by
        cases w
        · exact hboth.1
        · exact hboth.2
      exact (s.windowClear_iff w).1 hw
  | windows ws hheld hconfirms =>
    exact loadsWf_of_le s _ rfl (fun w => (Window.load_of_held (x := ws.get w) (hheld w)).le) hconfirms hs
  | deliver w f hf =>
    have hwin := s.deliverRecords_win w f.tote
    refine loadsWf_of_win s _ w rfl (fun v hv => s.deliverRecords_win_ne hv _) ?_ (fun _ => ?_) hs <;> rw [hwin]
    · simp [Window.load, hf]
    · exact Nat.zero_le _
  | lose w f hf =>
    have hwin := s.loseRecords_win w f.tote
    refine loadsWf_of_win s _ w rfl (fun v hv => s.loseRecords_win_ne hv _) ?_ (fun hc => ?_) hs <;> rw [hwin]
    · simp [Window.load]
    · exact hc
  | endReturn w id _ =>
    have hwin := s.returnRecords_win w id
    refine loadsWf_of_win s _ w rfl (fun v hv => s.returnRecords_win_ne hv _) ?_ (fun hc => ?_) hs <;> rw [hwin]
    · simp [Window.load]
    · exact hc
  | restart => exact ⟨fun w => by cases w <;> rfl, fun _ _ w => by cases w <;> rfl⟩
  | _ => exact hs

/-- Settles O57: every act keeps the bounds of the windows, with SERVICE at empty ones only, and so does the passing of a
millisecond. -/
theorem stepKeepsLifts : Obligations.StepKeepsLifts := by
  intro s t hstep hlifts hservice
  have hiff : ∀ u : State, u.loadsWf True ↔ u.liftsWf = true ∧ u.serviceClear = true := fun u => by
    simp only [State.loadsWf, true_implies, State.liftsWf_iff, State.serviceClear_iff, State.windowClear_iff]
  refine (hiff t).1 (step_keeps (P := State.loadsWf True) ?_ (fun _ _ _ _ h => h) ?_ ?_ hstep ((hiff s).2 ⟨hlifts, hservice⟩))
  · intro s t h hwf
    obtain ⟨hwindows, hmode⟩ : t.tables.windows = s.tables.windows ∧ t.tables.mode = s.tables.mode :=
      ⟨congrArg _ h, congrArg _ h⟩
    change t.windows = s.windows at hwindows
    refine loadsWf_of_le s t hmode (fun w => ?_) (fun w => ?_) hwf
    all_goals simp [State.win, hwindows]
  · intro s hwf
    refine loadsWf_of_le s _ rfl (fun w => ?_) (fun w => ?_) hwf
    all_goals rw [s.countTimers_win]
    · exact (Window.load_of_held (s.win w).tick_held).le
    · exact fun hc => hc
  · intro s c t hevent hwf
    exact hevent.acts.keep Act.loadsWf hwf

end Sys2Proof.Machine

/-! PROOFS. Finding a record by its id after each change of the tables, and where each tote is. -/

namespace Sys2Proof.Machine

/-! ### The tote table -/

section
variable (s : State)

/-- A change of every record that keeps the ids is found again at the same id. -/
theorem State.tote?_mapTotes (f : Tote → Tote) (hf : ∀ t, (f t).id = t.id) (id : ToteId) :
    State.tote? { s with totes := s.totes.map f } id = (s.tote? id).map f := by
  have hp : ((fun t : Tote => t.id == id) ∘ f) = fun t => t.id == id := funext fun t => by simp [hf]
  simp only [State.tote?, List.find?_map, hp]

/-- The update of one record. -/
theorem State.tote?_updTote (id x : ToteId) (f : Tote → Tote) (hf : ∀ t, (f t).id = t.id) :
    (s.updTote id f).tote? x = if x = id then (s.tote? x).map f else s.tote? x := by
  have hfind := s.tote?_mapTotes (fun t => if t.id = id then f t else t) (fun t => by split <;> simp [hf]) x
  refine hfind.trans ?_
  cases hx : s.tote? x with
  | none => simp
  | some t =>
    obtain ⟨_, hid⟩ := State.mem_of_tote? hx
    by_cases h : x = id
    · simp [h, hid]
    · simp [h, hid]

theorem State.tote?_dropTote (id x : ToteId) : (s.dropTote id).tote? x = if x = id then none else s.tote? x := by
  simp only [State.tote?, State.dropTote, List.find?_filter]
  split
  next h => exact List.find?_eq_none.2 fun t _ => by simp [h]
  next h =>
    refine congrArg (fun p => s.totes.find? p) (funext fun t => ?_)
    by_cases ht : t.id = x
    · simp [ht, h]
    · simp [ht]

/-- A record that joins the table, found beside the others. -/
theorem State.tote?_insert {t : Tote} (hnew : s.tote? t.id = none) (x : ToteId) :
    State.tote? { s with totes := insertByNo Tote.recNo t s.totes } x = if x = t.id then some t else s.tote? x := by
  have hfresh : ∀ u ∈ s.totes, u.id ≠ t.id := fun u hu h => by
    simpa [h] using List.find?_eq_none.1 hnew u hu
  have hins : ∀ us : List Tote, (∀ u ∈ us, u.id ≠ t.id) →
      (insertByNo Tote.recNo t us).find? (fun u => u.id == x) =
        if x = t.id then some t else us.find? (fun u => u.id == x) := by
    intro us hus
    induction us with
    | nil =>
      by_cases h : x = t.id
      · simp [insertByNo, h]
      · simp [insertByNo, h, Ne.symm h]
    | cons u us ih =>
      have hu := hus u (by simp)
      have htail := ih fun v hv => hus v (by simp [hv])
      unfold insertByNo
      by_cases h : x = t.id
      · subst h
        split
        · simp
        · rw [List.find?_cons_of_neg (by simpa using hu), htail, if_pos rfl, if_pos rfl]
      · rw [if_neg h]
        split
        · rw [List.find?_cons_of_neg (by simpa using Ne.symm h)]
        · rw [List.find?_cons, htail, if_neg h, List.find?_cons]
  exact hins s.totes hfresh

end

/-! ### The task table -/

section
variable (s : State)

theorem State.task?_mapTasks (f : Task → Task) (hf : ∀ t, (f t).id = t.id) (id : TaskId) :
    State.task? { s with tasks := s.tasks.map f } id = (s.task? id).map f := by
  have hp : ((fun t : Task => t.id == id) ∘ f) = fun t => t.id == id := funext fun t => by simp [hf]
  simp only [State.task?, List.find?_map, hp]

theorem State.task?_updTask (id x : TaskId) (f : Task → Task) (hf : ∀ t, (f t).id = t.id) :
    (s.updTask id f).task? x = if x = id then (s.task? x).map f else s.task? x := by
  have hfind := s.task?_mapTasks (fun t => if t.id = id then f t else t) (fun t => by split <;> simp [hf]) x
  refine hfind.trans ?_
  cases hx : s.task? x with
  | none => simp
  | some t =>
    have hid := State.id_of_task? hx
    by_cases h : x = id
    · simp [h, hid]
    · simp [h, hid]

theorem State.task?_dropTask (id x : TaskId) : (s.dropTask id).task? x = if x = id then none else s.task? x := by
  simp only [State.task?, State.dropTask, List.find?_filter]
  split
  next h => exact List.find?_eq_none.2 fun t _ => by simp [h]
  next h =>
    refine congrArg (fun p => s.tasks.find? p) (funext fun t => ?_)
    by_cases ht : t.id = x
    · simp [ht, h]
    · simp [ht]

end

/-! ### Record numbers (R172) -/

/-- The number given to a new record is free, and there are fewer lower ones than records. -/
theorem lowestFree_spec (used : List Nat) : lowestFree used ∉ used ∧ lowestFree used ≤ used.length := by
  have hex : ∃ i ∈ List.range (used.length + 1), i ∉ used := by
    by_contra hall
    push Not at hall
    have hle := (List.subperm_of_subset List.nodup_range hall).length_le
    simp at hle
  obtain ⟨i, hi, hfree⟩ := hex
  cases hfind : (List.range (used.length + 1)).find? fun i => !used.contains i with
  | none => exact absurd (List.find?_eq_none.1 hfind i hi) (by simpa using hfree)
  | some n =>
    have hn := List.find?_some hfind
    have hmem := List.mem_of_find?_eq_some hfind
    rw [lowestFree, hfind]
    exact ⟨by simpa using hn, by simpa [Nat.lt_succ_iff] using hmem⟩

/-- A table in ascending record number stays so when a record of a new number joins. -/
theorem insertByNo_pairwise {α : Type} (no : α → Nat) (a : α) (as : List α) (hnew : no a ∉ as.map no)
    (has : (as.map no).Pairwise (· < ·)) : ((insertByNo no a as).map no).Pairwise (· < ·) := by
  induction as with
  | nil => simp [insertByNo]
  | cons b bs ih =>
    simp only [List.map_cons, List.mem_cons, not_or, List.pairwise_cons] at hnew has
    obtain ⟨hab, hbs⟩ := hnew
    obtain ⟨hb, hsorted⟩ := has
    unfold insertByNo
    split
    next hlt =>
      simp only [List.map_cons, List.pairwise_cons, List.mem_cons]
      exact ⟨fun c hc => hc.elim (fun h => h ▸ hlt) fun h => hlt.trans (hb c h), hb, hsorted⟩
    next hlt =>
      simp only [List.map_cons, List.pairwise_cons]
      refine ⟨fun c hc => ?_, ih hbs hsorted⟩
      obtain h | h := List.mem_cons.1 (((insertByNo_perm no a bs).map no).mem_iff.1 hc)
      · omega
      · exact hb c h

/-! ### Where each tote is -/

/-- The place of tote `id`, as its record says. -/
def State.place (s : State) (id : ToteId) : Option ToteState := (s.tote? id).map fun t => t.state

theorem State.place_eq_some {s : State} {id : ToteId} {p : ToteState} :
    s.place id = some p ↔ ∃ t, s.tote? id = some t ∧ t.state = p := Option.map_eq_some_iff

section
variable (s : State)

/-- Records that keep ids and places show the same places. -/
theorem State.place_mapTotes (f : Tote → Tote) (hf : ∀ t, (f t).id = t.id ∧ (f t).state = t.state) (id : ToteId) :
    State.place { s with totes := s.totes.map f } id = s.place id := by
  rw [State.place, s.tote?_mapTotes f (fun t => (hf t).1), Option.map_map]
  exact congrArg (fun g => (s.tote? id).map g) (funext fun t => (hf t).2)

/-- A tote whose record takes place `p`. -/
theorem State.place_updTote {id : ToteId} {f : Tote → Tote} {p : ToteState} (hf : ∀ t, (f t).id = t.id)
    (hp : ∀ t, (f t).state = p) (hid : (s.tote? id).isSome = true) (x : ToteId) :
    (s.updTote id f).place x = if x = id then some p else s.place x := by
  rw [State.place, s.tote?_updTote id x f hf]
  split
  next h =>
    subst h
    obtain ⟨t, ht⟩ := Option.isSome_iff_exists.1 hid
    simp [ht, hp]
  next => rfl

theorem State.place_dropTote (id x : ToteId) : (s.dropTote id).place x = if x = id then none else s.place x := by
  rw [State.place, s.tote?_dropTote id x]
  split <;> rfl

theorem State.place_insert {t : Tote} (hnew : s.tote? t.id = none) (x : ToteId) :
    State.place { s with totes := insertByNo Tote.recNo t s.totes } x = if x = t.id then some t.state else s.place x := by
  rw [State.place, s.tote?_insert hnew x]
  split <;> rfl

end

end Sys2Proof.Machine

/-! PROOFS. The places of totes: what lane, arrival order and windows claim of a tote is what its record says, kept by every
act, and the statement O58. -/

namespace Sys2Proof.Machine

/-! ### Claims -/

/-- What lane, arrival order and windows say of tote `id`: that it has place `p` (R2 to R5, R78). -/
def State.claims (s : State) (id : ToteId) : ToteState → Prop
  | .inLane l => s.lane[l] = some id ∧ id ∈ s.arrival
  | .leavingLane l => s.lane[l] = some id ∧ id ∉ s.arrival
  | .fetching w => (s.win w).fetch.map (fun f => f.tote) = some id
  | .onLift w => id ∈ (s.win w).lift
  | .leavingWin w => (s.win w).ret.map (fun r => r.tote) = some id

/-- Each tote is claimed for the place that its record has, and for no other. -/
structure Placed (s : State) : Prop where
  arrivalOnce : s.arrival.Nodup
  liftOnce : ∀ w, (s.win w).lift.Nodup
  stands : ∀ id ∈ s.arrival, ∃ l : Slot, s.lane[l] = some id
  agree : ∀ id p, s.claims id p ↔ s.place id = some p

/-- Two states with one lane, one arrival order and the same totes at their windows claim the same. -/
theorem claims_congr {s t : State} (hlane : t.lane = s.lane) (harrival : t.arrival = s.arrival)
    (hheld : ∀ w, (t.win w).held = (s.win w).held) (id : ToteId) (p : ToteState) : t.claims id p ↔ s.claims id p := by
  have hheld : ∀ w, (t.win w).lift = (s.win w).lift ∧
      (t.win w).fetch.map (fun f => f.tote) = (s.win w).fetch.map (fun f => f.tote) ∧
      (t.win w).ret.map (fun r => r.tote) = (s.win w).ret.map (fun r => r.tote) := fun w => by
    have h := hheld w
    simp only [Window.held, Prod.mk.injEq] at h
    exact h
  cases p <;> simp only [State.claims, hlane, harrival, hheld]

theorem Placed.congr {s t : State} (h : Placed s) (hlane : t.lane = s.lane) (harrival : t.arrival = s.arrival)
    (hheld : ∀ w, (t.win w).held = (s.win w).held) (hplace : ∀ id, t.place id = s.place id) : Placed t where
  arrivalOnce := harrival ▸ h.arrivalOnce
  liftOnce w := by
    rw [show (t.win w).lift = (s.win w).lift from congrArg Prod.fst (hheld w)]
    exact h.liftOnce w
  stands := by rw [harrival, hlane]; exact h.stands
  agree id p := by rw [claims_congr hlane harrival hheld, hplace]; exact h.agree id p

/-- One tote changes its place, and its claims with it. -/
theorem Placed.relocate {s t : State} (h : Placed s) {id : ToteId} {new : Option ToteState}
    (hplace : ∀ x, t.place x = if x = id then new else s.place x) (hnew : ∀ p, t.claims id p ↔ new = some p)
    (hothers : ∀ x p, x ≠ id → (t.claims x p ↔ s.claims x p)) (harrival : t.arrival.Nodup)
    (hlift : ∀ w, (t.win w).lift.Nodup) (hstands : ∀ x ∈ t.arrival, ∃ l : Slot, t.lane[l] = some x) : Placed t where
  arrivalOnce := harrival
  liftOnce := hlift
  stands := hstands
  agree x p := by
    rw [hplace]
    split
    next hx => exact hx ▸ hnew p
    next hx => exact (hothers x p hx).trans (h.agree x p)

/-- A slot after the change of one. -/
theorem State.setSlot_get (s : State) (l k : Slot) (v : Option ToteId) :
    (s.setSlot l v).lane[k] = if k = l then v else s.lane[k] := by
  have h := Vector.getElem_set (xs := s.lane) (x := v) l.isLt (j := k.val) k.isLt
  simp only [Fin.val_inj, eq_comm (a := l)] at h
  exact h

/-! ### The claims after each move and act -/

section
variable {s : State}

/-- A tote in the lane has its slot, its place in the arrival order, and no other slot. -/
theorem Placed.of_inLane (h : Placed s) {id : ToteId} {l : Slot} (hp : s.place id = some (.inLane l)) :
    s.lane[l] = some id ∧ id ∈ s.arrival ∧ (∀ k : Slot, s.lane[k] = some id → k = l) := by
  obtain ⟨hlane, harrival⟩ := (h.agree id (.inLane l)).2 hp
  refine ⟨hlane, harrival, fun k hk => ?_⟩
  have hk := (h.agree id (.inLane k)).1 ⟨hk, harrival⟩
  rw [hp] at hk
  exact (ToteState.inLane.inj (Option.some.inj hk)).symm

theorem Placed.of_leavingLane (h : Placed s) {id : ToteId} {l : Slot} (hp : s.place id = some (.leavingLane l)) :
    s.lane[l] = some id ∧ id ∉ s.arrival ∧ (∀ k : Slot, s.lane[k] = some id → k = l) := by
  obtain ⟨hlane, harrival⟩ := (h.agree id (.leavingLane l)).2 hp
  refine ⟨hlane, harrival, fun k hk => ?_⟩
  have hk := (h.agree id (.leavingLane k)).1 ⟨hk, harrival⟩
  rw [hp] at hk
  exact (ToteState.leavingLane.inj (Option.some.inj hk)).symm

/-- A tote that no record places at `p` is not claimed there. -/
theorem Placed.not_claims (h : Placed s) {id : ToteId} {p q : ToteState} (hp : s.place id = some p) (hq : q ≠ p) :
    ¬ s.claims id q := fun hc => by
  have := (h.agree id q).1 hc
  rw [hp] at this
  exact hq (Option.some.inj this).symm

end

/-! ### The windows' acts -/

/-- The window that a place belongs to. -/
def ToteState.window : ToteState → Option Win
  | .inLane _ | .leavingLane _ => none
  | .fetching w | .onLift w | .leavingWin w => some w

/-- A change of window `w` alone leaves every claim of a place that is not its own. -/
theorem claims_off_window {s t : State} {w : Win} (hlane : t.lane = s.lane) (harrival : t.arrival = s.arrival)
    (hother : ∀ v, v ≠ w → t.win v = s.win v) (id : ToteId) {p : ToteState} (hp : p.window ≠ some w) :
    t.claims id p ↔ s.claims id p := by
  have hwin : ∀ v, some v ≠ some w → t.win v = s.win v := fun v hv => hother v fun h => hv (congrArg some h)
  cases p with
  | inLane l => simp only [State.claims, hlane, harrival]
  | leavingLane l => simp only [State.claims, hlane, harrival]
  | fetching v => simp only [State.claims, hwin v hp]
  | onLift v => simp only [State.claims, hwin v hp]
  | leavingWin v => simp only [State.claims, hwin v hp]

/-- One tote changes its place by a change of window `w` alone, where its claims then are its new place. -/
theorem Placed.relocate_window {s t : State} (h : Placed s) {w : Win} {id : ToteId} {old : ToteState}
    {new : Option ToteState} (hold : s.place id = some old) (holdw : old.window = some w)
    (hneww : ∀ p, new = some p → p.window = some w)
    (hlane : t.lane = s.lane) (harrival : t.arrival = s.arrival) (hother : ∀ v, v ≠ w → t.win v = s.win v)
    (hplace : ∀ x, t.place x = if x = id then new else s.place x) (hlift : (t.win w).lift.Nodup)
    (hnew : ∀ p : ToteState, p.window = some w → (t.claims id p ↔ new = some p))
    (hothers : ∀ (x : ToteId) (p : ToteState), x ≠ id → p.window = some w → (t.claims x p ↔ s.claims x p)) : Placed t := by
  refine h.relocate hplace (fun p => ?_) (fun x p hx => ?_) (harrival ▸ h.arrivalOnce) (fun v => ?_) ?_
  · by_cases hp : p.window = some w
    · exact hnew p hp
    · rw [claims_off_window hlane harrival hother id hp]
      exact iff_of_false (h.not_claims hold fun k => hp (k ▸ holdw)) fun k => hp (hneww p k)
  · by_cases hp : p.window = some w
    · exact hothers x p hx hp
    · exact claims_off_window hlane harrival hother x hp
  · by_cases hv : v = w
    · exact hv ▸ hlift
    · rw [hother v hv]
      exact h.liftOnce v
  · rw [harrival, hlane]
    exact h.stands

/-- The places of a window. -/
theorem ToteState.window_eq_some {p : ToteState} {w : Win} :
    p.window = some w ↔ p = .fetching w ∨ p = .onLift w ∨ p = .leavingWin w := by
  cases p <;> simp [ToteState.window]

section
variable {s : State} (h : Placed s)
include h

theorem Placed.sendRecords {w : Win} {id : ToteId} {rest : List ToteId} (hlift : (s.win w).lift = id :: rest)
    (hret : (s.win w).ret = none) : Placed (s.sendRecords w id rest) := by
  have hold : s.place id = some (.onLift w) := (h.agree id (.onLift w)).1 (by simp [State.claims, hlift])
  have honce : id ∉ rest ∧ rest.Nodup := List.nodup_cons.1 (hlift ▸ h.liftOnce w)
  have hwin := s.sendRecords_win w id rest
  have hfetch : (fetchAfterPop (s.win w).fetch rest).map (fun f => f.tote) = (s.win w).fetch.map fun f => f.tote := by
    simp only [fetchAfterPop, Option.map_map]
    refine congrArg (fun g => (s.win w).fetch.map g) (funext fun f => ?_)
    simp only [Function.comp]
    split <;> rfl
  have hid : (s.tote? id).isSome = true := by
    obtain ⟨t, ht, _⟩ := State.place_eq_some.1 hold
    simp [ht]
  refine h.relocate_window (w := w) (new := some (.leavingWin w)) hold rfl (by simp [ToteState.window]) rfl rfl
    (fun v hv => s.sendRecords_win_ne hv id rest) (fun x => ?_) ?_ (fun p hp => ?_) (fun x p hx hp => ?_)
  · exact State.place_updTote _ (fun _ => by rfl) (fun _ => by rfl) hid x
  · rw [hwin]
    exact honce.2
  · obtain rfl | rfl | rfl := ToteState.window_eq_some.1 hp
    · have hnot := h.not_claims hold (q := .fetching w) nofun
      simpa [State.claims, hwin, hfetch] using hnot
    · simpa [State.claims, hwin] using honce.1
    · simp [State.claims, hwin]
  · obtain rfl | rfl | rfl := ToteState.window_eq_some.1 hp
    · simp [State.claims, hwin, hfetch]
    · simp [State.claims, hwin, hlift, hx]
    · simp [State.claims, hwin, hret, Ne.symm hx]

theorem Placed.deliverRecords {w : Win} {f : Fetch} (hf : (s.win w).fetch = some f) : Placed (s.deliverRecords w f.tote) := by
  have hold : s.place f.tote = some (.fetching w) := (h.agree f.tote (.fetching w)).1 (by simp [State.claims, hf])
  have hoff : f.tote ∉ (s.win w).lift := h.not_claims hold (q := .onLift w) nofun
  have hwin := s.deliverRecords_win w f.tote
  have hid : (s.tote? f.tote).isSome = true := by
    obtain ⟨t, ht, _⟩ := State.place_eq_some.1 hold
    simp [ht]
  refine h.relocate_window (w := w) (new := some (.onLift w)) hold rfl (by simp [ToteState.window]) rfl rfl
    (fun v hv => s.deliverRecords_win_ne hv _) (fun x => ?_) ?_ (fun p hp => ?_) (fun x p hx hp => ?_)
  · exact State.place_updTote _ (fun _ => by rfl) (fun _ => by rfl) hid x
  · rw [hwin]
    exact List.nodup_cons.2 ⟨hoff, h.liftOnce w⟩
  · obtain rfl | rfl | rfl := ToteState.window_eq_some.1 hp
    · simp [State.claims, hwin]
    · simp [State.claims, hwin]
    · have hnot := h.not_claims hold (q := .leavingWin w) nofun
      simpa [State.claims, hwin] using hnot
  · obtain rfl | rfl | rfl := ToteState.window_eq_some.1 hp
    · simp [State.claims, hwin, hf, Ne.symm hx]
    · simp [State.claims, hwin, hx]
    · simp [State.claims, hwin]

theorem Placed.loseRecords {w : Win} {f : Fetch} (hf : (s.win w).fetch = some f) : Placed (s.loseRecords w f.tote) := by
  have hold : s.place f.tote = some (.fetching w) := (h.agree f.tote (.fetching w)).1 (by simp [State.claims, hf])
  have hwin := s.loseRecords_win w f.tote
  refine h.relocate_window (w := w) (new := none) hold rfl nofun rfl rfl (fun v hv => s.loseRecords_win_ne hv _)
    (fun x => State.place_dropTote _ _ x) (hwin ▸ h.liftOnce w) (fun p hp => ?_) (fun x p hx hp => ?_)
  · obtain rfl | rfl | rfl := ToteState.window_eq_some.1 hp
    · simp [State.claims, hwin]
    · have hnot := h.not_claims hold (q := .onLift w) nofun
      simpa [State.claims, hwin] using hnot
    · have hnot := h.not_claims hold (q := .leavingWin w) nofun
      simpa [State.claims, hwin] using hnot
  · obtain rfl | rfl | rfl := ToteState.window_eq_some.1 hp
    · simp [State.claims, hwin, hf, Ne.symm hx]
    · simp [State.claims, hwin]
    · simp [State.claims, hwin]

theorem Placed.returnRecords {w : Win} {id : ToteId} (hold : s.place id = some (.leavingWin w)) :
    Placed (s.returnRecords w id) := by
  have hret : (s.win w).ret.map (fun r => r.tote) = some id := (h.agree id (.leavingWin w)).2 hold
  have hwin := s.returnRecords_win w id
  refine h.relocate_window (w := w) (new := none) hold rfl nofun rfl rfl (fun v hv => s.returnRecords_win_ne hv _)
    (fun x => State.place_dropTote _ _ x) (hwin ▸ h.liftOnce w) (fun p hp => ?_) (fun x p hx hp => ?_)
  · obtain rfl | rfl | rfl := ToteState.window_eq_some.1 hp
    · have hnot := h.not_claims hold (q := .fetching w) nofun
      simpa [State.claims, hwin] using hnot
    · have hnot := h.not_claims hold (q := .onLift w) nofun
      simpa [State.claims, hwin] using hnot
    · simp [State.claims, hwin]
  · obtain rfl | rfl | rfl := ToteState.window_eq_some.1 hp
    · simp [State.claims, hwin]
    · simp [State.claims, hwin]
    · simp [State.claims, hwin, hret, Ne.symm hx]

end

/-! ### The lane's acts -/

/-- The arrival order without one tote. -/
theorem mem_leaveArrival {arrival : List ToteId} {id x : ToteId} : x ∈ arrival.filter (fun a => a != id) ↔ x ∈ arrival ∧ x ≠ id := by
  simp

/-- The others keep their slots when tote `id` leaves its own. -/
theorem State.slot_of_ne {s : State} {id : ToteId} {l : Slot} (hl : s.lane[l] = some id) (k : Slot) {x : ToteId} (hx : x ≠ id) :
    (s.setSlot l none).lane[k] = some x ↔ s.lane[k] = some x := by
  rw [s.setSlot_get]
  split
  next hk =>
    subst hk
    exact iff_of_false nofun fun hs => hx (Option.some.inj (hs.symm.trans hl))
  next => exact Iff.rfl

/-- Tote `id` has no slot once its own is empty. -/
theorem State.slot_of_self {s : State} {id : ToteId} {l : Slot} (honly : ∀ k : Slot, s.lane[k] = some id → k = l) (k : Slot) :
    (s.setSlot l none).lane[k] ≠ some id := by
  rw [s.setSlot_get]
  split
  next => nofun
  next hk => exact fun hs => hk (honly k hs)

section
variable {s : State} (h : Placed s)
include h

theorem Placed.laneSendRecords {id : ToteId} {slot : Slot} (hold : s.place id = some (.inLane slot)) :
    Placed (s.laneSendRecords id slot) := by
  obtain ⟨hslot, _, honly⟩ := h.of_inLane hold
  have hid : (s.tote? id).isSome = true := by
    obtain ⟨t, ht, _⟩ := State.place_eq_some.1 hold
    simp [ht]
  have hplace : ∀ x, (s.laneSendRecords id slot).place x = if x = id then some (.leavingLane slot) else s.place x := fun x =>
    State.place_updTote s (fun _ => by rfl) (fun _ => by rfl) hid x
  have hmem : ∀ x, x ∈ (s.laneSendRecords id slot).arrival ↔ x ∈ s.arrival ∧ x ≠ id := fun x => mem_leaveArrival
  have hlane : (s.laneSendRecords id slot).lane = s.lane := rfl
  have hwin : ∀ v, (s.laneSendRecords id slot).win v = s.win v := fun _ => rfl
  refine h.relocate hplace (fun p => ?_) (fun x p hx => ?_) (h.arrivalOnce.filter _) h.liftOnce
    (fun x hx => h.stands x ((hmem x).1 hx).1)
  · cases p with
    | inLane k => simp [State.claims, hmem]
    | leavingLane k =>
      simp only [State.claims, hmem, hlane, ne_eq, not_true, and_false, not_false_iff, and_true, Option.some.injEq,
        ToteState.leavingLane.injEq]
      exact ⟨fun hk => (honly k hk).symm, fun hk => hk ▸ hslot⟩
    | fetching v => exact iff_of_false (h.not_claims (q := .fetching v) hold nofun) nofun
    | onLift v => exact iff_of_false (h.not_claims (q := .onLift v) hold nofun) nofun
    | leavingWin v => exact iff_of_false (h.not_claims (q := .leavingWin v) hold nofun) nofun
  · cases p <;> simp [State.claims, hmem, hx, hlane, hwin]

theorem Placed.fetchRecords {w : Win} {id : ToteId} {slot : Slot} (hold : s.place id = some (.inLane slot))
    (hfetch : (s.win w).fetch = none) : Placed (s.fetchRecords w id slot) := by
  obtain ⟨hslot, _, honly⟩ := h.of_inLane hold
  have hid : (s.tote? id).isSome = true := by
    obtain ⟨t, ht, _⟩ := State.place_eq_some.1 hold
    simp [ht]
  have hplace : ∀ x, (s.fetchRecords w id slot).place x = if x = id then some (.fetching w) else s.place x := fun x =>
    State.place_updTote s (fun _ => by rfl) (fun _ => by rfl) hid x
  have hmem : ∀ x, x ∈ (s.fetchRecords w id slot).arrival ↔ x ∈ s.arrival ∧ x ≠ id := fun x => mem_leaveArrival
  have hlane : (s.fetchRecords w id slot).lane = (s.setSlot slot none).lane := rfl
  have hwin := s.fetchRecords_win w id slot
  have hlift : ∀ v, ((s.fetchRecords w id slot).win v).lift = (s.win v).lift := fun v => by
    by_cases hv : v = w
    · subst hv; rw [hwin]
    · rw [s.fetchRecords_win_ne hv]
  have hret : ∀ v, ((s.fetchRecords w id slot).win v).ret = (s.win v).ret := fun v => by
    by_cases hv : v = w
    · subst hv; rw [hwin]
    · rw [s.fetchRecords_win_ne hv]
  refine h.relocate hplace (fun p => ?_) (fun x p hx => ?_) (h.arrivalOnce.filter _) (fun v => hlift v ▸ h.liftOnce v)
    (fun x hx => ?_)
  · cases p with
    | inLane k => simp [State.claims, hmem]
    | leavingLane k =>
      simp only [State.claims, hlane]
      exact iff_of_false (fun hc => State.slot_of_self honly k hc.1) nofun
    | fetching v =>
      by_cases hv : v = w
      · subst hv
        simp [State.claims, hwin]
      · have hnot := h.not_claims hold (q := .fetching v) nofun
        simp only [State.claims] at hnot
        simp [State.claims, s.fetchRecords_win_ne hv, hnot, Ne.symm hv]
    | onLift v =>
      have hnot := h.not_claims hold (q := .onLift v) nofun
      simpa [State.claims, hlift] using hnot
    | leavingWin v =>
      have hnot := h.not_claims hold (q := .leavingWin v) nofun
      simpa [State.claims, hret] using hnot
  · cases p with
    | inLane k => simp only [State.claims, hmem, hx, hlane, State.slot_of_ne hslot k hx, ne_eq, not_false_iff, and_true]
    | leavingLane k =>
      simp only [State.claims, hmem, hx, hlane, State.slot_of_ne hslot k hx, ne_eq, not_false_iff, and_true]
    | fetching v =>
      by_cases hv : v = w
      · subst hv
        simp [State.claims, hwin, hfetch, Ne.symm hx]
      · simp [State.claims, s.fetchRecords_win_ne hv]
    | onLift v => simp [State.claims, hlift]
    | leavingWin v => simp [State.claims, hret]
  · obtain ⟨hx, hne⟩ := (hmem x).1 hx
    obtain ⟨k, hk⟩ := h.stands x hx
    exact ⟨k, (State.slot_of_ne hslot k hne).2 hk⟩

theorem Placed.admitTote {t : Tote} {slot : Slot} (hnew : s.tote? t.id = none) (hslot : s.lane[slot] = none)
    (hstate : t.state = .inLane slot) : Placed (s.admitTote t slot) := by
  have hnone : s.place t.id = none := by rw [State.place, hnew]; rfl
  have hnot : ∀ p, ¬ s.claims t.id p := fun p hc => by
    have := (h.agree t.id p).1 hc
    rw [hnone] at this
    cases this
  have hplace : ∀ x, (s.admitTote t slot).place x = if x = t.id then some (.inLane slot) else s.place x := fun x => by
    rw [← hstate]
    exact State.place_insert s hnew x
  have hunslotted : ∀ k : Slot, s.lane[k] ≠ some t.id := fun k hk => by
    by_cases hin : t.id ∈ s.arrival
    · exact hnot (.inLane k) ⟨hk, hin⟩
    · exact hnot (.leavingLane k) ⟨hk, hin⟩
  have hunlisted : t.id ∉ s.arrival := fun hin => by
    obtain ⟨k, hk⟩ := h.stands t.id hin
    exact hunslotted k hk
  have hmem : ∀ x, x ∈ (s.admitTote t slot).arrival ↔ x ∈ s.arrival ∨ x = t.id := fun x => by simp [State.admitTote]
  have hlane : ∀ k : Slot, (s.admitTote t slot).lane[k] = if k = slot then some t.id else s.lane[k] :=
    fun k => s.setSlot_get slot k (some t.id)
  have hothers : ∀ (k : Slot) (x : ToteId), x ≠ t.id → ((s.admitTote t slot).lane[k] = some x ↔ s.lane[k] = some x) := by
    intro k x hx
    rw [hlane]
    split
    next hk =>
      subst hk
      rw [hslot]
      exact iff_of_false (fun he => hx (Option.some.inj he).symm) nofun
    next => exact Iff.rfl
  have hwin : ∀ v, (s.admitTote t slot).win v = s.win v := fun _ => rfl
  refine h.relocate hplace (fun p => ?_) (fun x p hx => ?_) ?_ h.liftOnce (fun x hx => ?_)
  · cases p with
    | inLane k =>
      simp only [State.claims, hmem, or_true, and_true, hlane, Option.some.injEq, ToteState.inLane.injEq]
      split
      next hk => exact iff_of_true rfl hk.symm
      next hk => exact iff_of_false (hunslotted k) (Ne.symm hk)
    | leavingLane k => simp [State.claims, hmem]
    | fetching v => exact iff_of_false (hnot (.fetching v)) nofun
    | onLift v => exact iff_of_false (hnot (.onLift v)) nofun
    | leavingWin v => exact iff_of_false (hnot (.leavingWin v)) nofun
  · cases p <;> simp only [State.claims, hmem, hx, or_false, hothers _ x hx, hwin]
  · exact List.Nodup.append h.arrivalOnce (List.nodup_singleton _) (by simpa using hunlisted)
  · obtain hx | rfl := (hmem x).1 hx
    · obtain ⟨k, hk⟩ := h.stands x hx
      exact ⟨k, (hothers k x fun he => hunlisted (he ▸ hx)).2 hk⟩
    · exact ⟨slot, by rw [hlane, if_pos rfl]⟩

/-- A lane tote whose record is dropped, with its slot and its arrival entry (R10, R14, R15). -/
theorem Placed.dropLane {id : ToteId} {slot : Slot} {t : State}
    (hold : s.place id = some (.inLane slot) ∨ s.place id = some (.leavingLane slot))
    (hplace : ∀ x, t.place x = if x = id then none else s.place x) (hlane : t.lane = (s.setSlot slot none).lane)
    (hmem : ∀ x, x ∈ t.arrival ↔ x ∈ s.arrival ∧ x ≠ id) (hnodup : t.arrival.Nodup) (hwin : ∀ v, t.win v = s.win v) :
    Placed t := by
  have hlost : s.lane[slot] = some id ∧ (∀ k : Slot, s.lane[k] = some id → k = slot) := by
    obtain hold | hold := hold
    · obtain ⟨hslot, _, honly⟩ := h.of_inLane hold
      exact ⟨hslot, honly⟩
    · obtain ⟨hslot, _, honly⟩ := h.of_leavingLane hold
      exact ⟨hslot, honly⟩
  obtain ⟨hslot, honly⟩ := hlost
  have hoff : ∀ q : ToteState, q.window.isSome = true → ¬ s.claims id q := fun q hq => by
    obtain hold | hold := hold
    · exact h.not_claims hold fun he => by rw [he] at hq; cases hq
    · exact h.not_claims hold fun he => by rw [he] at hq; cases hq
  refine h.relocate hplace (fun p => iff_of_false ?_ nofun) (fun x p hx => ?_) hnodup (fun v => hwin v ▸ h.liftOnce v)
    (fun x hx => ?_)
  · cases p with
    | inLane k => simp [State.claims, hmem]
    | leavingLane k =>
      simp only [State.claims, hlane]
      exact fun hc => State.slot_of_self honly k hc.1
    | fetching v => simpa [State.claims, hwin] using hoff (.fetching v) rfl
    | onLift v => simpa [State.claims, hwin] using hoff (.onLift v) rfl
    | leavingWin v => simpa [State.claims, hwin] using hoff (.leavingWin v) rfl
  · cases p <;> simp only [State.claims, hmem, hlane, State.slot_of_ne hslot _ hx, hwin, hx, ne_eq, not_false_iff, and_true]
  · obtain ⟨hx, hne⟩ := (hmem x).1 hx
    obtain ⟨k, hk⟩ := h.stands x hx
    exact ⟨k, by rw [hlane]; exact (State.slot_of_ne hslot k hne).2 hk⟩

end

end Sys2Proof.Machine

/-! PROOFS. The number of totes, every act on their places, and the statement O58. -/

namespace Sys2Proof.Machine

/-! ### Record numbers -/

/-- Tote records have ids and numbers of their own, in ascending number below 16 (R1, R3, R172). -/
structure Numbered (totes : List Tote) : Prop where
  ids : (totes.map fun t => t.id).Nodup
  ascending : (totes.map fun t => t.recNo).Pairwise (· < ·)
  below : ∀ t ∈ totes, t.recNo < Config.toteRecords

/-- What a record is known by. -/
def Tote.tag (t : Tote) : ToteId × Nat := (t.id, t.recNo)

/-- A change of what the records are not known by. -/
theorem Numbered.map {totes : List Tote} (h : Numbered totes) {f : Tote → Tote} (hf : ∀ t, (f t).tag = t.tag) :
    Numbered (totes.map f) where
  ids := by
    rw [List.map_map, show ((fun t : Tote => t.id) ∘ f) = fun t => t.id from funext fun t => congrArg Prod.fst (hf t)]
    exact h.ids
  ascending := by
    rw [List.map_map, show ((fun t : Tote => t.recNo) ∘ f) = fun t => t.recNo from funext fun t => congrArg Prod.snd (hf t)]
    exact h.ascending
  below x hx := by
    obtain ⟨y, hy, rfl⟩ := List.mem_map.1 hx
    have hno : (f y).recNo = y.recNo := congrArg Prod.snd (hf y)
    exact hno ▸ h.below y hy

theorem Numbered.updated {totes : List Tote} (h : Numbered totes) {id : ToteId} {f : Tote → Tote}
    (hf : ∀ t, (f t).tag = t.tag) : Numbered (totes.map fun t => if t.id = id then f t else t) :=
  h.map fun t => by split <;> simp [hf]

theorem Numbered.filter {totes : List Tote} (h : Numbered totes) (p : Tote → Bool) : Numbered (totes.filter p) where
  ids := h.ids.sublist (List.filter_sublist.map _)
  ascending := h.ascending.sublist (List.filter_sublist.map _)
  below x hx := h.below x (List.mem_of_mem_filter hx)

theorem Numbered.insert {s : State} (hs : Numbered s.totes) {t : Tote} (hnew : s.tote? t.id = none)
    (hroom : s.totes.length < Config.toteRecords) (hno : t.recNo = lowestFree (s.totes.map fun t => t.recNo)) :
    Numbered (insertByNo Tote.recNo t s.totes) := by
  obtain ⟨hfree, hle⟩ := lowestFree_spec (s.totes.map fun t => t.recNo)
  have hperm := insertByNo_perm Tote.recNo t s.totes
  rw [← hno] at hfree hle
  refine ⟨(hperm.map _).nodup_iff.2 (List.nodup_cons.2 ⟨fun hmem => ?_, hs.ids⟩),
    insertByNo_pairwise Tote.recNo t s.totes hfree hs.ascending, fun x hx => ?_⟩
  · obtain ⟨y, hy, hid⟩ := List.mem_map.1 hmem
    exact absurd (List.find?_eq_none.1 hnew y hy) (by simpa using hid)
  · obtain rfl | hx := List.mem_cons.1 (hperm.mem_iff.1 hx)
    · rw [List.length_map] at hle
      exact hle.trans_lt hroom
    · exact hs.below x hx

/-! ### How many totes there are -/

/-- The totes that the record of a window names. -/
def Window.heldIds (x : Window) : List ToteId :=
  x.lift ++ (x.fetch.map fun f => f.tote).toList ++ (x.ret.map fun r => r.tote).toList

theorem Window.length_heldIds (x : Window) : x.heldIds.length = x.load := by
  simp only [Window.heldIds, Window.load, List.length_append]
  cases x.fetch <;> cases x.ret <;> rfl

/-- The totes that have a slot of the lane. -/
def State.slotted (s : State) : List ToteId := s.lane.toList.filterMap fun v => v

theorem State.mem_slotted {s : State} {l : Slot} {id : ToteId} (h : s.lane[l] = some id) : id ∈ s.slotted :=
  List.mem_filterMap.2 ⟨some id, by rw [Vector.mem_toList_iff, ← h]; exact Vector.getElem_mem l.isLt, rfl⟩

/-- Every tote is in a slot or at a window, so their number is bounded by the lane and the loads. -/
theorem Placed.length_totes {s : State} (h : Placed s) (hids : (s.totes.map fun t => t.id).Nodup) :
    s.totes.length ≤ s.slotted.length + (s.win .w0).load + (s.win .w1).load := by
  have hsub : (s.totes.map fun t => t.id) ⊆ s.slotted ++ (s.win .w0).heldIds ++ (s.win .w1).heldIds := by
    intro id hid
    obtain ⟨t, ht, rfl⟩ := List.mem_map.1 hid
    have hplace : s.place t.id = some t.state := by rw [State.place, State.tote?_eq_of_mem hids ht]; rfl
    have hclaim := (h.agree t.id t.state).2 hplace
    have hwin : ∀ w, t.id ∈ (s.win w).heldIds → t.id ∈ s.slotted ++ (s.win .w0).heldIds ++ (s.win .w1).heldIds := by
      intro w hw
      cases w <;> simp [hw]
    cases hst : t.state with
    | inLane l | leavingLane l =>
      rw [hst] at hclaim
      simp [State.mem_slotted hclaim.1]
    | fetching w | onLift w | leavingWin w =>
      rw [hst] at hclaim
      refine hwin w ?_
      simp only [State.claims] at hclaim
      simp [Window.heldIds, hclaim]
  have hle := (List.subperm_of_subset hids hsub).length_le
  simpa only [List.length_map, List.length_append, Window.length_heldIds] using hle

theorem State.length_slotted (s : State) : s.slotted.length ≤ 8 :=
  (List.length_filterMap_le _ _).trans (by simp)

/-- A free slot leaves at most seven others taken. -/
theorem State.length_slotted_lt {s : State} {l : Slot} (h : s.lane[l] = none) : s.slotted.length < 8 := by
  have hlt : s.slotted.length < s.lane.toList.length := List.length_filterMap_lt_length_iff_exists.2
    ⟨none, by rw [Vector.mem_toList_iff, ← h]; exact Vector.getElem_mem l.isLt, rfl⟩
  simpa using hlt

/-! ### Every act -/

/-- Places, record numbers and the bounds of the windows. -/
structure Standing (s : State) : Prop where
  placed : Placed s
  numbered : Numbered s.totes
  loads : s.loadsWf False

/-- Totes in place, records numbered and windows within their bounds: there are at most 16 totes, fewer with a slot free. -/
theorem Standing.length_totes {s : State} (h : Standing s) : s.totes.length ≤ s.slotted.length + 8 := by
  have hlen := h.placed.length_totes h.numbered.ids
  have h0 := ((Window.liftWf_iff _).1 (h.loads.1 .w0)).1
  have h1 := ((Window.liftWf_iff _).1 (h.loads.1 .w1)).1
  omega

theorem Window.held_of_core {x y : Window} (h : x.core = y.core) : x.held = y.held := by
  simp only [Window.core, Prod.mk.injEq] at h
  obtain ⟨hlift, hfetch, hret, _⟩ := h
  rw [Window.held, hlift, hfetch, hret]
  rfl

theorem Tote.tag_of_charged {x y : Tote} (h : x.charged = y.charged) : x.tag = y.tag := by
  simp only [Tote.charged, Prod.mk.injEq] at h
  exact Prod.ext h.2.1 h.1

/-- A tote that a window chooses to fetch is in the table, in the lane (R104, R106, R107). -/
theorem State.fetchChoice_candidate {s : State} {w : Win} {t : Tote} (h : s.fetchChoice w = some t) :
    s.tote? t.id = some t ∧ s.candidate t = true := by
  have hmem : ∀ {key : Tote → List Nat} {ts : List Tote} {u : Tote}, firstBy key ts = some u → u ∈ ts := by
    intro key ts
    induction ts with
    | nil => intro u h; cases h
    | cons a as ih =>
      intro u h
      rw [firstBy] at h
      split at h
      · cases h; simp
      next b hb =>
        split at h
        · cases h; exact List.mem_cons_of_mem a (ih hb)
        · cases h; simp
  have hcand : t ∈ s.candidates := by
    unfold State.fetchChoice at h
    split at h
    · exact hmem h
    · split at h
      · exact List.mem_of_mem_filter (hmem h)
      · cases h
  obtain ⟨hfound, hok⟩ := List.mem_filter.1 hcand
  obtain ⟨id, _, hid⟩ := List.mem_filterMap.1 hfound
  exact ⟨(State.mem_of_tote? hid).2.symm ▸ hid, hok⟩

/-- A move keeps the places and the record numbers. -/
theorem Move.placed {s t : State} (h : Move s t) (hp : Placed s) (hn : Numbered s.totes) : Placed t ∧ Numbered t.totes := by
  cases h with
  | totes f hf =>
    have htag : ∀ t, (f t).tag = t.tag := fun t => Tote.tag_of_charged (hf t).1
    exact ⟨hp.congr rfl rfl (fun _ => rfl) (s.place_mapTotes f fun t => ⟨congrArg Prod.fst (htag t), (hf t).2⟩),
      hn.map htag⟩
  | windows ws hws => exact ⟨hp.congr rfl rfl (fun w => Window.held_of_core (x := ws.get w) (hws w)) fun _ => rfl, hn⟩
  | send w id rest hlift hret => exact ⟨hp.sendRecords hlift hret, hn.updated fun _ => by rfl⟩
  | laneSend id t slot ht hst =>
    exact ⟨hp.laneSendRecords (State.place_eq_some.2 ⟨t, ht, hst⟩), hn.updated fun _ => by rfl⟩
  | fetch w t slot hchoice hst =>
    have ht := (State.fetchChoice_candidate hchoice).1
    exact ⟨hp.fetchRecords (State.place_eq_some.2 ⟨t, ht, hst⟩) (State.fetchChoice_open hchoice).2.1,
      hn.updated fun _ => by rfl⟩
  | _ => exact ⟨hp.congr rfl rfl (fun _ => rfl) fun _ => rfl, hn⟩

theorem Move.standing {s t : State} (h : Move s t) (hs : Standing s) : Standing t := by
  obtain ⟨hp, hn⟩ := h.placed hs.placed hs.numbered
  exact ⟨hp, hn, h.loadsWf hs.loads⟩

/-- At start-up no tote is claimed and none is in the table. -/
theorem startUp_placed (pins : Pins) (image : Vector SWord 31) (counters : Counters) (free : Nat) (pending : List Instr) :
    Placed (startUp pins image counters free pending) := by
  refine ⟨List.nodup_nil, fun w => ?_, nofun, fun id p => ?_⟩
  · cases w <;> exact List.nodup_nil
  · have hlane : ∀ l : Slot, (Vector.replicate 8 (none : Option ToteId))[l] ≠ some id := fun l => by simp
    refine iff_of_false (fun hc => ?_) nofun
    cases p with
    | inLane l => exact hlane l hc.1
    | leavingLane l => exact hlane l hc.1
    | fetching v => cases v <;> cases hc
    | onLift v => cases v <;> cases hc
    | leavingWin v => cases v <;> cases hc

theorem Act.standing {s t : State} (h : Act s t) (hs : Standing s) : Standing t := by
  have hplaced : Placed t ∧ Numbered t.totes := by
    have ⟨hp, hn, _⟩ := hs
    cases h with
    | move t h => exact ⟨(h.standing hs).placed, (h.standing hs).numbered⟩
    | other t h =>
      have htotes : t.totes = s.totes := congrArg Stage.totes h
      have hwindows : t.windows = s.windows := congrArg Stage.windows h
      refine ⟨hp.congr (congrArg Stage.lane h) (congrArg Stage.arrival h) (fun w => by rw [State.win, hwindows]; rfl)
        (fun id => by rw [State.place, State.tote?, htotes]; rfl), ?_⟩
      exact htotes ▸ hn
    | windows ws hheld _ => exact ⟨hp.congr rfl rfl hheld fun _ => rfl, hn⟩
    | records f hf =>
      exact ⟨hp.congr rfl rfl (fun _ => rfl) (s.place_mapTotes f fun t => ⟨(hf t).1, (hf t).2.2⟩),
        hn.map fun t => Prod.ext (hf t).1 (hf t).2.1⟩
    | enterLane t slot hnew hslot hstate hno =>
      refine ⟨hp.admitTote hnew hslot hstate, hn.insert hnew ?_ hno⟩
      have hlen := hs.length_totes
      have hlt := State.length_slotted_lt hslot
      change s.totes.length < 16
      omega
    | takeOut id t slot ht hst =>
      refine ⟨hp.dropLane (.inl (State.place_eq_some.2 ⟨t, ht, hst⟩)) (fun x => State.place_dropTote _ id x) rfl
        (fun x => mem_leaveArrival) (hp.arrivalOnce.filter _) (fun _ => rfl), hn.filter _⟩
    | leaveLane id t slot ht hst =>
      have hold : s.place id = some (.leavingLane slot) := State.place_eq_some.2 ⟨t, ht, hst⟩
      refine ⟨hp.dropLane (.inr hold) (fun x => State.place_dropTote _ id x) rfl (fun x => ?_) hp.arrivalOnce
        (fun _ => rfl), hn.filter _⟩
      exact ⟨fun hx => ⟨hx, fun he => (hp.of_leavingLane hold).2.1 (he ▸ hx)⟩, fun hx => hx.1⟩
    | deliver w f hf => exact ⟨hp.deliverRecords hf, hn.updated fun _ => by rfl⟩
    | lose w f hf =>
      exact ⟨hp.loseRecords hf, hn.filter _⟩
    | endReturn w id hret =>
      have hold : s.place id = some (.leavingWin w) := by
        obtain ⟨q, hq, hid⟩ | ⟨t, ht, hst⟩ := hret
        · exact (hp.agree id (.leavingWin w)).1 (by simp [State.claims, hq, hid])
        · exact State.place_eq_some.2 ⟨t, ht, hst⟩
      exact ⟨hp.returnRecords hold, hn.filter _⟩
    | restart pins image counters free _ _ pending =>
      exact ⟨(startUp_placed pins image counters free pending).congr rfl rfl (fun _ => rfl) fun _ => rfl, List.nodup_nil,
        List.Pairwise.nil, nofun⟩
    | _ => exact ⟨hp.congr rfl rfl (fun _ => rfl) fun _ => rfl, hn⟩
  exact ⟨hplaced.1, hplaced.2, h.loadsWf hs.loads⟩

/-! ### The statement -/

theorem State.toteIs_iff {s : State} {id : ToteId} {ok : ToteState → Bool} :
    s.toteIs id ok = true ↔ ∃ p, s.place id = some p ∧ ok p = true := by
  unfold State.toteIs State.place
  cases s.tote? id <;> simp

theorem State.windowPlaces_iff {s : State} {w : Win} : s.windowPlaces w = true ↔
    (s.win w).lift.Nodup ∧ (∀ id ∈ (s.win w).lift, s.place id = some (.onLift w)) ∧
      (∀ id, (s.win w).fetch.map (fun f => f.tote) = some id → s.place id = some (.fetching w)) ∧
      ∀ id, (s.win w).ret.map (fun r => r.tote) = some id → s.place id = some (.leavingWin w) := by
  have hone : ∀ {α : Type} (o : Option α) (tote : α → ToteId) (p : ToteState),
      (o.all fun a => s.toteIs (tote a) (· == p)) = true ↔ ∀ id, o.map tote = some id → s.place id = some p := by
    intro α o tote p
    cases o <;> simp [State.toteIs_iff]
  simp only [State.windowPlaces, Bool.and_eq_true, decide_eq_true_eq, List.all_eq_true, State.toteIs_iff, hone, and_assoc,
    beq_iff_eq, exists_eq_right]

/-- Where records hold their totes is what is claimed of them, but for the arrival order of a leaving one. -/
theorem State.holdsTote_iff {s : State} {id : ToteId} {p : ToteState} (hleaving : ∀ l, p = .leavingLane l → id ∉ s.arrival) :
    s.holdsTote id p = true ↔ s.claims id p := by
  cases p with
  | inLane l => simp [State.holdsTote, State.claims]
  | leavingLane l => simp [State.holdsTote, State.claims, hleaving l rfl]
  | fetching w => cases hf : (s.win w).fetch <;> simp [State.holdsTote, State.claims, hf]
  | onLift w => simp [State.holdsTote, State.claims]
  | leavingWin w => cases hr : (s.win w).ret <;> simp [State.holdsTote, State.claims, hr]

/-- The places agree when every tote has the claims of its record, and no others. -/
theorem placesWf_iff {s : State} (hids : (s.totes.map fun t => t.id).Nodup) :
    s.placesWf ↔ Placed s ∧ Numbered s.totes := by
  have hfound : ∀ {id p}, s.place id = some p → ∃ t ∈ s.totes, t.id = id ∧ t.state = p := fun hp => by
    obtain ⟨t, ht, hst⟩ := State.place_eq_some.1 hp
    exact ⟨t, (State.mem_of_tote? ht).1, (State.mem_of_tote? ht).2, hst⟩
  constructor
  · rintro ⟨hholds, hlane, honce, harrival, hw0, hw1, hasc, hbelow⟩
    have hw : ∀ w, s.windowPlaces w = true := fun w => by cases w <;> assumption
    have hinLane : ∀ id ∈ s.arrival, ∃ l : Slot, s.place id = some (.inLane l) := fun id hid => by
      obtain ⟨p, hp, hok⟩ := State.toteIs_iff.1 (List.all_eq_true.1 harrival id hid)
      cases p with
      | inLane l => exact ⟨l, hp⟩
      | _ => cases hok
    have hslot : ∀ (l : Slot) (id : ToteId), s.lane[l] = some id →
        s.place id = some (.inLane l) ∨ s.place id = some (.leavingLane l) := fun l id hl => by
      have hsome := hlane l
      rw [hl, Option.all_some] at hsome
      obtain ⟨p, hp, hok⟩ := State.toteIs_iff.1 hsome
      simp only [Bool.or_eq_true, beq_iff_eq] at hok
      obtain rfl | rfl := hok
      · exact .inl hp
      · exact .inr hp
    have hclaimed : ∀ {id p}, s.place id = some p → s.claims id p := fun {id p} hp => by
      obtain ⟨t, ht, rfl, rfl⟩ := hfound hp
      refine (State.holdsTote_iff fun l hl hin => ?_).1 (hholds t ht)
      obtain ⟨k, hk⟩ := hinLane _ hin
      rw [hk, hl] at hp
      cases hp
    refine ⟨⟨honce, fun w => (State.windowPlaces_iff.1 (hw w)).1, fun id hid => ?_, fun id p => ⟨fun hc => ?_, hclaimed⟩⟩,
      ⟨hids, hasc, hbelow⟩⟩
    · obtain ⟨l, hl⟩ := hinLane id hid
      exact ⟨l, (hclaimed hl).1⟩
    · cases p with
      | inLane l =>
        obtain ⟨k, hk⟩ := hinLane id hc.2
        obtain h | h := hslot l id hc.1
        · exact h
        · rw [hk] at h; cases h
      | leavingLane l =>
        obtain h | h := hslot l id hc.1
        · exact absurd (hclaimed h).2 hc.2
        · exact h
      | fetching w => exact (State.windowPlaces_iff.1 (hw w)).2.2.1 id hc
      | onLift w => exact (State.windowPlaces_iff.1 (hw w)).2.1 id hc
      | leavingWin w => exact (State.windowPlaces_iff.1 (hw w)).2.2.2 id hc
  · rintro ⟨⟨honce, hliftOnce, hstands, hagree⟩, _, hasc, hbelow⟩
    have hw : ∀ w, s.windowPlaces w = true := fun w => State.windowPlaces_iff.2
      ⟨hliftOnce w, fun id hid => (hagree id (.onLift w)).1 hid, fun id hid => (hagree id (.fetching w)).1 hid,
        fun id hid => (hagree id (.leavingWin w)).1 hid⟩
    refine ⟨fun t ht => ?_, fun l => ?_, honce, List.all_eq_true.2 fun id hid => ?_, hw .w0, hw .w1, hasc, hbelow⟩
    · have hclaim := (hagree t.id t.state).2 (by rw [State.place, State.tote?_eq_of_mem hids ht]; rfl)
      refine (State.holdsTote_iff fun l hl => ?_).2 hclaim
      rw [hl] at hclaim
      exact hclaim.2
    · cases hl : s.lane[l] with
      | none => rfl
      | some id =>
        rw [Option.all_some]
        refine State.toteIs_iff.2 ?_
        by_cases hin : id ∈ s.arrival
        · exact ⟨_, (hagree id (.inLane l)).1 ⟨hl, hin⟩, by simp⟩
        · exact ⟨_, (hagree id (.leavingLane l)).1 ⟨hl, hin⟩, by simp⟩
    · obtain ⟨l, hl⟩ := hstands id hid
      exact State.toteIs_iff.2 ⟨_, (hagree id (.inLane l)).1 ⟨hl, hid⟩, rfl⟩

theorem standing_iff {s : State} (hids : (s.totes.map fun t => t.id).Nodup) :
    Standing s ↔ s.placesWf ∧ s.liftsWf = true := by
  rw [placesWf_iff hids, State.liftsWf_iff]
  exact ⟨fun h => ⟨⟨h.placed, h.numbered⟩, h.loads.1⟩, fun ⟨⟨hp, hn⟩, hl⟩ => ⟨hp, hn, hl, nofun⟩⟩

theorem Standing.of_tables {s t : State} (h : t.tables = s.tables) (hs : Standing s) : Standing t := by
  obtain ⟨htotes, hlane, harrival, hwindows, hmode⟩ : t.tables.totes = s.tables.totes ∧ t.tables.lane = s.tables.lane ∧
      t.tables.arrival = s.tables.arrival ∧ t.tables.windows = s.tables.windows ∧ t.tables.mode = s.tables.mode :=
    ⟨congrArg _ h, congrArg _ h, congrArg _ h, congrArg _ h, congrArg _ h⟩
  change t.totes = s.totes at htotes
  change t.windows = s.windows at hwindows
  have hwin : ∀ w, t.win w = s.win w := fun w => by rw [State.win, hwindows]; rfl
  refine ⟨hs.placed.congr hlane harrival (fun w => by rw [hwin]) (fun id => by rw [State.place, State.tote?, htotes]; rfl),
    htotes ▸ hs.numbered, loadsWf_of_le s t hmode (fun w => ?_) (fun w => ?_) hs.loads⟩
  · rw [hwin]
  · rw [hwin]
    exact fun hc => hc

theorem Standing.countTimers {s : State} (hs : Standing s) : Standing s.countTimers := by
  refine ⟨hs.placed.congr rfl rfl (fun w => ?_) (s.place_mapTotes Tote.tick fun _ => ⟨rfl, rfl⟩),
    hs.numbered.map fun _ => by rfl, loadsWf_of_le s _ rfl (fun w => ?_) (fun w => ?_) hs.loads⟩
  all_goals rw [s.countTimers_win]
  · exact (s.win w).tick_held
  · exact (Window.load_of_held (s.win w).tick_held).le
  · exact fun hc => hc

/-- Every step keeps the places, the record numbers and the bounds of the windows. -/
theorem step_standing {s t : State} (hstep : step s = .next t) (hs : Standing s) : Standing t :=
  step_keeps (P := Standing) (fun _ _ => Standing.of_tables)
    (fun _ _ _ _ hs => ⟨hs.placed.congr rfl rfl (fun _ => rfl) fun _ => rfl, hs.numbered, hs.loads⟩)
    (fun _ => Standing.countTimers) (fun _ _ _ hevent hs => hevent.acts.keep Act.standing hs) hstep hs

/-- Settles O58: every act moves at most one tote, with its claims; lane and windows have room for 16 totes. -/
theorem stepKeepsPlaces : Obligations.StepKeepsPlaces := by
  refine ⟨fun s t hstep htotes hplaces hlifts => ?_, fun s htotes hplaces hlifts => ?_⟩
  · have ht := step_standing hstep ((standing_iff htotes.1).2 ⟨hplaces, hlifts⟩)
    exact ((standing_iff ht.numbered.ids).1 ht).1
  · have hlen := ((standing_iff htotes.1).2 ⟨hplaces, hlifts⟩).length_totes
    have hslots := s.length_slotted
    omega

end Sys2Proof.Machine

/-! PROOFS. Supply, the reset line and start-up (R144, R145, R152, R160), and the statements O3, O4 and O53. -/

namespace Sys2Proof.Machine

/-! ### Start-up -/

/-- Start-up leaves every block at its first values (R17, R19, R57, R76, R101, R131, R134, R146, R163). -/
theorem startUp_atStart (pins : Pins) (image : Vector SWord 31) (counters : Counters) (free : Nat) (pending : List Instr) :
    atStart pins (startUp pins image counters free pending) := by
  have hpositions : ∀ p : Pos, (startUp pins image counters free pending).pos p = positionReset pins.ppos[p] pins.btn[p] :=
    fun p => by fin_cases p <;> rfl
  have hwindows : ∀ w : Win, (startUp pins image counters free pending).win w = windowReset (pins.pres.get w) pins.holdLow :=
    fun w => by cases w <;> rfl
  refine ⟨⟨rfl, fun l => ?_, rfl, rfl⟩, ⟨rfl, rfl, rfl, rfl, rfl, rfl⟩, fun p => ?_, fun w => ?_, ⟨rfl, rfl⟩, fun n => ?_,
    fun l => ?_, ⟨rfl, rfl, rfl⟩, ⟨rfl, rfl⟩⟩
  · exact Vector.getElem_replicate l.isLt
  · rw [hpositions]
    exact ⟨rfl, rfl, rfl, rfl, rfl, rfl, rfl, rfl, rfl, rfl, rfl, rfl⟩
  · rw [hwindows]
    exact ⟨rfl, rfl, rfl, rfl, rfl, rfl, rfl, rfl, rfl, rfl, rfl, rfl⟩
  · have hentry : (startUp pins image counters free pending).watches[n] = watchReset := Vector.getElem_replicate n.isLt
    rw [hentry]
    exact ⟨rfl, rfl, rfl, rfl, rfl, rfl, rfl⟩
  · cases l <;> exact ⟨rfl, rfl, rfl, rfl⟩

/-- With no store in flight the image stays, however far a store would have gone (R160). -/
theorem State.imageLeft_none {s : State} (h : s.settings.job = none) (cut : StoreCut) : s.imageLeft cut = s.settings.image := by
  rw [State.imageLeft, h]

theorem State.imageLeft_some {s : State} {job : StoreJob} (h : s.settings.job = some job) (cut : StoreCut) :
    s.imageLeft cut = cutImage job cut := by
  rw [State.imageLeft, h]

/-- Settles O3: POWER_ON is a start-up, and LOSS_OF_SUPPLY one without supply. -/
theorem supplyComesAndGoes : Obligations.SupplyComesAndGoes := by
  refine ⟨fun pins s => ⟨_, rfl, rfl, rfl, startUp_atStart _ _ _ _ _, rfl, fun h => State.imageLeft_none h _,
    fun job h => ⟨s.freeCut, State.imageLeft_some h _⟩, rfl, rfl⟩, fun s cut hoff => ?_⟩
  refine ⟨{ startUp s.levels (s.imageLeft cut) s.counters s.free s.pending with phase := .off },
    congrArg Host.Outcome.next (if_neg hoff), rfl, rfl, fun pins => ⟨_, rfl, rfl, startUp_atStart _ _ _ _ _, rfl, rfl⟩⟩

/-- Settles O4: a qualified reset is a start-up that waits for the rise of RSTn. -/
theorem resetLine : Obligations.ResetLine := by
  intro s hphase
  refine ⟨fun hidle => ?_, fun pins => ?_, fun left cut hlow => ?_⟩
  · obtain h | h := hphase <;> simp [exec, execRstnFall, h, hidle, Config.resetMs]
  · obtain h | h := hphase <;> simp only [exec, execRstnRise, h]
  · have hreset : exec (.resetQualified cut) s = .next (s.inReset cut) := by
      obtain h | h := hphase <;> simp only [exec, execResetQualified, h, hlow]
    exact ⟨s.inReset cut, hreset, rfl, startUp_atStart s.levels (s.imageLeft cut) s.counters s.free s.pending, rfl, rfl, rfl, fun pins =>
      ⟨_, rfl, rfl, rfl, startUp_atStart _ _ _ _ _, rfl, rfl, rfl⟩⟩

/-- Settles O53: at start-up no record is in use, no tote stands anywhere, nothing is lit and no port has work. -/
theorem resetMeetsInvariants : Obligations.ResetMeetsInvariants := by
  have hpositions : ∀ p : Pos, State.reset.pos p = positionReset false false := fun p => by fin_cases p <;> rfl
  refine ⟨rfl, ⟨List.nodup_nil, nofun⟩, ⟨Nat.zero_le _, List.nodup_nil, nofun, fun p => ?_⟩, rfl, rfl, rfl, ?_,
    nofun, nofun, rfl, rfl, fun p => ?_, List.Pairwise.nil, nofun⟩
  · rw [hpositions]
    rfl
  · exact (placesWf_iff (s := State.reset) List.nodup_nil).2 ⟨startUp_placed _ _ _ _ _, List.nodup_nil, List.Pairwise.nil, nofun⟩
  · simp only [State.positionFits, hpositions]
    rfl

end Sys2Proof.Machine

/-! PROOFS. Frames and receivers (R144, R145, R163 to R165, R170), and the statements O7 and O8. -/

namespace Sys2Proof.Machine

/-! ### The receiver -/

theorem State.receive_of_running {s : State} (h : s.phase = .running) (l : Link) (q : Receiver) :
    s.receive l q = s.updPort l fun p => { p with receiver := q } := if_pos h

/-- Settles O7: while the part runs each of these events sets the receiver, and nothing else. -/
theorem receiverEvents : Obligations.ReceiverEvents := by
  refine ⟨fun l s hrun => ⟨?_, ?_, fun n hn => ?_, fun content crc hcrc => ?_⟩, fun l s _ => rfl⟩
  · exact congrArg Host.Outcome.next (State.receive_of_running hrun l _)
  · exact congrArg Host.Outcome.next (State.receive_of_running hrun l _)
  · exact congrArg Host.Outcome.next ((if_pos hn).trans (State.receive_of_running hrun l _))
  · exact congrArg Host.Outcome.next ((if_pos hcrc).trans (State.receive_of_running hrun l _))

/-! ### Requests and their owners -/

/-- Who answers a request (R170). -/
def requestOwner : Instr → State → Answer
  | .post _ task tote orderTote sku cls quantity unitVolume crushClass =>
    ownPost task tote orderTote sku cls quantity unitVolume crushClass
  | .withdraw _ task => ownWithdraw task
  | .rush _ tote => ownRush tote
  | .bind _ pos orderTote cls capacity => ownBind pos orderTote cls capacity
  | .close _ pos => ownClose pos
  | .mode _ mode => ownMode mode
  | .clear _ => ownClear
  | .setItem _ item value => ownSetItem item value
  | .store r => ownStore r.tag
  | .lock _ => ownLock
  | .toteIn _ tote slot cls brought => ownToteIn tote slot cls brought
  | .toteOut _ tote => ownToteOut tote
  | .atWin _ tote window => ownAtWin tote window
  | .gone _ tote => ownGone tote
  | .swapped _ pos => ownSwapped pos
  | .picked _ task count => ownPicked task count
  | .short _ task => ownShort task
  | .toteBad _ tote => ownToteBad tote
  | .hold r windows => ownHold r.link windows
  | .resume r windows => ownResume r.link windows
  | .read _ item index => ownRead item index
  | .list r => ownList r.link
  | .cursor r kind index => ownCursor r.link kind index
  | .watch r entry enabled subject low high combine events windows =>
    ownWatch r.link entry enabled subject low high combine events windows
  | _ => fun _ => .refused .format

/-- A request is served by its owner (R165). -/
theorem exec_request {c : Instr} {r : Req} {k : ReqKind} {body : List Byte} (h : c.request = some (r, k, body)) (s : State) :
    exec c s = .next (s.serve k r (requestOwner c)) := by
  cases c
  case post | withdraw | rush | bind | close | mode | clear | setItem | store | lock | toteIn | toteOut | atWin | gone
      | swapped | picked | short | toteBad | hold | resume | read | list | cursor | watch => cases h; rfl
  all_goals cases h

/-- The kinds of a link are refused AUTHORITY by the port on any other link (R170). -/
theorem ReqKind.allowed_of_code {k : ReqKind} {l : Link}
    (h : (k.code.toNat / 16 = 2 ∧ l ≠ .order) ∨ (k.code.toNat / 16 = 3 ∧ l ≠ .transport) ∨
      (k.code.toNat / 16 = 4 ∧ l ≠ .bench)) : k.allowed l = false := by
  cases k <;> cases l <;> simp_all [ReqKind.code, ReqKind.allowed]

/-- A format that fits no kind is a wrong one (R165, check 2). -/
theorem goodFormat_eq_false {kind : Byte} {n : Nat} (h : ∀ k : ReqKind, k.code = kind → k.bodyLength ≠ n) :
    goodFormat kind n = false := by
  unfold goodFormat
  cases hk : kindOf kind with
  | none => rfl
  | some k =>
    have hcode : k.code = kind := by simpa using List.find?_some hk
    simpa using h k hcode

@[simp] theorem State.heard_slotBusy (s : State) (l : Link) : (s.heard l).slotBusy l = s.slotBusy l := by
  cases l <;> rfl

/-- Settles O8: the port turns these frames away before their owner sees them; WATCH on the transport link is turned away
by the watch unit. -/
theorem framesTurnedAway : Obligations.FramesTurnedAway := by
  refine ⟨fun s c r k body hreq => ?_, fun r kind body s hwrong => ?_⟩
  · rw [exec_request hreq]
    refine ⟨fun hrun => congrArg _ (serve_not_running hrun), fun hrun hbusy => congrArg _ (serve_slotBusy hrun hbusy),
      fun hlistens hoff => congrArg _ ?_⟩
    have hcode : k.allowed r.link = false ∨ (k = .watch ∧ r.link = .transport) := by
      obtain h | h | h | h := hoff
      · exact .inl (ReqKind.allowed_of_code (.inl h))
      · exact .inl (ReqKind.allowed_of_code (.inr (.inl h)))
      · exact .inl (ReqKind.allowed_of_code (.inr (.inr h)))
      · exact .inr h
    obtain hcode | ⟨rfl, hlink⟩ := hcode
    · exact serve_authority hlistens hcode
    · have howner : requestOwner c (s.heard r.link) = .refused .authority := by
        cases c <;> cases hreq
        simp [requestOwner, ownWatch, hlink, noticeLink]
      exact serve_refused hlistens rfl howner
  · have hformat := goodFormat_eq_false hwrong
    have hrefuse : s.phase = .running → exec (.formatRefusal r kind body) s =
        .next (if s.slotBusy r.link then s.heard r.link else (s.heard r.link).refuse r kind .format) := by
      intro hrun
      refine congrArg _ ((if_pos ⟨hrun, hformat⟩).trans ?_)
      rw [State.refuseFormat, State.receive_of_running hrun, ← s.heard_slotBusy r.link]
      rfl
    refine ⟨fun hrun => congrArg _ (if_neg fun h => hrun h.1), fun hrun hbusy => ?_, fun hlistens => ?_⟩
    · rw [hrefuse hrun, if_pos hbusy]
    · obtain ⟨hrun, hfree⟩ := listens_iff.1 hlistens
      rw [hrefuse hrun, hfree, if_neg Bool.false_ne_true]

end Sys2Proof.Machine

/-! PROOFS. The settings store (R153 to R162): what SETITEM, LOCK, STORE and a load do, and the statements O5, O6, O14 and
O16. -/

namespace Sys2Proof.Machine

/-! ### The outcome of an owner's answer (R165, R166) -/

/-- What the port makes of the answer `a` to request `r` of kind `k`, taken on state `s`. -/
def Answer.outcome (s : State) (r : Req) (k : ReqKind) : Answer → State
  | .refused c => s.refusal r k c
  | .portOnly t c result => t.answerPort r k c result
  | .taken t c => t.answer r k c
  | .deferred t => t

/-- A request that its link takes has the outcome of its owner's answer. -/
theorem serve_outcome {k : ReqKind} {r : Req} {s : State} (h : s.listens r.link = true) (ha : k.allowed r.link = true)
    (owner : State → Answer) : s.serve k r owner = (owner (s.heard r.link)).outcome s r k := by
  cases howner : owner (s.heard r.link) with
  | refused c => exact serve_refused h ha howner
  | portOnly t c result => exact serve_portOnly h ha howner
  | taken t c => exact serve_taken h ha howner
  | deferred t => exact serve_deferred h ha howner

/-- A check that refuses with `c` comes before the rest of an answer. -/
theorem Answer.outcome_check {s : State} {r : Req} {k : ReqKind} {p : Prop} [Decidable p] {c : Reason} {rest : Answer} {t : State}
    (h : ¬ p → rest.outcome s r k = t) :
    (if p then .refused c else rest : Answer).outcome s r k = if p then s.refusal r k c else t := by
  by_cases hp : p
  · rw [if_pos hp, if_pos hp]
    rfl
  · rw [if_neg hp, if_neg hp, h hp]

/-! ### LOCK and STORE (R156 to R159) -/

/-- Settles O16: the settings store's checks, its word 28, and the store at its beginning and its completion. -/
theorem lockAndStore : Obligations.LockAndStore := by
  refine ⟨fun r s hlink hlistens => ?_, fun s job hjob readBack => ?_⟩
  · rw [← hlink] at hlistens
    have hallowed : ReqKind.lock.allowed r.link = true ∧ ReqKind.store.allowed r.link = true := by simp [hlink, ReqKind.allowed]
    refine ⟨congrArg _ ((serve_outcome hlistens hallowed.1 _).trans ?_), congrArg _ ((serve_outcome hlistens hallowed.2 _).trans ?_)⟩
    · rw [← hlink]
      exact Answer.outcome_check fun _ => Answer.outcome_check fun _ => rfl
    · rw [← hlink]
      exact Answer.outcome_check fun _ => Answer.outcome_check fun _ => rfl
  · have hcomplete : exec (.storeCompletion readBack) s = .next ((s.completeStore job readBack).pump .order) := by
      simp only [exec, execStoreCompletion, hjob]
    rw [hcomplete]
    by_cases hgood : readBack = job.words
    · simp [State.completeStore, State.updSettings, hgood, storeReply, Config.noReply, ReqKind.code]
    · have hbad : (readBack == job.words) = false := by simpa using hgood
      simp [State.completeStore, State.updSettings, hgood, hbad, storeReply, Config.noReply, ReqKind.code]

/-! ### SETITEM (R154) -/

/-- A value is clamped to the range of its item. -/
theorem clampItem_eq (n : Fin 29) (v : Int) : clampItem n v = max (itemRow n).lo (min (itemRow n).hi v) := by
  have hrange : (itemRow n).lo ≤ (itemRow n).hi := by
    revert n
    decide
  unfold clampItem
  split
  · omega
  · split <;> omega

/-- Items 0, 1, 2 and 4 are asked for as signed numbers. -/
theorem requestValue_eq (n : Fin 29) (v : BitVec 16) :
    requestValue n v = if n = 0 ∨ n = 1 ∨ n = 2 ∨ n = 4 then v.toInt else (v.toNat : Int) := by
  have hn : (n.val ≤ 2 ∨ n.val = 4) ↔ (n = 0 ∨ n = 1 ∨ n = 2 ∨ n = 4) := by
    revert n
    decide
  simp only [requestValue, hn]

/-- The bands of a working copy rise when their values do. -/
theorem bandsRise_work (s : State) : bandsRise s.settings.work = true ↔
    s.signedSetting 0 < s.signedSetting 1 ∧ s.signedSetting 1 < s.signedSetting 2 := decide_eq_true_iff

/-- The bands after item `n` is set to a value of its range (R154, check 5). -/
theorem bandsRise_writeItem (s : State) (n : Fin 29) {v : Int} (hlo : (itemRow n).lo ≤ v) (hhi : v ≤ (itemRow n).hi) :
    bandsRise (s.writeItem n v).settings.work = true ↔
      (if (0 : Fin 29) = n then v else s.signedSetting 0) < (if (1 : Fin 29) = n then v else s.signedSetting 1) ∧
        (if (1 : Fin 29) = n then v else s.signedSetting 1) < (if (2 : Fin 29) = n then v else s.signedSetting 2) := by
  have hnew : ∀ m, (s.writeItem n v).signedSetting m = if m = n then v else s.signedSetting m :=
    (settingWordsRoundTrip.2 n v hlo hhi).2.2 s
  rw [bandsRise_work, hnew, hnew, hnew]

/-- Settles O14: the settings store's checks in order, the clamp before the bands are tested. -/
theorem setItem : Obligations.SetItem := by
  intro r item value s hlink hlistens
  rw [← hlink] at hlistens
  have hallowed : ReqKind.setItem.allowed r.link = true := by rw [hlink]; rfl
  refine congrArg _ ((serve_outcome hlistens hallowed _).trans ?_)
  refine Answer.outcome_check fun _ => Answer.outcome_check fun _ => ?_
  by_cases hitem : item.toNat < 28
  case neg => simp only [writableItem, dif_neg hitem]; rfl
  simp only [writableItem, dif_pos hitem, ← hlink, requestValue_eq, clampItem_eq]
  refine Answer.outcome_check fun _ => ?_
  have hfall : ∀ b : Bool, b = false ↔ ¬ b = true := fun b => by cases b <;> simp
  rw [if_congr (and_congr_right fun _ => (hfall _).trans (not_congr (bandsRise_writeItem _ _ ?_ ?_))) rfl rfl]
  · exact Answer.outcome_check fun _ => rfl
  · rw [← clampItem_eq]
    exact (clampItem_bounds _ _).1
  · rw [← clampItem_eq]
    exact (clampItem_bounds _ _).2

/-! ### The load (R161, R162) -/

/-- The items of an image are its first 29 words (R157). -/
theorem imageItems_get (im : Vector SWord 31) (n : Fin 29) : (imageItems im)[n] = im[n.val] := by
  simp [imageItems]

/-- The check word, as a number (R157). -/
theorem toNat_checkWord (ws : Vector SWord 29) :
    (checkWord ws).toNat = 65535 - (((List.finRange 29).map fun n => ws[n].toNat % (itemRow n).modulus).sum % 65536) := by
  have hitems : allItems = List.finRange 29 := rfl
  rw [checkWord, hitems, BitVec.toNat_ofNat]
  exact Nat.mod_eq_of_lt (Nat.lt_succ_of_le (Nat.sub_le _ _))

/-- The words that pass test 3 (R161). -/
theorem wordsWf_iff_values (ws : Vector SWord 29) : wordsWf ws = true ↔ (∀ n : Fin 29, wordInRange n ws[n] = true) ∧
    itemValue 0 ws[0] < itemValue 1 ws[1] ∧ itemValue 1 ws[1] < itemValue 2 ws[2] := by
  rw [wordsWf_iff]
  exact and_congr_right fun _ => decide_eq_true_iff

/-- The load's tests in order, and the cause that each failure gives (R161). -/
theorem loadTest_cases (im : Vector SWord 31) :
    (loadTest im = .noMark ↔ ¬ im[30] = 1) ∧
    (loadTest im = .badCheck ↔ im[30] = 1 ∧ ¬ im[29] = checkWord (imageItems im)) ∧
    (loadTest im = .badValue ↔ im[30] = 1 ∧ im[29] = checkWord (imageItems im) ∧ ¬ wordsWf (imageItems im) = true) := by
  by_cases hmark : im[30] = 1
  case neg =>
    have hfirst := loadTest_noMark hmark
    exact ⟨iff_of_true hfirst hmark, iff_of_false (by rw [hfirst]; decide) fun h => hmark h.1,
      iff_of_false (by rw [hfirst]; decide) fun h => hmark h.1⟩
  by_cases hcheck : im[29] = checkWord (imageItems im)
  case neg => simp [loadTest_badCheck hmark hcheck, hmark, hcheck]
  by_cases hwords : wordsWf (imageItems im) = true
  · simp [loadTest_checked hmark hcheck, hmark, hcheck, hwords]
  · simp [loadTest_checked hmark hcheck, hmark, hcheck, hwords]

/-- The word of each item in the working copy that a load gives (R161). -/
theorem loadedWords_get (image : Vector SWord 31) (service : Bool) (n : Fin 29) : (loadedWords image service)[n] =
    if n = 28 ∧ service = true then 0
    else if loadTest image = .loaded then (imageItems image)[n] else defaultWords[n] := by
  have hbase : ∀ ws : Vector SWord 29, ws = (if loadTest image = .loaded then imageItems image else defaultWords) →
      ws[n] = if loadTest image = .loaded then (imageItems image)[n] else defaultWords[n] := by
    rintro _ rfl
    split <;> rfl
  cases service with
  | false => simpa [loadedWords] using hbase _ rfl
  | true =>
    by_cases hn : n = 28
    · subst hn
      simp [loadedWords]
    · have hval : (28 : Nat) ≠ n.val := fun h => hn (Fin.ext h.symm)
      simpa [loadedWords, hn, Vector.getElem_set, hval] using hbase _ rfl

/-- Settles O5: the tests of the load, and the state that its end leaves. -/
theorem loadGivesTheWorkingCopy : Obligations.LoadGivesTheWorkingCopy := by
  refine ⟨fun n w => ⟨?_, ?_⟩, toNat_checkWord, fun im => ⟨imageItems_get im, ?_⟩, fun s hloading => ?_⟩
  · have hn : n.val = 4 ↔ n = 4 := by simp [Fin.ext_iff]
    unfold itemValue
    split_ifs <;> simp_all
  · have hn : n.val = 4 ↔ n = 4 := by simp [Fin.ext_iff]
    unfold wordInRange
    split_ifs <;> simp_all
  · obtain ⟨hmark, hcheck, hvalue⟩ := loadTest_cases im
    rw [← wordsWf_iff_values]
    exact ⟨hmark, hcheck, hvalue, loadTest_eq_loaded_iff im⟩
  · refine ⟨s.endLoad, congrArg _ (if_pos hloading), rfl, loadedWords_get _ _, rfl, rfl, rfl, rfl, rfl, rfl⟩

/-! ### A store and what is left of it (R157, R158, R160) -/

section
variable (ws : Vector SWord 29) (check mark : SWord)

theorem imageItems_imageOf : imageItems (imageOf ws check mark) = ws := by
  refine Vector.ext fun n hn => ?_
  rw [show (imageItems (imageOf ws check mark))[n] = (imageOf ws check mark)[n] from imageItems_get _ ⟨n, hn⟩]
  simp [imageOf, List.getElem_append_left, hn]

theorem imageOf_check : (imageOf ws check mark)[29] = check := by
  simp [imageOf, List.getElem_append_right]

theorem imageOf_mark : (imageOf ws check mark)[30] = mark := by
  simp [imageOf, List.getElem_append_right]

end

/-- Settles O6: the complete mark is written last, over a whole snapshot. -/
theorem storeNeverMixes : Obligations.StoreNeverMixes := by
  intro ws tag cut hwf
  have hitems : imageItems (storeWords ws) = ws := imageItems_imageOf _ _ _
  have hwhole : loadTest (storeWords ws) = .loaded ∧ imageItems (storeWords ws) = ws :=
    ⟨(loadTest_eq_loaded_iff _).2 ⟨imageOf_mark _ _ _, (imageOf_check _ _ _).trans (by rw [hitems]), hitems.symm ▸ hwf⟩, hitems⟩
  have hunmarked : ∀ (vs : Vector SWord 29) (check : SWord), loadTest (imageOf vs check 0xFFFF) = .noMark := fun vs check =>
    loadTest_noMark (by rw [imageOf_mark]; decide)
  refine ⟨hwhole, ?_⟩
  cases cut with
  | inWords done word => exact .inr (hunmarked _ _)
  | afterWords checkWritten => exact .inr (hunmarked _ _)
  | atMark took =>
    cases took with
    | false => exact .inr (hunmarked _ _)
    | true =>
      have hcut : cutImage ⟨storeWords ws, tag⟩ (.atMark true) = storeWords ws := by
        simp only [cutImage, hitems, if_true]
        exact congrArg (fun check => imageOf ws check 1) (imageOf_check ws _ 1)
      rw [hcut]
      exact .inl hwhole
  | inReadBack => exact .inl hwhole

end Sys2Proof.Machine

/-! PROOFS. Totes and tasks in the lane (R10 to R15, R46, R48, R49, R96, R110): the statements O29, O30 and O32. -/

namespace Sys2Proof.Machine

/-! ### TOTEOUT and RUSH -/

/-- Settles O29: the tote table's answers by the record and its state. -/
theorem toteOutAndRush : Obligations.ToteOutAndRush := by
  refine ⟨fun r id s hlink hlistens => ?_, fun r id s hlink hlistens => ?_⟩
  · rw [← hlink] at hlistens
    have hallowed : ReqKind.toteOut.allowed r.link = true := by rw [hlink]; rfl
    refine congrArg _ ((serve_outcome hlistens hallowed _).trans ?_)
    rw [← hlink, ownToteOut, State.heard_tote?]
    cases s.tote? id with
    | none => rfl
    | some t => cases ht : t.state <;> simp only [ht] <;> rfl
  · rw [← hlink] at hlistens
    have hallowed : ReqKind.rush.allowed r.link = true := by rw [hlink]; rfl
    refine congrArg _ ((serve_outcome hlistens hallowed _).trans ?_)
    rw [← hlink]
    refine Answer.outcome_check fun _ => ?_
    rw [State.heard_tote?]
    cases s.tote? id with
    | none => rfl
    | some t => cases ht : t.state <;> simp only [ht] <;> rfl

/-! ### Leaving the lane -/

/-- An orphan timer starts where no live task names a lane tote (R11). -/
theorem State.startOrphan_of_inLane {s : State} {id : ToteId} {t : Tote} {l : Slot} (ht : s.tote? id = some t)
    (hst : t.state = .inLane l) : s.startOrphan id =
      if ∃ x ∈ s.tasks, x.tote = id then s else s.updTote id fun x => { x with orphanTimer := some s.orphanMs } := by
  have hnamed : s.named id = true ↔ ∃ x ∈ s.tasks, x.tote = id := by simp [State.named]
  simp only [State.startOrphan, ht, hst, hnamed]

/-- Settles O30: each event by the state of the tote that it names. -/
theorem laneReturns : Obligations.LaneReturns := by
  refine ⟨fun s id t ht l hst horphan => ?_, fun s id t ht l hst => State.startOrphan_of_inLane ht hst,
    fun r id s hlink hlistens => ?_, fun s id t ht l hst htimer => ?_⟩
  · have hrun : exec (.orphanExpiry id) s = .next (s.laneSendBack id).conclude := by
      simp [exec, execOrphanExpiry, ht, horphan]
    rw [hrun, State.laneSendBack_of_inLane ht hst]
    refine congrArg (fun u : State => Host.Outcome.next u.conclude) ?_
    unfold State.direct
    split <;> rfl
  · rw [← hlink] at hlistens
    have hallowed : ReqKind.gone.allowed r.link = true := by rw [hlink]; rfl
    refine congrArg _ ((serve_outcome hlistens hallowed _).trans ?_)
    rw [← hlink, ownGone, State.heard_tote?]
    cases s.tote? id with
    | none => rfl
    | some t => cases ht : t.state <;> simp only [ht] <;> rfl
  · obtain ⟨ms, hms⟩ := Option.isSome_iff_exists.1 htimer
    simp only [exec, execLaneReturnTimeout, ht, hst, hms]
    rfl

/-! ### WITHDRAW and the await deadline -/

/-- Settles O32. -/
theorem withdrawAndAwait : Obligations.WithdrawAndAwait := by
  refine ⟨fun r id s hlink hlistens => ?_, fun s id t ht htimer => ?_⟩
  · rw [← hlink] at hlistens
    have hallowed : ReqKind.withdraw.allowed r.link = true := by rw [hlink]; rfl
    rw [← hlink]
    exact congrArg _ (serve_takenIf hlistens hallowed (fun u => (u.task? id).isSome = true)
      (fun u => (u.endTask .cancelled id).settle) .ok .unknown)
  · simp [exec, execAwaitExpiry, ht, htimer]

end Sys2Proof.Machine

/-! PROOFS. The lines of positions and windows, and the bench's requests on picks (R63, R73, R74, R80, R85, R89, R90, R121 to
R127): the statements O37, O38, O41, O44 and O46. -/

namespace Sys2Proof.Machine

/-! ### Lines -/

theorem State.followsLines_iff (s : State) : s.followsLines = true ↔ s.phase = .loading ∨ s.phase = .running := by
  simp [State.followsLines]

/-- Two updates of one position are one. -/
theorem State.updPos_updPos (s : State) (p : Pos) (f g : Position → Position) :
    (s.updPos p f).updPos p g = s.updPos p (fun q => g (f q)) := by
  simp [State.updPos]

/-- Settles O37: each edge of PPOS by the position's state. -/
theorem positionSensor : Obligations.PositionSensor := by
  intro p s hphase
  have hlines := (s.followsLines_iff).2 hphase
  refine ⟨fun hpresent => ?_, fun hpresent => ?_⟩
  · have hfall : exec (.pposFall p) s = .next (s.pposFalls p).conclude := by
      simp [exec, execPposFall, hlines, hpresent]
    rw [hfall]
    refine congrArg (fun u : State => Host.Outcome.next u.conclude) ?_
    cases hst : (s.pos p).state <;> cases hlock : (s.pos p).lock <;> simp [State.pposFalls, hst, hlock]
  · have hrise : exec (.pposRise p) s = .next (s.pposRises p).conclude := by
      simp [exec, execPposRise, hlines, hpresent]
    rw [hrise]
    refine congrArg (fun u : State => Host.Outcome.next u.conclude) ?_
    unfold State.pposRises
    dsimp only
    split
    next hst hbefore =>
      rw [if_pos ⟨hst, hbefore⟩, State.updPos_updPos]
    next hst hbefore =>
      rw [if_neg (by simp [hbefore]), if_pos ⟨hst, hbefore⟩, State.enterClosing_eq, State.updPos_updPos, State.pos_updPos]
    next hnot1 hnot2 => rw [if_neg fun h => hnot1 h.1 h.2, if_neg fun h => hnot2 h.1 h.2]

/-- Settles O38. -/
theorem buttons : Obligations.Buttons := by
  intro p s hphase
  have hlines := (s.followsLines_iff).2 hphase
  refine ⟨fun hup harmed => ?_, fun hdown => ?_⟩
  · have hpress : exec (.btnPress p) s =
        .next ((s.updPos p fun q => { q with pressed := true, armed := false }).press p).conclude := by
      simp [exec, execBtnPress, hlines, hup, harmed]
    have hwin : ∀ (f : Position → Position) (w : Win), (s.updPos p f).win w = s.win w := fun _ _ => rfl
    have hlit : (s.updPos p fun q => { q with pressed := true, armed := false }).litTo p = s.litTo p := by
      unfold State.litTo
      rw [State.pos_updPos]
      rfl
    rw [hpress]
    refine ⟨fun w t hlitTo hguard => ?_, fun hno => ?_⟩
    · rw [State.press, hlit, hlitTo]
      simp only [hwin, hguard, Option.isNone_none, if_true]
    · rw [State.press, hlit]
      obtain hno | ⟨w, t, hlitTo, hguard⟩ := hno
      · rw [hno]
      · rw [hlitTo]
        have hrunning : (s.win w).guardTimer.isNone = false := by simpa using hguard
        simp only [hwin, hrunning, Bool.false_eq_true, if_false]
  · simp [exec, execBtnRelease, hlines, hdown]

/-- Nothing is unlit where nothing is lit at a window newly held (R140). -/
theorem State.unlightHeld_none {before after s : State}
    (h : ∀ w, before.held w = false → after.held w = true → (s.win w).lit = none) :
    State.unlightHeld before after s = s := by
  have hunlit : ∀ w, (s.win w).lit = none → s.unlight w .hold = s := fun w hw => by simp [State.unlight, hw]
  have hone : ∀ w, (if !before.held w && after.held w then s.unlight w .hold else s) = s := fun w => by
    split
    next hnew =>
      simp only [Bool.and_eq_true, Bool.not_eq_true'] at hnew
      exact hunlit w (h w hnew.1 hnew.2)
    next => rfl
  have hnotBoth : ¬ ((!before.held .w0 && after.held .w0) && (!before.held .w1 && after.held .w1) && (s.win .w0).lit.isSome &&
      (s.win .w1).lit.isSome) = true := fun hb => by
    simp only [Bool.and_eq_true, Bool.not_eq_true'] at hb
    obtain ⟨⟨⟨⟨hb0, ha0⟩, _⟩, hlit⟩, _⟩ := hb
    simp [h .w0 hb0 ha0] at hlit
  unfold State.unlightHeld
  dsimp only
  rw [if_neg hnotBoth, hone, hone]

/-- A fault at a window without a lit task unlights nothing: the hold, its cause and the notices are all of it (R89). -/
theorem State.takeFault_unlit {s : State} {w : Win} (h : (s.win w).lit = none) (cause : WinFault) (id : ToteId) :
    s.takeFault w cause id =
      (s.updWin w fun x => { x with holds := { x.holds with fault := true }, faultCause := some cause }).noteBoth
        (.windowFault w cause id) := by
  refine congrArg (fun u : State => u.noteBoth (.windowFault w cause id)) (State.unlightHeld_none fun v hbefore hafter => ?_)
  by_cases hv : v = w
  · subst hv
    rw [State.win_updWin]
    exact h
  · rw [State.held, s.win_updWin_ne hv] at hafter
    exact absurd hafter (by rw [← State.held, hbefore]; decide)

/-- Settles O41: PRES by the window's fetch, return and lift. -/
theorem windowSensor : Obligations.WindowSensor := by
  refine ⟨fun w s hphase => ?_, fun w cause id s hlit => State.takeFault_unlit hlit cause id⟩
  have hlines := (s.followsLines_iff).2 hphase
  refine ⟨fun hlow => ?_, fun hhigh => ?_⟩
  · have hrise : exec (.presRise w) s = .next (s.presRises w).conclude := by
      simp [exec, execPresRise, hlines, hlow]
    rw [hrise]
    refine congrArg (fun u : State => Host.Outcome.next u.conclude) ?_
    unfold State.presRises
    cases (s.win w).fetch <;> rfl
  · have hfall : exec (.presFall w) s = .next (s.presFalls w).conclude := by
      simp [exec, execPresFall, hlines, hhigh]
    rw [hfall]
    refine congrArg (fun u : State => Host.Outcome.next u.conclude) ?_
    have htop : (s.updWin w fun x => { x with present := false }).top? w = s.top? w := by
      rw [State.top?, State.win_updWin]
      rfl
    unfold State.presFalls
    cases hfetch : (s.win w).fetch with
    | some f => rfl
    | none =>
      cases hret : (s.win w).ret with
      | some q => rfl
      | none =>
        cases hlift : (s.win w).lift with
        | nil => rfl
        | cons id rest =>
          have hid : s.top? w = some id := by rw [State.top?, hlift]; rfl
          simp [State.pulledFault, htop, hid]

/-! ### PICKED, SHORT and TOTEBAD -/

theorem State.heard_litWindow (s : State) (l : Link) (t : Task) : (s.heard l).litWindow t = s.litWindow t := rfl

theorem State.litWindow_of_task? {s : State} {id : TaskId} {t : Task} (h : s.task? id = some t) :
    s.litWindow t = if t.state = .lit then s.litAt id else none := by
  rw [State.litWindow, State.id_of_task? h]

/-- Settles O44: the put controller's checks in order. -/
theorem picked : Obligations.Picked := by
  intro r id count s hlink hlistens
  rw [← hlink] at hlistens
  have hallowed : ReqKind.picked.allowed r.link = true := by rw [hlink]; rfl
  refine congrArg _ ((serve_outcome hlistens hallowed _).trans ?_)
  rw [← hlink]
  have hzero : count = 0 ↔ count.toNat = 0 := by simp [BitVec.toNat_eq]
  simp only [ownPicked, hzero]
  refine Answer.outcome_check fun _ => ?_
  rw [show (s.heard r.link).task? id = s.task? id from rfl]
  cases ht : s.task? id with
  | none =>
    have hended : (s.heard r.link).endedLast id = true ↔
        (s.win .w0).lastEnded = some id ∨ (s.win .w1).lastEnded = some id := by simp [State.endedLast]
    simp only [hended]
    split <;> rfl
  | some t =>
    dsimp only
    rw [State.heard_litWindow, State.litWindow_of_task? ht]
    cases (if t.state = .lit then s.litAt id else none : Option Win) with
    | none => rfl
    | some w => exact Answer.outcome_check fun _ => rfl

/-- TOTEBAD of the tote on top of a window, step by step (R127). -/
theorem State.condemn_of_top {s : State} {w : Win} {id : ToteId} (h : s.top? w = some id) :
    s.condemn w id = State.sendIfDue w ((s.updTote id fun x => { x with finished := true }).endAll
      (State.endTask (.failed .toteBad)) (ascendingIds (s.tasks.filter fun t => t.tote == id))) := by
  simp only [State.condemn, State.markFinished, h]
  rfl

/-- Settles O46: the put controller's checks in order, and what each request begins with. -/
theorem shortAndToteBad : Obligations.ShortAndToteBad := by
  refine ⟨fun r id s hlink hlistens => ?_, fun r id s hlink hlistens => ?_⟩
  · rw [← hlink] at hlistens
    have hallowed : ReqKind.short.allowed r.link = true := by rw [hlink]; rfl
    refine congrArg _ ((serve_outcome hlistens hallowed _).trans ?_)
    rw [← hlink]
    refine Answer.outcome_check fun _ => ?_
    rw [show (s.heard r.link).task? id = s.task? id from rfl]
    cases ht : s.task? id with
    | none => rfl
    | some t =>
      dsimp only
      rw [State.heard_litWindow, State.litWindow_of_task? ht]
      by_cases hst : t.state = .lit
      · rw [if_pos hst]
        cases s.litAt id with
        | none => exact (if_neg fun h => absurd h.2 (by decide)).symm
        | some w => exact (if_pos ⟨hst, rfl⟩).symm
      · rw [if_neg hst, if_neg fun h => hst h.1]
        rfl
  · rw [← hlink] at hlistens
    have hallowed : ReqKind.toteBad.allowed r.link = true := by rw [hlink]; rfl
    refine congrArg _ ((serve_outcome hlistens hallowed _).trans ?_)
    rw [← hlink]
    refine Answer.outcome_check fun _ => ?_
    have hnone : (s.heard r.link).tote? id = none ↔ s.tote? id = none := Iff.rfl
    simp only [Option.isNone_iff_eq_none, hnone]
    refine Answer.outcome_check fun _ => ?_
    have htop : (s.heard r.link).topAt id = if s.top? .w0 = some id then some .w0
      else if s.top? .w1 = some id then some .w1 else none := rfl
    rw [htop]
    by_cases h0 : s.top? .w0 = some id
    · rw [if_pos h0, if_pos (show (s.win .w0).lift.head? = some id from h0)]
      exact congrArg (fun u : State => u.settle.answer r .toteBad .ok) (State.condemn_of_top (s := s.heard r.link) h0)
    rw [if_neg h0, if_neg (show ¬ (s.win .w0).lift.head? = some id from h0)]
    by_cases h1 : s.top? .w1 = some id
    · rw [if_pos h1, if_pos (show (s.win .w1).lift.head? = some id from h1)]
      exact congrArg (fun u : State => u.settle.answer r .toteBad .ok) (State.condemn_of_top (s := s.heard r.link) h1)
    · rw [if_neg h1, if_neg (show ¬ (s.win .w1).lift.head? = some id from h1)]
      rfl

end Sys2Proof.Machine

/-! PROOFS. The watch unit (R146 to R149): the statements O51 and O52. -/

namespace Sys2Proof.Machine

/-! ### The codes of a WATCH (R173) -/

theorem subjectOf_eq (b : Byte) :
    subjectOf b = if b.toNat < 2 then some (if b.toNat = 0 then .tote else .sku) else none := by
  unfold subjectOf
  split <;> simp_all
  omega

theorem combineOf_eq (b : Byte) :
    combineOf b = if b.toNat < 2 then some (if b.toNat = 0 then .both else .either) else none := by
  unfold combineOf
  split <;> simp_all
  omega

theorem winSetOf_eq (b : Byte) :
    winSetOf b = if 1 ≤ b.toNat ∧ b.toNat ≤ 3 then some ⟨b.getLsbD 0, b.getLsbD 1⟩ else none := by
  have hbit : ∀ i, b.getLsbD i = b.toNat.testBit i := fun i => rfl
  simp only [hbit]
  unfold winSetOf
  split
  next h => rw [h]; rfl
  next h => rw [h]; rfl
  next h => rw [h]; rfl
  next h1 h2 h3 =>
    have hne : b.toNat ≠ 1 ∧ b.toNat ≠ 2 ∧ b.toNat ≠ 3 := ⟨h1, h2, h3⟩
    exact (if_neg fun h => by omega).symm

theorem entryOf_eq_some {b : Byte} {n : Fin 4} (h : b.toNat = n.val) : entryOf b = some n := by
  simp [entryOf, h]

theorem entryOf_eq_none {b : Byte} (h : 4 ≤ b.toNat) : entryOf b = none := dif_neg (Nat.not_lt.2 h)

theorem yesNoOf_eq (b : Byte) : yesNoOf b = if b.toNat < 2 then some (decide (b.toNat = 1)) else none := by
  unfold yesNoOf
  split <;> simp_all
  omega

/-! ### WATCH (R147) -/

/-- The fields of an enabling WATCH that pass check 2. -/
def watchFields (subject : Byte) (low high : BitVec 32) (combine events windows : Byte) : Prop :=
  subject.toNat < 2 ∧ combine.toNat < 2 ∧ events.toNat ≠ 0 ∧ events.toNat ≤ (if subject.toNat = 0 then 15 else 7) ∧
    windows.toNat ≠ 0 ∧ windows.toNat ≤ 3 ∧ (combine.toNat = 0 → low.toNat ≤ high.toNat)

/-- An event set names at least one event, and none past those of its subject (R147). -/
theorem goodEvents_iff (subject events : Byte) : goodEvents (if subject.toNat = 0 then .tote else .sku) events = true ↔
    events.toNat ≠ 0 ∧ events.toNat ≤ (if subject.toNat = 0 then 15 else 7) := by
  have hne : events = 0#8 ↔ events.toNat = 0 := by simp [BitVec.toNat_eq]
  by_cases hs : subject.toNat = 0 <;> simp [goodEvents, hs, hne]

/-- What an enabling WATCH asks for: the entry of its fields, when they pass check 2. -/
theorem watchAsked_eq (l : NoticeLink) (subject : Byte) (low high : BitVec 32) (combine events windows : Byte) :
    (watchFields subject low high combine events windows →
      watchAsked l subject low high combine events windows = some
        { owner := some l, subject := if subject.toNat = 0 then .tote else .sku, low := low, high := high,
          combine := if combine.toNat = 0 then .both else .either, events := events,
          windows := ⟨windows.getLsbD 0, windows.getLsbD 1⟩ }) ∧
    (¬ watchFields subject low high combine events windows →
      watchAsked l subject low high combine events windows = none) := by
  have hbounds : ((if combine.toNat = 0 then Combine.both else .either) == .either || decide (low.toNat ≤ high.toNat)) = true ↔
      (combine.toNat = 0 → low.toNat ≤ high.toNat) := by
    by_cases hc : combine.toNat = 0 <;> simp [hc]
  have hgood := goodEvents_iff subject events
  simp only [watchAsked, subjectOf_eq, combineOf_eq, winSetOf_eq, watchFields]
  by_cases hs : subject.toNat < 2
  case neg => simp [hs]
  by_cases hc : combine.toNat < 2
  case neg => simp [hs, hc]
  by_cases hw : 1 ≤ windows.toNat ∧ windows.toNat ≤ 3
  case neg =>
    rw [if_pos hs, if_pos hc, if_neg hw]
    exact ⟨fun h => absurd ⟨Nat.pos_of_ne_zero h.2.2.2.2.1, h.2.2.2.2.2.1⟩ hw, fun _ => rfl⟩
  rw [if_pos hs, if_pos hc, if_pos hw]
  simp only [Bool.and_eq_true, hgood, hbounds]
  have hne : windows.toNat ≠ 0 := Nat.ne_of_gt hw.1
  exact ⟨fun ⟨_, _, he, hm, _, _, ho⟩ => if_pos ⟨⟨he, hm⟩, ho⟩,
    fun hnot => if_neg fun ⟨⟨he, hm⟩, ho⟩ => hnot ⟨hs, hc, he, hm, hne, hw.2, ho⟩⟩

theorem WatchEntry.writableBy_iff (e : WatchEntry) (l : NoticeLink) :
    e.writableBy l = true ↔ e.owner = none ∨ e.owner = some l := by
  unfold WatchEntry.writableBy
  cases e.owner <;> simp

/-- Settles O51: the watch unit's checks in order. -/
theorem watch : Obligations.Watch := by
  intro r entry enabled subject low high combine events windows s hlistens
  have hallowed : ReqKind.watch.allowed r.link = true := rfl
  have hserve : ∀ a : Answer, ownWatch r.link entry enabled subject low high combine events windows (s.heard r.link) = a →
      exec (.watch r entry enabled subject low high combine events windows) s = .next (a.outcome s r .watch) :=
    fun a ha => congrArg _ ((serve_outcome hlistens hallowed _).trans (congrArg (Answer.outcome s r .watch) ha))
  refine ⟨fun hlink => hserve (.refused .authority) (by rw [ownWatch, hlink]; rfl), fun l hl => ?_⟩
  have hlink : noticeLink r.link = some l := by
    obtain ⟨rfl, hl⟩ | ⟨rfl, hl⟩ := hl <;> rw [hl] <;> rfl
  have hasked := watchAsked_eq l subject low high combine events windows
  have hentry : ∀ (n : Fin 4) (e : WatchEntry), (if s.watches[n].writableBy l then .portOnly ((s.heard r.link).setWatch n e) .ok []
      else .refused .owned : Answer).outcome s r .watch =
        if s.watches[n].owner = none ∨ s.watches[n].owner = some l then
          ((s.heard r.link).setWatch n e).answerPort r .watch .ok [] else s.refusal r .watch .owned := fun n e => by
    simp only [WatchEntry.writableBy_iff]
    split <;> rfl
  refine ⟨fun hbad => hserve (.refused .range) ?_, fun n hn => ⟨fun hoff => ?_, fun hon h1 h2 h3 h4 h5 h6 h7 => ?_⟩⟩
  · simp only [ownWatch, hlink]
    by_cases hentry : 4 ≤ entry.toNat
    · rw [entryOf_eq_none hentry]
    rw [entryOf_eq_some (n := ⟨entry.toNat, Nat.not_le.1 hentry⟩) rfl, yesNoOf_eq]
    by_cases htwo : 2 ≤ enabled.toNat
    · rw [if_neg (Nat.not_lt.2 htwo)]
    rw [if_pos (Nat.not_le.1 htwo)]
    obtain hbad | hbad | ⟨hone, hfields⟩ := hbad
    · exact absurd hbad hentry
    · exact absurd hbad htwo
    have hnot : ¬ watchFields subject low high combine events windows := fun ⟨hs, hc, he, hm, hw, hw3, ho⟩ => by
      split at hm <;> omega
    rw [hone, decide_eq_true rfl, hasked.2 hnot]
  · rw [← hentry]
    refine hserve _ ?_
    simp only [ownWatch, hlink, entryOf_eq_some hn, yesNoOf_eq, hoff]
    rfl
  · rw [← hentry]
    refine hserve _ ?_
    simp only [ownWatch, hlink, entryOf_eq_some hn, yesNoOf_eq, hon, hasked.1 ⟨h1, h2, h3, h4, h5, h6, h7⟩]
    rfl

/-! ### Offering (R149) -/

/-- Settles O52: the four entries in turn, each matching by the event's kind, value and window. -/
theorem matching : Obligations.Matching := by
  refine ⟨fun s ev => rfl, fun s ev n => ⟨fun hno => ?_, fun hyes howner => ?_, fun hyes howner => ?_⟩, fun e ev => ?_⟩
  · rw [State.offerTo, hno, if_neg Bool.false_ne_true]
  · rw [State.offerTo, if_pos hyes, howner]
    rfl
  · rw [State.offerTo, if_pos hyes, howner]
    rfl
  · have hmember : (e.subject == ev.kind.member.1 && e.events.getLsbD ev.kind.member.2) = true ↔ (match ev.kind with
        | .totePresented => e.subject = .tote ∧ e.events.getLsbD 0 = true
        | .toteReturned => e.subject = .tote ∧ e.events.getLsbD 1 = true
        | .toteUrgent => e.subject = .tote ∧ e.events.getLsbD 2 = true
        | .toteExpired => e.subject = .tote ∧ e.events.getLsbD 3 = true
        | .taskDone => e.subject = .sku ∧ e.events.getLsbD 0 = true
        | .taskShort => e.subject = .sku ∧ e.events.getLsbD 1 = true
        | .taskFailed => e.subject = .sku ∧ e.events.getLsbD 2 = true) := by
      cases ev.kind <;> simp [EventKind.member]
    have hbounds : e.inBounds ev.value = true ↔
        if e.combine = .both then e.low ≤ ev.value ∧ ev.value ≤ e.high else e.low ≤ ev.value ∨ ev.value ≤ e.high := by
      unfold WatchEntry.inBounds
      cases e.combine <;> simp [BitVec.le_def]
    have hhears : e.hears ev.window = true ↔ (match ev.window with
        | some .w0 => e.windows.w0 = true
        | some .w1 => e.windows.w1 = true
        | none => e.windows.w0 = true ∧ e.windows.w1 = true) := by
      rcases ev.window with _ | _ | _ <;> simp [WatchEntry.hears, WinSet.has]
    have howned : e.owner.isSome = true ↔ e.owner ≠ none := Option.isSome_iff_ne_none
    refine Iff.trans ?_ (and_congr howned (and_congr hmember (and_congr hbounds hhears)))
    simp only [WatchEntry.accepts, Bool.and_eq_true, and_assoc]

end Sys2Proof.Machine

/-! PROOFS. Exposure (R20 to R28): the sensor, the band, a charge and the accrual pass, and the statements O19 to O22. -/

namespace Sys2Proof.Machine

/-! ### Ascending ids -/

theorem insertAsc_perm (n : Nat) (ns : List Nat) : (insertAsc n ns).Perm (n :: ns) := by
  induction ns with
  | nil => exact .refl _
  | cons m ms ih =>
    unfold insertAsc
    split
    · exact .refl _
    · exact (ih.cons m).trans (.swap n m ms)

theorem insertAsc_pairwise {n : Nat} {ns : List Nat} (h : ns.Pairwise (· ≤ ·)) : (insertAsc n ns).Pairwise (· ≤ ·) := by
  induction ns with
  | nil => exact List.pairwise_singleton _ n
  | cons m ms ih =>
    obtain ⟨hm, hms⟩ := List.pairwise_cons.1 h
    unfold insertAsc
    split
    next hle => exact List.pairwise_cons.2 ⟨fun k hk => (List.mem_cons.1 hk).elim (fun he => he ▸ hle) fun hk => hle.trans (hm k hk), h⟩
    next hlt =>
      refine List.pairwise_cons.2 ⟨fun k hk => ?_, ih hms⟩
      obtain rfl | hk := List.mem_cons.1 ((insertAsc_perm n ms).mem_iff.1 hk)
      · exact (Nat.not_le.1 hlt).le
      · exact hm k hk

theorem sortAsc_perm (ns : List Nat) : (sortAsc ns).Perm ns := by
  induction ns with
  | nil => exact .refl _
  | cons n ns ih => exact (insertAsc_perm n _).trans (ih.cons n)

theorem sortAsc_pairwise (ns : List Nat) : (sortAsc ns).Pairwise (· ≤ ·) := by
  induction ns with
  | nil => exact .nil
  | cons n ns ih => exact insertAsc_pairwise ih

/-- Identifiers sorted by their numbers are those identifiers, in ascending order. -/
theorem sortedIds {w : Nat} (ids : List (BitVec w)) :
    ((sortAsc (ids.map BitVec.toNat)).map (BitVec.ofNat w)).Perm ids ∧
      ((sortAsc (ids.map BitVec.toNat)).map (BitVec.ofNat w)).Pairwise fun a b => a.toNat ≤ b.toNat := by
  have hperm := (sortAsc_perm (ids.map BitVec.toNat)).map (BitVec.ofNat w)
  have hback : (ids.map BitVec.toNat).map (BitVec.ofNat w) = ids := by
    rw [List.map_map]
    exact List.map_id'' (fun id => BitVec.ofNat_toNat w id |>.trans (BitVec.setWidth_eq id)) ids
  rw [hback] at hperm
  have hbound : ∀ n ∈ sortAsc (ids.map BitVec.toNat), n < 2 ^ w := fun n hn => by
    obtain ⟨id, _, rfl⟩ := List.mem_map.1 ((sortAsc_perm _).mem_iff.1 hn)
    exact id.isLt
  refine ⟨hperm, List.pairwise_map.2 ((sortAsc_pairwise _).imp_of_mem fun ha hb hle => ?_)⟩
  rwa [BitVec.toNat_ofNat, BitVec.toNat_ofNat, Nat.mod_eq_of_lt (hbound _ ha), Nat.mod_eq_of_lt (hbound _ hb)]

/-! ### The accrual interval and its event -/

/-- The sensor's part of an accrual event leaves the totes alone. -/
theorem settleSensor_totes (s : State) (reading : Option (BitVec 16)) : (s.settleSensor reading).totes = s.totes := by
  unfold State.settleSensor
  split <;> dsimp only <;> split <;> rfl

/-- Settles O19. -/
theorem accrualRuns : Obligations.AccrualRuns := by
  refine ⟨fun s left hinterval => ?_, fun reading s hread => ?_⟩
  · simp [exec, execAccrualIntervalExpiry, hinterval, Config.accrualMs]
  · have hevent : exec (.accrualEvent reading) s = .next (s.accrue reading).settle.conclude := by
      simp [exec, execAccrualEvent, hread]
    obtain ⟨hperm, hsorted⟩ := sortedIds (s.totes.map fun t => t.id)
    refine ⟨_, hperm, hsorted, hevent.trans ?_⟩
    have htotes := settleSensor_totes { s with exposure := { s.exposure with readInFlight := false } } reading
    rw [State.accrue, State.accrualPass, htotes, List.map_map]
    rfl

/-! ### The sensor (R21 to R23) -/

theorem State.correct_eq (s : State) (raw : Int) : s.correct raw = max (-640) (min 1360 (raw + s.signedSetting 4)) := by
  unfold State.correct
  split
  · omega
  · split <;> omega

/-- Settles O20: the reading's outcome, and the sensor's state before it. -/
theorem sensorJudged : Obligations.SensorJudged := by
  intro s
  refine ⟨fun w hlo hhi => ?_, fun w hout => ?_, rfl⟩
  · have houtcome : readOutcome (some w) = .inRange w.toInt := if_pos ⟨hlo, hhi⟩
    simp only [State.settleSensor, houtcome, State.correct_eq]
    cases hsensor : s.exposure.sensor with
    | valid => rfl
    | fault c => cases c <;> rfl
  · have houtcome : readOutcome (some w) = .outOfRange w.toInt := if_neg (by omega)
    simp only [State.settleSensor, houtcome]

/-! ### The band (R24) -/

/-- Rising stops at 3 or below the next threshold. -/
theorem State.riseBand_spec (s : State) (t : Int) (n b : Nat) (hb : b ≤ 3) (hn : 3 ≤ n + b) :
    b ≤ s.riseBand t n b ∧ s.riseBand t n b ≤ 3 ∧ (∀ k, b ≤ k → k < s.riseBand t n b → s.threshold k ≤ t) ∧
      (s.riseBand t n b = 3 ∨ t < s.threshold (s.riseBand t n b)) := by
  induction n generalizing b with
  | zero =>
    obtain rfl : b = 3 := by omega
    exact ⟨le_rfl, le_rfl, fun k hk hlt => absurd hk (Nat.not_le.2 hlt), .inl rfl⟩
  | succ n ih =>
    unfold State.riseBand
    split
    next hrise =>
      obtain ⟨hle, hmax, hall, hstop⟩ := ih (b + 1) hrise.1 (by omega)
      refine ⟨by omega, hmax, fun k hk hlt => ?_, hstop⟩
      obtain rfl | hk := Nat.eq_or_lt_of_le hk
      · exact hrise.2
      · exact hall k hk hlt
    next hstay =>
      refine ⟨le_rfl, hb, fun k hk hlt => absurd hk (Nat.not_le.2 hlt), ?_⟩
      by_cases h3 : b = 3
      · exact .inl h3
      · exact .inr (Int.not_le.1 fun h => hstay ⟨by omega, h⟩)

/-- Falling stops at 0 or within the hysteresis of the threshold below. -/
theorem State.fallBand_spec (s : State) (t : Int) (b : Nat) :
    s.fallBand t b ≤ b ∧ (∀ k, s.fallBand t b ≤ k → k < b → t < s.threshold k - (s.setting 3 : Int)) ∧
      (s.fallBand t b = 0 ∨ s.threshold (s.fallBand t b - 1) - (s.setting 3 : Int) ≤ t) := by
  induction b with
  | zero => exact ⟨le_rfl, fun k _ hlt => absurd hlt (Nat.not_lt_zero k), .inl rfl⟩
  | succ b ih =>
    obtain ⟨hle, hall, hstop⟩ := ih
    unfold State.fallBand
    split
    next hfall =>
      refine ⟨by omega, fun k hk hlt => ?_, hstop⟩
      obtain rfl | hlt := Nat.eq_or_lt_of_le (Nat.le_of_lt_succ hlt)
      · exact hfall
      · exact hall k hk hlt
    next hstay =>
      exact ⟨le_rfl, fun k hk hlt => absurd hk (Nat.not_le.2 hlt), .inr (Int.not_lt.1 hstay)⟩

/-- Settles O21: the band rises where it can, and only else falls. -/
theorem bandMoves : Obligations.BandMoves := by
  intro s temp b hb
  obtain ⟨hle, hmax, hall, hstop⟩ := s.riseBand_spec temp 3 b hb (by omega)
  obtain ⟨hfall, hfallAll, hfallStop⟩ := s.fallBand_spec temp b
  have hrise : b < 3 → s.threshold b ≤ temp → b < s.riseBand temp 3 b := fun hlt hthr => by
    refine lt_of_le_of_ne hle fun he => ?_
    rw [← he] at hstop
    omega
  by_cases hb' : b < s.riseBand temp 3 b
  · have hc : s.nextBand temp b = s.riseBand temp 3 b := if_pos hb'
    rw [hc]
    refine ⟨hmax, fun _ _ => ⟨hb', hall, hstop⟩, fun hno => ?_⟩
    have hthr := hall b le_rfl hb'
    omega
  · have hc : s.nextBand temp b = s.fallBand temp b := if_neg hb'
    rw [hc]
    exact ⟨hfall.trans hb, fun hlt hthr => absurd (hrise hlt hthr) hb', fun _ => ⟨hfall, hfallAll, hfallStop⟩⟩

/-! ### A charge (R27, R28) -/

/-- Settles O22: the eighths of a charge, the weights and the rates. -/
theorem chargeIsExact : Obligations.ChargeIsExact := by
  refine ⟨fun t r w hcarry haccount => ?_, fun s t => ?_, fun s => ⟨rfl, rfl⟩, fun s id t w ht hw => ?_, fun s id t ht hw => ?_⟩
  · have hcharge : (t.charge r w).account = min (t.account + (r * w + t.carry) / 8) 16777215 ∧
        (t.charge r w).carry = (r * w + t.carry) % 8 := ⟨rfl, rfl⟩
    obtain ⟨haccount', hcarry'⟩ := hcharge
    rw [haccount', hcarry']
    exact ⟨rfl, rfl, by omega, by omega, by omega, by omega, rfl⟩
  · unfold State.weight
    cases t.cls <;> rfl
  · simp only [State.chargeTote, ht, hw]
  · simp only [State.chargeTote, ht, hw]

end Sys2Proof.Machine

/-! PROOFS. The passing of time on an empty queue (log entries 2 and 13), and the statement O2. -/

namespace Sys2Proof.Machine

/-! ### A millisecond -/

theorem State.countTimers_pos (s : State) (p : Pos) : s.countTimers.pos p = (s.pos p).tick := by
  simp only [State.countTimers, State.pos, Fin.getElem_fin, Vector.getElem_mk, List.getElem_toArray, List.getElem_map,
    Vector.getElem_toList]

theorem Light.tick_eq (l : Light) : l.tick = ⟨l.mode, if l.mode = .flash ∨ l.mode = .fast then (l.phase + 1) % 1000
    else l.phase⟩ := by
  unfold Light.tick
  cases l with
  | mk mode phase => cases mode <;> rfl

/-! ### What is due -/

theorem mem_whenDue {c d : Instr} {t : Option Ms} : c ∈ whenDue t d ↔ c = d ∧ t = some 0 := by
  unfold whenDue timerDue
  by_cases h : t = some 0 <;> simp [h]

/-- The expiry of a block timer waits until nothing is lit. -/
theorem Window.blockEnd_eq_some (x : Window) : x.blockEnd = some 0 ↔ x.blockTimer = some 0 ∧ x.lit = none := by
  unfold Window.blockEnd
  cases x.lit <;> simp

theorem Window.mem_due (x : Window) (w : Win) (c : Instr) : c ∈ x.due w ↔
    (c = .fetchTimeout w ∧ (x.fetch.bind fun f => f.fetchTimer) = some 0) ∨
      (c = .settleExpiry w ∧ (x.fetch.bind fun f => f.settleTimer) = some 0) ∨
      (c = .windowReturnTimeout w ∧ (x.ret.map fun r => r.timer) = some 0) ∨
      (c = .blockTimerExpiry w ∧ x.blockTimer = some 0 ∧ x.lit = none) ∨
      (c = .confirmPeriodExpiry w ∧ x.confirmTimer = some 0) ∨ (c = .guardExpiry w ∧ x.guardTimer = some 0) := by
  simp only [Window.due, List.mem_append, mem_whenDue, Window.blockEnd_eq_some, or_assoc]

theorem State.resetDue_eq (s : State) : s.resetDue = if s.rstLine = .low 0 then [.resetQualified s.freeCut] else [] := by
  unfold State.resetDue
  split
  next h => rw [if_pos h]
  next h => rw [if_neg h]

theorem State.mem_due (s : State) (c : Instr) : c ∈ s.due ↔
    c ∈ s.resetDue ∨ (c = .accrualIntervalExpiry ∧ s.exposure.interval = some 0) ∨
    (∃ t ∈ s.totes, (c = .orphanExpiry t.id ∧ t.orphanTimer = some 0) ∨
      (c = .laneReturnTimeout t.id ∧ t.laneReturnTimer = some 0)) ∨
    (∃ t ∈ s.tasks, c = .awaitExpiry t.id ∧ t.awaitTimer = some 0) ∨ (∃ w : Win, c ∈ (s.win w).due w) ∨
    (∃ p : Pos, c = .swapTimeout p ∧ (s.pos p).swapTimer = some 0) := by
  have hwin : (∃ w : Win, c ∈ (s.win w).due w) ↔ c ∈ s.windows.w0.due .w0 ∨ c ∈ s.windows.w1.due .w1 :=
    ⟨fun ⟨w, hw⟩ => by cases w; exacts [.inl hw, .inr hw], fun h => h.elim (fun h => ⟨.w0, h⟩) fun h => ⟨.w1, h⟩⟩
  simp only [State.due, List.mem_append, List.mem_flatMap, mem_whenDue, hwin, or_assoc, mem_allPos, true_and]

/-- Of the expiries that are due, one enters the queue. -/
theorem State.queueDue_eq (s : State) {cs : List Instr} (h : cs ≠ []) :
    ∃ c ∈ cs, s.queueDue cs = { s with pending := [c], free := s.free + 1 } := by
  have hpos : 0 < cs.length := List.length_pos_iff.2 h
  have hlt := Nat.mod_lt (Config.duePick s.free) hpos
  refine ⟨cs[Config.duePick s.free % cs.length], List.getElem_mem hlt, ?_⟩
  unfold State.queueDue
  rw [List.drop_eq_getElem_cons hlt]
  rfl

/-- While something is due no time passes. -/
theorem State.tick_of_due {s : State} (hrun : s.phase = .running) (hdue : s.due ≠ []) :
    ∃ c ∈ s.due, s.tick = { s with pending := [c], free := s.free + 1 } := by
  unfold State.tick
  split
  case h_4 =>
    split
    next hnone => exact absurd hnone hdue
    next c hone => exact ⟨c, by rw [hone]; exact List.mem_singleton_self c, rfl⟩
    next => exact s.queueDue_eq hdue
  all_goals
    rename_i hother
    cases hrun.symm.trans hother

/-! ### The statement -/

/-- Settles O2. -/
theorem emptyQueueCountsTime : Obligations.EmptyQueueCountsTime := by
  refine ⟨fun s hempty => ?_, fun s => ?_, ⟨rfl, fun _ => rfl⟩, State.resetDue_eq, fun s c => ?_⟩
  · have hstep : step s = .next s.tick := by simp only [step, hempty]
    rw [hstep]
    refine ⟨fun hrun hdue => ?_, fun hrun hdue => ?_, fun hload hdue => ?_, fun hload hdue => ?_, fun hoff => ?_⟩
    · simp only [State.tick, hrun, hdue]
    · obtain ⟨c, hc, htick⟩ := s.tick_of_due hrun hdue
      exact ⟨c, hc, congrArg _ htick⟩
    · simp only [State.tick, hload, hdue]
    · have hreset : s.resetDue = [.resetQualified s.freeCut] := by
        rw [s.resetDue_eq] at hdue ⊢
        exact if_pos (by_contra fun hno => hdue (if_neg hno))
      obtain ⟨c, hc, hqueue⟩ := s.queueDue_eq hdue
      have htick : s.tick = s.queueDue s.resetDue := by simp only [State.tick, hload, hreset]
      rw [hreset, List.mem_singleton] at hc
      rw [htick, hqueue, hc, hreset]
    · obtain h | h := hoff <;> simp only [State.tick, h]
  · refine ⟨rfl, rfl, rfl, rfl, fun p => ?_, fun w => ?_, rfl⟩
    · rw [s.countTimers_pos, Position.tick, Light.tick_eq]
      rfl
    · rw [s.countTimers_win]
      rfl
  · rw [State.mem_due]
    simp only [Window.mem_due]

end Sys2Proof.Machine

/-! PROOFS. Frames as they go on the line and are read back (R164, R173, section 11.7), and the statement O10. -/

namespace Sys2Proof.Machine

/-! ### Numbers (R173) -/

theorem of2_bytes (x : BitVec 16) : of2 (x.extractLsb' 8 8) (x.extractLsb' 0 8) = x := by
  rw [of2, BitVec.extractLsb'_append_extractLsb'_eq_extractLsb' (by rfl)]
  exact BitVec.extractLsb'_eq_self

theorem of3_bytes (x : BitVec 24) : of3 (x.extractLsb' 16 8) (x.extractLsb' 8 8) (x.extractLsb' 0 8) = x := by
  rw [of3, BitVec.extractLsb'_append_extractLsb'_eq_extractLsb' (by rfl),
    BitVec.extractLsb'_append_extractLsb'_eq_extractLsb' (by rfl)]
  exact BitVec.extractLsb'_eq_self

theorem of4_bytes (x : BitVec 32) :
    of4 (x.extractLsb' 24 8) (x.extractLsb' 16 8) (x.extractLsb' 8 8) (x.extractLsb' 0 8) = x := by
  rw [of4, BitVec.extractLsb'_append_extractLsb'_eq_extractLsb' (by rfl),
    BitVec.extractLsb'_append_extractLsb'_eq_extractLsb' (by rfl),
    BitVec.extractLsb'_append_extractLsb'_eq_extractLsb' (by rfl)]
  exact BitVec.extractLsb'_eq_self

/-! ### Escaping (R164) -/

/-- A byte that is not escaped is read as it is. -/
theorem unescape_plain {b : Byte} (h : ¬ (b = 0x7E ∨ b = 0x7D)) (bs : List Byte) : unescape (b :: bs) = b :: unescape bs := by
  obtain ⟨hstart, hescape⟩ := not_or.1 h
  cases bs with
  | nil => simp only [unescape, if_neg h]
  | cons c bs => simp only [unescape, if_neg hstart, if_neg hescape]

/-- An escaped byte is read as the one it stands for. -/
theorem unescape_escaped {b : Byte} (h : b = 0x7E ∨ b = 0x7D) (bs : List Byte) :
    unescape (0x7D :: (b ^^^ 0x20) :: bs) = b :: unescape bs := by
  obtain rfl | rfl := h <;> rfl

/-- What escaping puts on the line holds no start byte, and undoing it gives the bytes back. -/
theorem unescape_escape (bs : List Byte) : unescape (escape bs) = bs ∧ (0x7E : Byte) ∉ escape bs := by
  induction bs with
  | nil => exact ⟨rfl, nofun⟩
  | cons b bs ih =>
    obtain ⟨hback, hnone⟩ := ih
    have hcons : escape (b :: bs) = escapeByte b ++ escape bs := rfl
    by_cases h : b = 0x7E ∨ b = 0x7D
    · have hb : escapeByte b = [0x7D, b ^^^ 0x20] := if_pos h
      rw [hcons, hb]
      refine ⟨(unescape_escaped h _).trans (congrArg _ hback), fun hmem => ?_⟩
      obtain hmem | hmem := List.mem_append.1 hmem
      · obtain rfl | rfl := h <;> exact absurd hmem (by decide)
      · exact hnone hmem
    · have hb : escapeByte b = [b] := if_neg h
      rw [hcons, hb]
      refine ⟨(unescape_plain h _).trans (congrArg _ hback), fun hmem => ?_⟩
      obtain rfl | hmem := List.mem_cons.1 hmem
      · exact h (.inl rfl)
      · exact hnone hmem

/-! ### Requests (section 11.7) -/

theorem kindOf_code (k : ReqKind) : kindOf k.code = some k := by cases k <;> rfl

/-- A request's body has at most 48 bytes, and the request is that of its kind and body. -/
theorem requestOf_request {c : Instr} {r : Req} {k : ReqKind} {body : List Byte} (h : c.request = some (r, k, body)) :
    body.length ≤ 48 ∧ requestOf k r body = some c := by
  have hshort : ∀ {bs : List Byte} {d : Option Instr}, bs.length ≤ 48 → d = some c → bs.length ≤ 48 ∧ d = some c :=
    fun hlen hd => ⟨hlen, hd⟩
  cases c
  case close | mode | clear | store | lock | swapped | hold | resume | list | cursor =>
    cases h
    exact hshort (by simp) rfl
  case post | withdraw | rush | bind | setItem | toteIn | toteOut | atWin | gone | picked | short | toteBad | read | watch =>
    cases h
    refine hshort (by simp [bytes2, bytes3, bytes4]) ?_
    change some _ = some _
    simp only [of2_bytes, of3_bytes, of4_bytes]
  all_goals cases h

/-- A frame's bytes, its CRC behind its body, are read as the request of its kind, tag and body. -/
theorem frameCommand_content (l : Link) (kind : Byte) (tag : Tag) {body : List Byte} (hlen : body.length ≤ 48) :
    frameCommand l (([kind] ++ bytes3 tag ++ num1 body.length ++ body) ++
      bytes2 (crc16 ([kind] ++ bytes3 tag ++ num1 body.length ++ body))) = some (goodFrame ⟨l, tag⟩ kind body) := by
  have hnum : (BitVec.ofNat 8 body.length).toNat = body.length := by
    rw [BitVec.toNat_ofNat]
    exact Nat.mod_eq_of_lt (by omega)
  have hmax : ¬ Config.bodyMax < (BitVec.ofNat 8 body.length).toNat := by
    rw [hnum]
    exact Nat.not_lt.2 hlen
  generalize hcrc : crc16 ([kind] ++ bytes3 tag ++ num1 body.length ++ body) = crc
  simp only [bytes3, num1, bytes2, List.cons_append, List.nil_append] at hcrc ⊢
  rw [frameCommand, if_neg hmax, hnum, List.drop_left, List.take_left]
  dsimp only
  rw [hcrc, of2_bytes, of3_bytes, if_neg (not_not.2 rfl)]

/-- Settles O10: escaping, CRC, numbers and bodies are each undone in turn. -/
theorem requestFramesReadBack : Obligations.RequestFramesReadBack := by
  intro c l line hframe
  obtain ⟨⟨r, k, body⟩, hreq, hline⟩ := Option.map_eq_some_iff.1 hframe
  obtain ⟨rfl, rfl⟩ := Prod.mk.inj hline
  obtain ⟨hlen, hback⟩ := requestOf_request hreq
  obtain ⟨hunescape, hnone⟩ := unescape_escape (([k.code] ++ bytes3 r.tag ++ num1 body.length ++ body) ++
    bytes2 (crc16 ([k.code] ++ bytes3 r.tag ++ num1 body.length ++ body)))
  refine ⟨_, rfl, hnone, (congrArg (frameCommand r.link) hunescape).trans ?_⟩
  rw [frameCommand_content r.link k.code r.tag hlen, goodFrame, kindOf_code]
  simp only [Option.bind_some, hback]

end Sys2Proof.Machine

/-! PROOFS. Every request is answered (R165 to R167), and the statement O9. -/

namespace Sys2Proof.Machine

/-! ### Where a reply goes -/

/-- A STORE reply that moves leaves every port but the order link's as it is, and that one where none waits (R159). -/
theorem State.fillSlot_port {s : State} {l : Link} (h : l = .order → s.settings.waitingReply = none) :
    s.fillSlot.port l = s.port l := by
  by_cases hl : l = .order
  · rw [State.fillSlot_of_filled (by simp [State.filled, h hl])]
  · exact (s.fillSlot_frame l).2.2 hl

/-- With no STORE reply waiting none comes to wait. -/
theorem State.fillSlot_waiting {s : State} (h : s.settings.waitingReply = none) : s.fillSlot.settings.waitingReply = none := by
  rw [State.fillSlot_of_filled (by simp [State.filled, h])]
  exact h

/-- A transmitter leaves the ports of the other links as they are, the order link's where no STORE reply waits. -/
theorem State.pump_port_ne {s : State} {l m : Link} (hne : l ≠ m) (h : l = .order → s.settings.waitingReply = none) :
    (s.pump m).port l = s.port l := by
  have hfill := State.fillSlot_port h
  obtain ⟨_, hp⟩ | ⟨r, _, _, hp⟩ | ⟨f, t, _, _, htake, hp⟩ | ⟨_, _, _, hp⟩ := s.pump_cases m <;> rw [hp]
  · exact hfill
  · exact (State.fillSlot_port (by exact fun hl => State.fillSlot_waiting (h hl))).trans
      ((State.port_updPort_ne _ hne _).trans hfill)
  · rw [State.port_updPort_ne _ hne, State.port, (State.takeQueued_frame htake).2.1]
    exact hfill
  · exact hfill

/-- A transmitter leaves no STORE reply waiting where none waited. -/
theorem State.pump_waiting {s : State} (m : Link) (h : s.settings.waitingReply = none) :
    (s.pump m).settings.waitingReply = none := by
  have hfill := State.fillSlot_waiting h
  obtain ⟨_, hp⟩ | ⟨r, _, _, hp⟩ | ⟨f, t, _, _, htake, hp⟩ | ⟨_, _, _, hp⟩ := s.pump_cases m <;> rw [hp]
  · exact hfill
  · exact State.fillSlot_waiting hfill
  · exact (congrArg SettingsStore.waitingReply (State.takeQueued_frame htake).2.2.1).trans hfill
  · exact hfill

/-- The port of a link after its reply: on the line from an idle transmitter, else in the slot (R166, R167). -/
def Port.replied (r : Reply) (p : Port) : Port :=
  if p.transmitter.isSome then { p with replySlot := some r } else { p with transmitter := some (.reply r), replySlot := none }

theorem State.pump_port_replied {s : State} {l : Link} {r : Reply} (h : l = .order → s.settings.waitingReply = none)
    (hslot : (s.port l).replySlot = some r) : (s.pump l).port l = (s.port l).replied r := by
  have hfill := State.fillSlot_port h
  obtain ⟨htx, hp⟩ | ⟨q, htx, hq, hp⟩ | ⟨f, t, _, hq, _, _⟩ | ⟨_, hq, _, _⟩ := s.pump_cases l
  · rw [hp, hfill, Port.replied, if_pos (by rwa [hfill] at htx), ← hslot]
  · rw [hfill] at htx hq
    obtain rfl := Option.some.inj (hslot.symm.trans hq)
    rw [hp]
    refine (State.fillSlot_port (by exact fun hl => State.fillSlot_waiting (h hl))).trans ?_
    rw [State.port_updPort, hfill, Port.replied, htx]
    rfl
  · rw [hfill, hslot] at hq; cases hq
  · rw [hfill, hslot] at hq; cases hq

/-- The other transmitters leave a reply where its own puts it (R166, R167). -/
theorem State.pumpAll_port_replied {s : State} {l : Link} {r : Reply} (h : l = .order → s.settings.waitingReply = none)
    (hslot : (s.port l).replySlot = some r) : s.pumpAll.port l = (s.port l).replied r := by
  unfold State.pumpAll
  cases l with
  | order =>
    have hw := h rfl
    rw [State.pump_port_ne (by decide) fun _ => State.pump_waiting _ (State.pump_waiting _ hw),
      State.pump_port_ne (by decide) fun _ => State.pump_waiting _ hw]
    exact State.pump_port_replied h hslot
  | transport =>
    have hport : (s.pump .order).port .transport = s.port .transport := State.pump_port_ne (by decide) (by simp)
    rw [State.pump_port_ne (l := .transport) (by decide) (by simp), ← hport]
    exact State.pump_port_replied (by simp) (hport ▸ hslot)
  | bench =>
    have hport : ((s.pump .order).pump .transport).port .bench = s.port .bench :=
      (State.pump_port_ne (by decide) (by simp)).trans (State.pump_port_ne (by decide) (by simp))
    rw [← hport]
    exact State.pump_port_replied (by simp) (hport ▸ hslot)

/-- The lights are no business of the ports (R115). -/
theorem driveLights_ports (s : State) : (∀ l, s.driveLights.port l = s.port l) ∧ s.driveLights.settings = s.settings := by
  have hone : ∀ (p : Pos) (x : State), (x.driveLight p).ports = x.ports ∧ (x.driveLight p).settings = x.settings := by
    intro p x
    unfold State.driveLight
    split <;> exact ⟨rfl, rfl⟩
  simp [State.driveLights, allPos, hone, State.port]

/-- What is sent of a reply depends on the transmitter that the reply finds. -/
theorem placed_of_replied {l : Link} {r : Reply} {s t : State} {p : Port} (hp : p.transmitter = (s.port l).transmitter)
    (ht : t.port l = p.replied r) : placed l r s t := by
  obtain ⟨speed, receiver, slot, tx, cursor⟩ := p
  unfold placed
  rw [ht, ← hp]
  cases tx with
  | none => exact ⟨rfl, rfl⟩
  | some f => exact ⟨rfl, rfl⟩

/-- No STORE reply waits for the slot of a link that takes requests (R165, check 1). -/
theorem State.waiting_of_free {s : State} {l : Link} (h : s.slotBusy l = false) :
    l = .order → s.settings.waitingReply = none := by
  rintro rfl
  simp only [State.slotBusy, Bool.or_eq_false_iff] at h
  simpa using h.2

/-- The reply in its slot (R166). -/
theorem State.reply_port {s : State} {l : Link} {r : Reply} (h : r.tag ≠ Config.noReply) :
    (s.reply l r).port l = { s.port l with replySlot := some r } := by
  rw [State.reply, if_neg h]
  exact State.port_updPort ..

theorem State.reply_settings (s : State) (l : Link) (r : Reply) : (s.reply l r).settings = s.settings := by
  unfold State.reply
  split <;> rfl

/-- A reply is placed by its link's transmitter (R166, R167). -/
theorem State.pump_placed {s u : State} {l : Link} {r : Reply} (htag : r.tag ≠ Config.noReply)
    (hw : l = .order → u.settings.waitingReply = none) (htx : (u.port l).transmitter = (s.port l).transmitter) :
    placed l r s ((u.reply l r).pump l) := by
  have hslot := u.reply_port (l := l) htag
  refine placed_of_replied (p := (u.reply l r).port l) ?_
    (State.pump_port_replied (fun hl => by rw [State.reply_settings]; exact hw hl) (by rw [hslot]))
  rw [hslot]
  exact htx

/-- A reply is placed by the end of its event (R166, R167). -/
theorem State.conclude_placed {s u : State} {l : Link} {r : Reply} (htag : r.tag ≠ Config.noReply)
    (hw : l = .order → u.settings.waitingReply = none) (htx : (u.port l).transmitter = (s.port l).transmitter) :
    placed l r s (u.reply l r).conclude := by
  have hslot := u.reply_port (l := l) htag
  have hdriven := driveLights_ports (u.reply l r)
  refine placed_of_replied (p := (u.reply l r).port l) (by rw [hslot]; exact htx) ?_
  rw [← hdriven.1 l] at hslot ⊢
  refine State.pumpAll_port_replied (fun hl => ?_) (by rw [hslot])
  rw [hdriven.2, State.reply_settings]
  exact hw hl

/-! ### What owners answer -/

/-- What a base says of the frames that go out: transmitters and reply slots, and the STORE reply that waits. -/
def Base.sends (b : Base) : (Link → Option OutFrame × Option Reply) × Option Reply :=
  (fun l => ((b.ports.get l).transmitter, (b.ports.get l).replySlot), b.settings.waitingReply)

/-- An owner answers fairly: a refusal has a reason of its own, a request that is taken is OK or CLAMPED and sends
nothing before its reply, and only a STORE, with none in flight, is answered later (R158, R165, R166). -/
def Answer.fair (k : ReqKind) (s : State) : Answer → Prop
  | .refused c => c ≠ .ok ∧ c ≠ .clamped
  | .portOnly t c _ => (c = .ok ∨ c = .clamped) ∧ t.base.sends = s.base.sends
  | .taken t c => (c = .ok ∨ c = .clamped) ∧ t.base.sends = s.base.sends
  | .deferred t => k = .store ∧ s.settings.job = none ∧ t.settings.job.isSome = true

/-- A change of a port beside its slot and transmitter sends nothing. -/
theorem sends_updPort (s : State) (l : Link) (f : Port → Port)
    (hf : (f (s.port l)).transmitter = (s.port l).transmitter ∧ (f (s.port l)).replySlot = (s.port l).replySlot) :
    (s.updPort l f).base.sends = s.base.sends := by
  refine Prod.ext (funext fun m => ?_) rfl
  change (((s.updPort l f).port m).transmitter, ((s.updPort l f).port m).replySlot) =
    ((s.port m).transmitter, (s.port m).replySlot)
  by_cases h : m = l
  · subst h
    rw [s.port_updPort, hf.1, hf.2]
  · rw [s.port_updPort_ne h]

/-- What a link hears sends nothing (R164). -/
@[simp] theorem sends_heard (s : State) (l : Link) : (s.heard l).base.sends = s.base.sends := sends_updPort s l _ ⟨rfl, rfl⟩

/-- Moving a cursor sends nothing (R172). -/
@[simp] theorem sends_setCursor (s : State) (l : Link) (c : Cursor) : (s.setCursor l c).base.sends = s.base.sends :=
  sends_updPort s l _ ⟨rfl, rfl⟩

/-- A change of mode sends nothing (R136). -/
@[simp] theorem sends_setMode (s : State) (m : Mode) : (s.setMode m).base.sends = s.base.sends := by
  unfold State.setMode
  split
  · rfl
  split
  · rw [settle_base]; rfl
  · rfl

/-- Before the windows act, CLEAR changes of the ports the cursors alone (R142). -/
@[simp] theorem sends_clearBench (s : State) : s.clearBench.base.sends = s.base.sends := by
  have hholds : s.clearTasks.clearModeHolds.base = { s.base with mode := .drain } :=
    (sendBoth_base _).trans (changeHolds_base _ _ _)
  have hports : s.clearTasks.clearModeHolds.ports = s.ports := congrArg Base.ports hholds
  have hset : s.clearTasks.clearModeHolds.settings = s.settings := congrArg Base.settings hholds
  rw [State.clearBench, clearStep7_base]
  refine Prod.ext (funext fun m => ?_) (congrArg SettingsStore.waitingReply hset)
  change _ = ((s.ports.get m).transmitter, (s.ports.get m).replySlot)
  rw [← hports]
  cases m <;> rfl

/-- Writing an item or a watch entry, or beginning a store, sends nothing (R147, R154, R158). -/
@[simp] theorem sends_writeItem (s : State) (n : Fin 29) (v : Int) : (s.writeItem n v).base.sends = s.base.sends := rfl

@[simp] theorem sends_setWatch (s : State) (n : Fin 4) (e : WatchEntry) : (s.setWatch n e).base.sends = s.base.sends := rfl

theorem pickedReason_cases (t : Task) (count : Nat) : pickedReason t count = .ok ∨ pickedReason t count = .clamped := by
  unfold pickedReason
  split <;> simp

/-- Why a READ is refused (R171). -/
theorem readItem_error {s : State} {item : Byte} {index : BitVec 32} {c : Reason} (h : s.readItem item index = .error c) :
    c = .range ∨ c = .unknown := by
  unfold State.readItem at h
  repeat' split at h
  all_goals first | exact .inl (Except.error.inj h).symm | exact .inr (Except.error.inj h).symm | cases h

/-- Every owner answers fairly. -/
theorem requestOwner_fair {c : Instr} {r : Req} {k : ReqKind} {body : List Byte} (h : c.request = some (r, k, body))
    (s : State) : (requestOwner c s).fair k s := by
  cases c <;> cases h
  case post => dsimp only [requestOwner, ownPost]; repeat' split
               all_goals simp [Answer.fair]
  case withdraw => dsimp only [requestOwner, ownWithdraw]; split <;> simp [Answer.fair]
  case rush => dsimp only [requestOwner, ownRush]; repeat' split
               all_goals simp [Answer.fair]
  case bind => dsimp only [requestOwner, ownBind]; repeat' split
               all_goals simp [Answer.fair]
  case close => dsimp only [requestOwner, ownClose]; repeat' split
                all_goals simp [Answer.fair]
  case mode => dsimp only [requestOwner, ownMode]; repeat' split
               all_goals simp [Answer.fair]
  case clear => dsimp only [requestOwner, ownClear]; split <;> simp [Answer.fair]
  case setItem => dsimp only [requestOwner, ownSetItem]; repeat' split
                  all_goals simp [Answer.fair]
  case store => dsimp only [requestOwner, ownStore]; repeat' split
                all_goals simp_all [Answer.fair, State.beginStore, State.updSettings]
  case lock => dsimp only [requestOwner, ownLock]; repeat' split
               all_goals simp [Answer.fair]
  case toteIn => dsimp only [requestOwner, ownToteIn]; repeat' split
                 all_goals simp [Answer.fair]
  case toteOut => dsimp only [requestOwner, ownToteOut]; repeat' split
                  all_goals simp [Answer.fair]
  case atWin => dsimp only [requestOwner, ownAtWin]; repeat' split
                all_goals simp [Answer.fair]
  case gone => dsimp only [requestOwner, ownGone]; repeat' split
               all_goals simp [Answer.fair]
  case swapped => dsimp only [requestOwner, ownSwapped]; repeat' split
                  all_goals simp [Answer.fair]
  case picked => dsimp only [requestOwner, ownPicked]; repeat' split
                 all_goals simp [Answer.fair, pickedReason_cases]
  case short => dsimp only [requestOwner, ownShort]; repeat' split
                all_goals simp [Answer.fair]
  case toteBad => dsimp only [requestOwner, ownToteBad]; repeat' split
                  all_goals simp [Answer.fair]
  case hold => dsimp only [requestOwner, ownHold]; split <;> simp [Answer.fair]
  case resume => dsimp only [requestOwner, ownResume]; repeat' split
                 all_goals simp [Answer.fair]
  case read item index =>
    dsimp only [requestOwner, ownRead]
    split
    next => simp [Answer.fair]
    next c hc => obtain rfl | rfl := readItem_error hc <;> simp [Answer.fair]
  case list => dsimp only [requestOwner, ownList]; simp [Answer.fair]
  case cursor => dsimp only [requestOwner, ownCursor]; repeat' split
                 all_goals simp [Answer.fair]
  case watch => dsimp only [requestOwner, ownWatch]; repeat' split
                all_goals simp [Answer.fair]

/-! ### The fates of a request -/

/-- A transmitter with nothing to take leaves the part as it is (R167). -/
theorem State.pump_of_linksWf {s : State} (l : Link) (h : s.linksWf = true) : s.pump l = s := by
  obtain ⟨_, hrest, hfilled⟩ := s.linksWf_iff.1 h
  have hu : s.fillSlot = s := State.fillSlot_of_filled hfilled
  have hl := hrest l
  simp only [State.restsEmpty, Bool.or_eq_true, Bool.and_eq_true, Option.isNone_iff_eq_none, List.isEmpty_iff] at hl
  obtain ⟨_, hp⟩ | ⟨r, htx, hslot, _⟩ | ⟨f, t, htx, _, htake, _⟩ | ⟨_, _, _, hp⟩ := s.pump_cases l
  · rw [hp, hu]
  · simp [hu ▸ htx, hu ▸ hslot] at hl
  · simp only [hu] at htx htake
    simp [(s.takeQueued_eq_none_iff l).2 (hl.resolve_left (by simp [htx])).2] at htake
  · rw [hp, hu]

/-- What an answer leaves of the ports when nothing was sent before it. -/
theorem sends_port {s t : State} (h : t.base.sends = s.base.sends) (l : Link) :
    (t.port l).transmitter = (s.port l).transmitter ∧ t.settings.waitingReply = s.settings.waitingReply :=
  ⟨congrArg (fun b : (Link → Option OutFrame × Option Reply) × Option Reply => (b.1 l).1) h, congrArg Prod.snd h⟩

/-- A port whose link no STORE reply waits for may change freely (R159). -/
theorem State.updPort_filled {s : State} {l : Link} (f : Port → Port) (hs : s.filled = true)
    (hw : l = .order → s.settings.waitingReply = none) : (s.updPort l f).filled = true := by
  by_cases hl : l = .order
  · have hnone : (s.updPort l f).settings.waitingReply = none := hw hl
    exact Bool.or_eq_true_iff.2 (.inl (Option.isNone_iff_eq_none.2 hnone))
  · have hport := s.port_updPort_ne (Ne.symm hl) f
    simpa [State.filled, hport] using hs

/-- A change of one port. -/
theorem sameButPort_updPort {s t : State} {l : Link} (f : Port → Port) (h : sameButPort l s t) :
    sameButPort l s (t.updPort l f) := by
  unfold sameButPort at h ⊢
  rw [← h]
  cases l <;> rfl

theorem sameButPort_refl (s : State) (l : Link) : sameButPort l s s := by cases l <;> rfl

theorem sameButPort_of_heard {s t : State} {l : Link} (h : sameButPort l (s.heard l) t) : sameButPort l s t := by
  have hback : { s.heard l with ports := (s.heard l).ports.set l (s.port l) } = s := by cases l <;> rfl
  unfold sameButPort at h ⊢
  rw [← h] at hback
  rw [← hback]
  cases l <;> rfl

/-- The transmitter of a link whose slot has a reply changes that link's port alone (R167). -/
theorem State.pump_of_slot {s : State} {l : Link} {r : Reply} (hs : s.filled = true)
    (hw : l = .order → s.settings.waitingReply = none) (hslot : (s.port l).replySlot = some r) :
    ∃ f : Port → Port, s.pump l = s.updPort l f := by
  have hu : s.fillSlot = s := State.fillSlot_of_filled hs
  obtain ⟨_, hp⟩ | ⟨q, _, _, hp⟩ | ⟨f, t, _, hq, _, _⟩ | ⟨_, hq, _, _⟩ := s.pump_cases l
  · exact ⟨id, by rw [hp, hu]; cases l <;> rfl⟩
  · exact ⟨_, by rw [hp, hu]; exact State.fillSlot_of_filled (State.updPort_filled _ hs hw)⟩
  · rw [hu, hslot] at hq; cases hq
  · rw [hu, hslot] at hq; cases hq

/-- A refusal changes nothing but its link's port (R166). -/
theorem refuse_sameButPort {s : State} {r : Req} (k : Byte) (c : Reason) (hs : s.linksWf = true)
    (hfree : s.slotBusy r.link = false) : sameButPort r.link s (s.refuse r k c) := by
  have hfilled := (s.linksWf_iff.1 hs).2.2
  have hw := State.waiting_of_free hfree
  unfold State.refuse State.reply
  split
  · rw [State.pump_of_linksWf _ hs]
    exact sameButPort_refl s _
  · obtain ⟨f, hf⟩ := State.pump_of_slot (s := s.updPort r.link fun p => { p with replySlot := some (mkReply r k false c []) })
      (State.updPort_filled _ hfilled hw) hw (congrArg Port.replySlot (s.port_updPort r.link _))
    rw [hf]
    exact sameButPort_updPort _ (sameButPort_updPort _ (sameButPort_refl s _))

/-- Request `r` of kind `k` is answered between `s` and `t` (R158, R165, R166). -/
def answered (k : ReqKind) (r : Req) (s t : State) : Prop :=
  (k = .store ∧ s.settings.job = none ∧ t.settings.job.isSome = true) ∨
    ∃ q : Reply, q.tag = r.tag ∧ q.kind = k.code ∧ (q.tag ≠ Config.noReply → placed r.link q s t) ∧
      (q.taken = true ↔ q.reason = .ok ∨ q.reason = .clamped) ∧ (q.taken = false → sameButPort r.link s t)

section
variable {s : State} {r : Req} {k : ReqKind} (hs : s.linksWf = true) (hlistens : s.listens r.link = true)
include hs hlistens

theorem refusal_answered {c : Reason} (hc : c ≠ .ok ∧ c ≠ .clamped) : answered k r s (s.refusal r k c) := by
  obtain ⟨_, hfree⟩ := listens_iff.1 hlistens
  have hw := State.waiting_of_free hfree
  have hheard := sends_port (sends_heard s r.link) r.link
  exact .inr ⟨mkReply r k.code false c [], rfl, rfl,
    fun htag => State.pump_placed htag hw hheard.1, by simp [mkReply, hc],
    fun _ => sameButPort_of_heard (refuse_sameButPort _ _ (State.heard_linksWf _ hs) (by rwa [State.heard_slotBusy]))⟩

/-- A request that a link takes is answered (R166). -/
theorem serve_answered {owner : State → Answer} (hfair : (owner (s.heard r.link)).fair k (s.heard r.link)) :
    answered k r s (s.serve k r owner) := by
  obtain ⟨_, hfree⟩ := listens_iff.1 hlistens
  have hw := State.waiting_of_free hfree
  have hheard := sends_port (sends_heard s r.link) r.link
  cases hallowed : k.allowed r.link with
  | false =>
    rw [serve_authority hlistens hallowed]
    exact refusal_answered hs hlistens (by simp)
  | true =>
    generalize ha : owner (s.heard r.link) = a at hfair
    cases a with
    | refused c =>
      rw [serve_refused hlistens hallowed ha]
      exact refusal_answered hs hlistens hfair
    | portOnly t c result =>
      obtain ⟨hc, hsends⟩ := hfair
      obtain ⟨htx, hwait⟩ := sends_port hsends r.link
      rw [serve_portOnly hlistens hallowed ha]
      exact .inr ⟨mkReply r k.code true c result, rfl, rfl,
        fun htag => State.pump_placed htag (fun hl => hwait.trans (hw hl)) (htx.trans hheard.1), by simp [mkReply, hc], nofun⟩
    | taken t c =>
      obtain ⟨hc, hsends⟩ := hfair
      obtain ⟨htx, hwait⟩ := sends_port hsends r.link
      rw [serve_taken hlistens hallowed ha]
      exact .inr ⟨mkReply r k.code true c [], rfl, rfl,
        fun htag => State.conclude_placed htag (fun hl => hwait.trans (hw hl)) (htx.trans hheard.1), by simp [mkReply, hc],
        nofun⟩
    | deferred t =>
      rw [serve_deferred hlistens hallowed ha]
      exact .inl hfair

end

/-- A refused frame leaves its receiver HUNTING (R164). -/
theorem refusal_receiver {s : State} {r : Req} {k : ReqKind} (c : Reason) (hfree : s.slotBusy r.link = false)
    (htag : r.tag ≠ Config.noReply) : ((s.refusal r k c).port r.link).receiver = .hunting := by
  have hw := State.waiting_of_free hfree
  have hslot := (s.heard r.link).reply_port (l := r.link) (r := mkReply r k.code false c []) htag
  have hport : (s.refusal r k c).port r.link = _ := State.pump_port_replied (fun hl => by
    rw [State.reply_settings]; exact hw hl) (congrArg Port.replySlot hslot)
  have hheard : ((s.heard r.link).port r.link).receiver = .hunting := congrArg Port.receiver (s.port_updPort r.link _)
  rw [hport, hslot, Port.replied]
  split <;> exact hheard

/-- Settles O9: every owner answers fairly, and a transmitter puts the reply on the line or keeps it in the slot. -/
theorem everyRequestAnswered : Obligations.EveryRequestAnswered := by
  refine ⟨fun s c q k body hreq hs hlistens => ⟨_, exec_request hreq s, ?_⟩, fun s q k c result hfree htag => ?_,
    fun s q kind c hfree => ?_⟩
  · refine (serve_answered hs hlistens (requestOwner_fair hreq _)).imp_right ?_
    rintro ⟨r, htag, hkind, hplaced, hrest⟩
    exact ⟨r, htag, hkind, fun h => hplaced (htag ▸ h), hrest⟩
  · have hw := State.waiting_of_free hfree
    have hheard := sends_port (sends_heard s q.link) q.link
    exact ⟨State.pump_placed htag hw hheard.1, fun hs => sameButPort_of_heard
      (refuse_sameButPort _ _ (State.heard_linksWf _ hs) (by rwa [State.heard_slotBusy])), refusal_receiver c hfree htag,
      State.conclude_placed htag hw rfl, State.pump_placed htag hw rfl⟩
  · have hw := State.waiting_of_free hfree
    refine ⟨fun htag => State.pump_placed htag hw rfl, fun htag hs => ?_⟩
    rw [State.refuse, State.reply, if_pos (by exact htag), State.pump_of_linksWf _ hs]

end Sys2Proof.Machine

/-! PROOFS. FRAME_SENT, READ, LIST and CURSOR (R159, R166 to R172), and the statement O11. -/

namespace Sys2Proof.Machine

/-! ### FRAME_SENT -/

theorem State.updPort_updPort (s : State) (l : Link) (f g : Port → Port) :
    (s.updPort l f).updPort l g = s.updPort l (g ∘ f) := by cases l <;> rfl

section
variable {s : State} {l : Link} (hs : s.filled = true) (hidle : (s.port l).transmitter = none)
include hs hidle

/-- An idle transmitter takes the reply in the slot first (R167). -/
theorem State.pump_of_reply {r : Reply} (hslot : (s.port l).replySlot = some r) :
    s.pump l = (s.updPort l fun p => { p with transmitter := some (.reply r), replySlot := none }).fillSlot := by
  simp only [State.pump, State.fillSlot_of_filled hs, hidle, hslot]

/-- Else it takes the head of its queue (R167). -/
theorem State.pump_of_queued (hslot : (s.port l).replySlot = none) {f : OutFrame} {t : State}
    (htake : s.takeQueued l = some (f, t)) : s.pump l = t.updPort l fun p => { p with transmitter := some f } := by
  simp only [State.pump, State.fillSlot_of_filled hs, hidle, hslot, htake]

/-- Else it stays idle (R167). -/
theorem State.pump_of_empty (hslot : (s.port l).replySlot = none) (hout : s.outbound l = []) : s.pump l = s := by
  simp only [State.pump, State.fillSlot_of_filled hs, hidle, hslot, (s.takeQueued_eq_none_iff l).2 hout]

end

/-- The frame on the line is sent (R167). -/
def State.sent (s : State) (l : Link) : State := s.updPort l fun p => { p with transmitter := none }

theorem exec_frameSent {s : State} {l : Link} (h : (s.port l).transmitter.isSome = true) :
    exec (.frameSent l) s = .next ((s.sent l).pump l) := congrArg Host.Outcome.next (if_pos h)

theorem State.sent_port (s : State) (l : Link) : (s.sent l).port l = { s.port l with transmitter := none } :=
  s.port_updPort l _

theorem State.sent_filled {s : State} (l : Link) (h : s.linksWf = true) : (s.sent l).filled = true :=
  (State.updPort_linksBut _ (by exact id) (State.linksBut_of_linksWf l h)).2.2

/-- The reply in the slot goes on the line, and on the order link a STORE reply that waits takes its place (R159, R167). -/
theorem sent_reply {s : State} {l : Link} (hs : s.linksWf = true) {r : Reply} (hslot : (s.port l).replySlot = some r) :
    (s.sent l).pump l = if l = .order then { s with
        ports := s.ports.set .order { s.port .order with
          transmitter := some (.reply r), replySlot := s.settings.waitingReply }
        settings := { s.settings with waitingReply := none } }
      else s.updPort l fun p => { p with transmitter := some (.reply r), replySlot := none } := by
  have hport := s.sent_port l
  rw [State.pump_of_reply (State.sent_filled l hs) (by rw [hport]) (by rw [hport]; exact hslot), State.sent,
    State.updPort_updPort]
  by_cases hl : l = .order
  · subst hl
    rw [if_pos rfl]
    cases hw : s.settings.waitingReply with
    | some q => simp [State.fillSlot, State.updPort, State.updSettings, State.port, hw, PerLink.get, PerLink.set]
    | none =>
      rw [State.fillSlot_of_filled (by simp [State.filled, State.updPort, hw])]
      rw [← hw]
      rfl
  · rw [if_neg hl, State.fillSlot_of_filled]
    · rfl
    · have hfilled := (s.linksWf_iff.1 hs).2.2
      simpa [State.filled, s.port_updPort_ne (Ne.symm hl)] using hfilled

/-- With no reply to send the head of the queue goes on the line (R167, R168). -/
theorem sent_queued {s t : State} {l : Link} (hs : s.linksWf = true) (hslot : (s.port l).replySlot = none) {f : OutFrame}
    (htake : (s.sent l).takeQueued l = some (f, t)) : (s.sent l).pump l = t.updPort l fun p => { p with transmitter := some f } := by
  have hport := s.sent_port l
  exact State.pump_of_queued (State.sent_filled l hs) (by rw [hport]) (by rw [hport]; exact hslot) htake

/-- With nothing to send the transmitter is idle (R167). -/
theorem sent_empty {s : State} {l : Link} (hs : s.linksWf = true) (hslot : (s.port l).replySlot = none)
    (hout : s.outbound l = []) : (s.sent l).pump l = s.sent l := by
  have hport := s.sent_port l
  exact State.pump_of_empty (State.sent_filled l hs) (by rw [hport]) (by rw [hport]; exact hslot) (by cases l <;> exact hout)

/-! ### READ (R171) -/

section
variable {s : State} {r : Req} (hlistens : s.listens r.link = true)
include hlistens

/-- READ answers with the item that it reads, the receiver aside (R171). -/
theorem exec_read {item : Byte} {index : BitVec 32} {bytes : List Byte} (h : s.readItem item index = .ok bytes) :
    exec (.read r item index) s = .next ((s.heard r.link).answerPort r .read .ok bytes) := by
  have hread : (s.heard r.link).readItem item index = .ok bytes := h
  refine congrArg _ (serve_portOnly hlistens rfl ?_)
  rw [ownRead, hread]

/-- READ of what there is not is refused (R171). -/
theorem exec_read_refused {item : Byte} {index : BitVec 32} {c : Reason} (h : s.readItem item index = .error c) :
    exec (.read r item index) s = .next (s.refusal r .read c) := by
  have hread : (s.heard r.link).readItem item index = .error c := h
  refine congrArg _ (serve_refused hlistens rfl ?_)
  rw [ownRead, hread]

end

theorem Fetch.bytes_eq : Fetch.bytes = fun f => bytes4 f.tote ++ num1 f.kind.code ++ flag f.atwinSeen ++ flag f.presRisen ++
    orAbsent 1 secs1 (f.fetchTimer.orElse fun _ => f.settleTimer) := by
  funext f
  have htimer : f.timer = f.fetchTimer.orElse fun _ => f.settleTimer := by
    unfold Fetch.timer
    cases f.fetchTimer <;> rfl
  rw [Fetch.bytes, htimer]

/-- The place of a task's tote is sent while the task is ACTIVE or LIT (R56). -/
theorem taskPlace_eq (s : State) (t : Task) : s.taskPlace t = if t.state = .active ∨ t.state = .lit then
    orAbsent 2 (fun x => placeBytes x.state (s.levelOf x)) (s.tote? t.tote) else absent 2 := by
  unfold State.taskPlace
  cases t.state <;> rfl

/-- There are seven items (R171). -/
theorem readItem_beyond {s : State} {item : Byte} (h : 6 < item.toNat) (index : BitVec 32) :
    s.readItem item index = .error .range := by
  unfold State.readItem
  split
  case h_8 => rfl
  all_goals omega

/-! ### LIST and CURSOR (R172) -/

/-- The records that a LIST returns from: those at or above the cursor's index, each with its entry. -/
theorem State.recordsFrom_eq (s : State) (c : Cursor) : s.recordsFrom c = if c.kind = .tasks then
      (s.tasks.filter fun t => decide (c.index ≤ t.recNo)).map fun t => (t.recNo, bytes2 t.id ++ num1 t.state.code ++ bytes4 t.tote)
    else (s.totes.filter fun t => decide (c.index ≤ t.recNo)).map fun t =>
      (t.recNo, bytes4 t.id ++ num1 t.state.code ++ placeBytes t.state (s.levelOf t) ++
        bitSet [t.urgent, t.expired, t.rush, t.finished]) := by
  unfold State.recordsFrom
  split
  next h => rw [if_pos h, List.filter_map]; rfl
  next h => rw [if_neg (by simp [h]), List.filter_map]; rfl

/-- LIST moves its link's cursor and answers with the records from it on (R172). -/
theorem exec_list {s : State} {r : Req} (hlistens : s.listens r.link = true) :
    exec (.list r) s = .next (State.answerPort ((s.heard r.link).setCursor r.link ⟨(s.port r.link).cursor.kind,
      listIndex (s.recordsFrom (s.port r.link).cursor)⟩) r .list .ok
      (listResult (s.port r.link).cursor.kind (s.recordsFrom (s.port r.link).cursor))) := by
  have hcursor : ((s.heard r.link).port r.link).cursor = (s.port r.link).cursor := by
    rw [State.heard, State.port_updPort]
  refine congrArg _ (serve_portOnly hlistens rfl ?_)
  rw [ownList, hcursor]
  rfl

/-- At END the cursor goes back to 0 (R172). -/
theorem listIndex_end {rows : List (Nat × List Byte)} (h : rows.length ≤ 4) : listIndex rows = 0 := by
  simp [listIndex, List.drop_eq_nil_of_le h]

theorem listResult_end {rows : List (Nat × List Byte)} (kind : CursorKind) (h : rows.length ≤ 4) :
    listResult kind rows = num1 rows.length ++ (rows.flatMap fun e => e.2) ++ num1 kind.code ++ num1 1 ++ num1 0 := by
  simp [listResult, List.drop_eq_nil_of_le h, List.take_of_length_le h, listIndex_end h, flag]

/-- Short of END the cursor goes on after the fourth record (R172). -/
theorem listIndex_more (a b d e : Nat × List Byte) {more : List (Nat × List Byte)} (h : more ≠ []) :
    listIndex (a :: b :: d :: e :: more) = e.1 + 1 := by simp [listIndex, h]

theorem listResult_more (kind : CursorKind) (a b d e : Nat × List Byte) {more : List (Nat × List Byte)} (h : more ≠ []) :
    listResult kind (a :: b :: d :: e :: more) =
      num1 4 ++ (a.2 ++ b.2 ++ d.2 ++ e.2) ++ num1 kind.code ++ num1 0 ++ num1 (e.1 + 1) := by
  simp [listResult, listIndex_more a b d e h, h, flag]

theorem CursorKind.code_eq (kind : CursorKind) : kind.code = if kind = .tasks then 0 else 1 := by cases kind <;> rfl

theorem cursorKindOf_eq (b : Byte) :
    cursorKindOf b = if b.toNat < 2 then some (if b.toNat = 0 then .tasks else .totes) else none := by
  unfold cursorKindOf
  split
  next h => simp [h]
  next h => simp [h]
  next => rw [if_neg]; simp_all; omega

/-- Settles O11: FRAME_SENT by what the slot and the queue hold, READ by item, LIST by the records from the cursor on,
CURSOR by the ranges of its kinds. -/
theorem frameSentReadListCursor : Obligations.FrameSentReadListCursor := by
  refine ⟨fun l s hs htx => ?_, fun r item index s hlistens => ?_, fun r s hlistens => ?_, fun r kind index s hlistens => ?_⟩
  · rw [exec_frameSent htx]
    refine ⟨fun r hslot => congrArg _ (sent_reply hs hslot), fun hslot hout => congrArg _ (sent_empty hs hslot hout),
      fun hslot hl n ns hq => congrArg _ ?_, fun hslot hl n ns hq => congrArg _ ?_, fun hslot hl d ds hq => congrArg _ ?_⟩
    · subst hl
      exact sent_queued hs hslot (t := { s.sent .order with orderQueue := ⟨ns, false⟩ })
        (by simp [State.takeQueued, State.sent, State.updPort, hq])
    · subst hl
      exact sent_queued hs hslot (t := { s.sent .bench with benchQueue := ⟨ns, false⟩ })
        (by simp [State.takeQueued, State.sent, State.updPort, hq])
    · subst hl
      exact sent_queued hs hslot (t := { s.sent .transport with directions := ds })
        (by simp [State.takeQueued, State.sent, State.updPort, hq])
  · intro answer e st window position
    have hwindow : ∀ w : Win, window w = s.windowStatus w := fun w => by
      simp only [window, State.windowStatus, liftBytes, Fetch.bytes_eq, List.append_assoc]
      rfl
    have hposition : ∀ p : Pos, position p = s.positionStatus p := fun p => rfl
    refine ⟨fun hitem => ?_, fun hitem => ?_, fun hitem => ?_, fun hitem => ?_, fun hitem => ?_, fun hitem => ?_,
      fun hitem => ?_, fun hitem => ?_⟩
    · rw [exec_read hlistens (bytes := s.benchStatus) (by simp only [State.readItem, hitem])]
      refine congrArg (fun bytes => Host.Outcome.next (answer bytes)) ?_
      simp only [State.benchStatus, Exposure.bytes, SettingsStore.bytes, List.append_assoc]
      rfl
    · simp only [hwindow]
      split
      next h0 => exact exec_read hlistens (by simp [State.readItem, hitem, show index = 0 from BitVec.eq_of_toNat_eq h0])
      split
      next h0 h1 => exact exec_read hlistens (by simp [State.readItem, hitem, show index = 1 from BitVec.eq_of_toNat_eq h1])
      next h0 h1 =>
        refine exec_read_refused hlistens ?_
        have hne : index ≠ 0 ∧ index ≠ 1 := ⟨fun h => h0 (by rw [h]; rfl), fun h => h1 (by rw [h]; rfl)⟩
        simp only [State.readItem, hitem, if_neg hne.1, if_neg hne.2]
    · split
      next h => exact exec_read hlistens (by simp only [State.readItem, hitem, dif_pos h, hposition])
      next h => exact exec_read_refused hlistens (by simp only [State.readItem, hitem, dif_neg h])
    · split
      next h => exact exec_read_refused hlistens (by simp only [State.readItem, hitem, h])
      next t h =>
        refine exec_read hlistens ?_
        simp only [State.readItem, hitem, h]
        rfl
    · split
      next h => exact exec_read_refused hlistens (by simp only [State.readItem, hitem, h])
      next t h =>
        refine exec_read hlistens ?_
        simp only [State.readItem, hitem, h, State.taskItem, taskPlace_eq]
        rfl
    · exact exec_read hlistens (by simp only [State.readItem, hitem]; rfl)
    · split
      next h => exact exec_read hlistens (by simp only [State.readItem, hitem, dif_pos h]; rfl)
      next h => exact exec_read_refused hlistens (by simp only [State.readItem, hitem, dif_neg h])
    · exact exec_read_refused hlistens (readItem_beyond hitem index)
  · intro c rows kind
    have hrows : s.recordsFrom c = rows := s.recordsFrom_eq c
    have hlist := exec_list hlistens
    rw [show (s.port r.link).cursor = c from rfl, hrows] at hlist
    refine ⟨fun hshort => ?_, fun a b d e more hfour hmore => ?_⟩
    · rw [hlist, listIndex_end hshort, listResult_end _ hshort, CursorKind.code_eq]
      rfl
    · rw [hlist, hfour, listIndex_more _ _ _ _ hmore, listResult_more _ _ _ _ _ hmore, CursorKind.code_eq]
      rfl
  · refine congrArg _ ((serve_outcome hlistens rfl _).trans ?_)
    simp only [ownCursor, cursorKindOf_eq]
    by_cases htwo : kind.toNat < 2
    case neg => rw [if_neg htwo, if_pos (.inl (Nat.not_lt.1 htwo))]; rfl
    rw [if_pos htwo]
    have hrange : (2 ≤ kind.toNat ∨ (kind.toNat = 0 ∧ 63 < index.toNat) ∨ (kind.toNat = 1 ∧ 15 < index.toNat)) ↔
        (if kind.toNat = 0 then CursorKind.tasks else .totes).top < index.toNat := by
      by_cases h0 : kind.toNat = 0
      · simp [h0, CursorKind.top]
      · have h1 : kind.toNat = 1 := by omega
        simp [h1, CursorKind.top]
    simp only [hrange]
    exact Answer.outcome_check fun _ => rfl

end Sys2Proof.Machine

/-! PROOFS. The choice of a window and its lighting (R114, R116 to R120), and the statement O47. -/

namespace Sys2Proof.Machine

/-! ### The first by keys taken in turn (R105, R117) -/

theorem keyLt_asymm {a b : List Nat} (h : keyLt a b = true) : keyLt b a = false := by
  induction a generalizing b with
  | nil => cases h
  | cons x xs ih =>
    cases b with
    | nil => rfl
    | cons y ys =>
      simp only [keyLt, Bool.or_eq_true, decide_eq_true_eq, Bool.and_eq_true, beq_iff_eq] at h
      simp only [keyLt, Bool.or_eq_false_iff, decide_eq_false_iff_not, Bool.and_eq_false_iff, beq_eq_false_iff_ne]
      obtain hlt | ⟨rfl, hlt⟩ := h
      · exact ⟨by omega, .inl (by omega)⟩
      · exact ⟨by omega, .inr (ih hlt)⟩

/-- Of keys of one length, what does not come before what does not come before a third does not come before it. -/
theorem keyLt_trans_not {a b c : List Nat} (hab : a.length = b.length) (hbc : b.length = c.length)
    (h : keyLt a b = false) (k : keyLt b c = false) : keyLt a c = false := by
  induction a generalizing b c with
  | nil => rfl
  | cons x xs ih =>
    cases b with
    | nil => cases hab
    | cons y ys =>
      cases c with
      | nil => cases hbc
      | cons z zs =>
        simp only [keyLt, Bool.or_eq_false_iff, decide_eq_false_iff_not, Bool.and_eq_false_iff, beq_eq_false_iff_ne] at h k ⊢
        obtain ⟨hxy, h⟩ := h
        obtain ⟨hyz, k⟩ := k
        refine ⟨by omega, ?_⟩
        by_cases hxz : x = z
        · have hx : x = y := by omega
          have hy : y = z := by omega
          exact .inr (ih (by simpa using hab) (by simpa using hbc) (h.resolve_left (by omega)) (k.resolve_left (by omega)))
        · exact .inl hxz

theorem firstBy_eq_none_iff {α : Type} {key : α → List Nat} {l : List α} : firstBy key l = none ↔ l = [] := by
  cases l with
  | nil => simp [firstBy]
  | cons a as =>
    simp only [firstBy, reduceCtorEq, iff_false]
    split
    · simp
    · split <;> simp

/-- The first by a key comes strictly before what stands before it, and nothing that stands after it comes before it. -/
theorem firstBy_spec {α : Type} {key : α → List Nat} {n : Nat} (hkey : ∀ a, (key a).length = n) {l : List α} {c : α}
    (h : firstBy key l = some c) : ∃ before after : List α, l = before ++ c :: after ∧
      (∀ u ∈ before, keyLt (key c) (key u) = true) ∧ ∀ u ∈ after, keyLt (key u) (key c) = false := by
  induction l generalizing c with
  | nil => cases h
  | cons a as ih =>
    simp only [firstBy] at h
    split at h
    next hnone =>
      obtain rfl := Option.some.inj h
      exact ⟨[], [], by rw [firstBy_eq_none_iff.1 hnone]; rfl, nofun, nofun⟩
    next b hb =>
      obtain ⟨before, after, rfl, hbefore, hafter⟩ := ih hb
      split at h
      next hlt =>
        obtain rfl := Option.some.inj h
        exact ⟨a :: before, after, rfl, List.forall_mem_cons.2 ⟨hlt, hbefore⟩, hafter⟩
      next hge =>
        obtain rfl := Option.some.inj h
        have hba : keyLt (key b) (key a) = false := Bool.eq_false_iff.2 hge
        have htrans : ∀ u, keyLt (key u) (key b) = false → keyLt (key u) (key a) = false := fun u hu =>
          keyLt_trans_not (by rw [hkey, hkey]) (by rw [hkey, hkey]) hu hba
        refine ⟨[], before ++ b :: after, rfl, nofun, fun u hu => ?_⟩
        obtain hu | hu := List.mem_append.1 hu
        · exact htrans u (keyLt_asymm (hbefore u hu))
        · obtain rfl | hu := List.mem_cons.1 hu
          · exact hba
          · exact htrans u (hafter u hu)

/-- Nothing comes before the first by a key. -/
theorem firstBy_le {α : Type} {key : α → List Nat} {n : Nat} (hkey : ∀ a, (key a).length = n) {l : List α} {c : α}
    (h : firstBy key l = some c) : c ∈ l ∧ ∀ u ∈ l, keyLt (key u) (key c) = false := by
  obtain ⟨before, after, rfl, hbefore, hafter⟩ := firstBy_spec hkey h
  refine ⟨by simp, fun u hu => ?_⟩
  obtain hu | hu := List.mem_append.1 hu
  · exact keyLt_asymm (hbefore u hu)
  · obtain rfl | hu := List.mem_cons.1 hu
    · cases hself : keyLt (key u) (key u) with
      | false => rfl
      | true => exact hself ▸ keyLt_asymm hself
    · exact hafter u hu

/-! ### The choice (R116, R117) -/

theorem State.chooses_iff (s : State) (w : Win) : s.chooses w = true ↔ (s.win w).lift ≠ [] ∧ (s.win w).fetch = none ∧
    s.held w = false ∧ s.topFinished w = false ∧ (s.win w).lit = none := by
  simp [State.chooses, and_assoc]

/-- When a task is litable, and to which position (R40). -/
theorem State.mem_litable {s : State} {w : Win} {t : Task} {p : Pos} : (t, p) ∈ s.litable w ↔ t ∈ s.tasks ∧ t.state = .active ∧
    s.top? w = some t.tote ∧ s.held w = false ∧ s.positionOf t.orderTote = some p ∧ (s.pos p).state = .bound ∧
      (s.pos p).lock ≠ some w.other := by
  have hpos : s.litablePos w t = some p ↔ t.state = .active ∧ s.top? w = some t.tote ∧ s.held w = false ∧
      s.positionOf t.orderTote = some p ∧ (s.pos p).state = .bound ∧ (s.pos p).lock ≠ some w.other := by
    unfold State.litablePos
    split
    next h =>
      obtain ⟨hactive, htop, hheld⟩ := h
      split
      next q hq =>
        split
        next hok => simp only [hactive, htop, hheld, hq, Option.some.injEq, true_and]
                    exact ⟨fun h => by subst h; exact ⟨rfl, hok⟩, fun h => h.1⟩
        next hno => simp only [hactive, htop, hheld, hq, Option.some.injEq, true_and, reduceCtorEq, false_iff]
                    rintro ⟨rfl, hok⟩
                    exact hno hok
      next hq => simp [hq]
    next h => simp only [reduceCtorEq, false_iff]
              rintro ⟨hactive, htop, hheld, _⟩
              exact h ⟨hactive, htop, hheld⟩
  simp only [State.litable, List.mem_filterMap, Option.map_eq_some_iff, Prod.mk.injEq]
  constructor
  · rintro ⟨x, hx, q, hq, rfl, rfl⟩
    exact ⟨hx, hpos.1 hq⟩
  · rintro ⟨ht, h⟩
    exact ⟨t, ht, p, hpos.2 h, rfl, rfl⟩

theorem State.choice_of_chooses {s : State} {w : Win} (h : s.chooses w = true) :
    s.choice w = firstBy s.choiceKey (s.litable w) := if_pos h

/-- A window takes a litable task that no other comes before (R116, R117). -/
theorem State.choice_first {s : State} {w : Win} {c : Task × Pos} (h : s.choice w = some c) :
    s.chooses w = true ∧ c ∈ s.litable w ∧ ∀ d ∈ s.litable w, keyLt (s.choiceKey d) (s.choiceKey c) = false := by
  unfold State.choice at h
  split at h
  next hch => exact ⟨hch, firstBy_le (n := 4) (fun _ => rfl) h⟩
  next => cases h

theorem State.chooseAt_of_choice {s : State} {w : Win} {c : Task × Pos} (h : s.choice w = some c) : s.chooseAt w = s.light w c := by
  simp only [State.chooseAt, h]

theorem State.chooseAt_of_none {s : State} {w : Win} (h : s.choice w = none) : s.chooseAt w = s := by
  simp only [State.chooseAt, h]

/-! ### Lighting (R118, R120) -/

section
variable (s : State) (w : Win) (c : Task × Pos)

theorem State.light_win : (s.light w c).win w =
    { s.win w with lit := some c.1.id, confirmTimer := some s.periodMs, guardTimer := guardStart s.guardMs } :=
  s.win_updWin w fun x => { x with lit := some c.1.id, confirmTimer := some s.periodMs, guardTimer := guardStart s.guardMs }

theorem State.light_win_ne {w v : Win} (h : v ≠ w) : (s.light w c).win v = s.win v :=
  s.win_updWin_ne h fun x => { x with lit := some c.1.id, confirmTimer := some s.periodMs, guardTimer := guardStart s.guardMs }

theorem State.light_pos : (s.light w c).pos c.2 = { s.pos c.2 with lock := some w, lastHolder := some w } :=
  s.pos_updPos c.2 fun q => { q with lock := some w, lastHolder := some w }

theorem State.light_pos_ne {c : Task × Pos} {q : Pos} (h : q ≠ c.2) : (s.light w c).pos q = s.pos q :=
  s.pos_updPos_ne h fun q => { q with lock := some w, lastHolder := some w }

/-- The task it lights is LIT, with CRUSH where it conflicts (R118). -/
theorem State.light_task? {s : State} {w : Win} {c : Task × Pos} (h : s.task? c.1.id = some c.1) :
    (s.light w c).task? c.1.id = some { c.1 with state := .lit, crush := c.1.crush || s.conflicts c.1 c.2 } := by
  refine (s.task?_updTask c.1.id c.1.id (fun t => { t with state := .lit, crush := t.crush || s.conflicts c.1 c.2 })
    fun _ => rfl).trans ?_
  rw [if_pos rfl, h]
  rfl

end

/-! ### Two choices (R119) -/

/-- The lowest position of a property. -/
theorem find?_allPos {P : Pos → Bool} {p : Pos} (hp : P p = true) (hlow : ∀ q : Pos, q < p → P q = false) :
    allPos.find? P = some p := by
  refine List.find?_eq_some_iff_append.2 ⟨hp, allPos.take p, allPos.drop (p + 1), ?_, fun q hq => ?_⟩
  · decide +revert
  · have hlt : q < p := by
      clear hlow hp
      decide +revert
    simp [hlow q hlt]

/-- A position that each window has a litable task to (R119). -/
def State.shared (s : State) (p : Pos) : Bool :=
  (s.litable .w0).any (fun c => c.2 == p) && (s.litable .w1).any (fun c => c.2 == p)

theorem State.shared_iff (s : State) (p : Pos) :
    s.shared p = true ↔ (∃ t : Task, (t, p) ∈ s.litable .w0) ∧ ∃ t : Task, (t, p) ∈ s.litable .w1 := by
  simp [State.shared]

section
variable {s : State} (h0 : s.choice .w0 ≠ none) (h1 : s.choice .w1 ≠ none)
include h0 h1

theorem State.chooseBoth_of_two : s.chooseBoth = match allPos.find? s.shared with
    | some p => (s.chooseAt (firstChooser (s.pos p).lastHolder)).chooseAt (firstChooser (s.pos p).lastHolder).other
    | none => s.bothWays State.chooseAt := by
  rw [State.chooseBoth, if_pos (by simp [Option.isSome_iff_ne_none, h0, h1])]
  rfl

/-- The arbiter of the lowest contested position lets one window choose first (R119). -/
theorem State.chooseBoth_contested {p : Pos} (hp : s.shared p = true) (hlow : ∀ q : Pos, q < p → s.shared q = false) :
    s.chooseBoth = State.chooseAt (firstChooser (s.pos p).lastHolder).other
      (s.chooseAt (firstChooser (s.pos p).lastHolder)) := by
  rw [State.chooseBoth_of_two h0 h1, find?_allPos hp hlow]

/-- Without a contested position the order is open (log entry 3). -/
theorem State.chooseBoth_open (hno : ∀ p : Pos, s.shared p = false) : s.chooseBoth = s.bothWays State.chooseAt := by
  rw [State.chooseBoth_of_two h0 h1, List.find?_eq_none.2 fun p _ => by simp [hno]]

end

/-- Settles O47: the choice is the first by its four keys, lighting writes the task, the window, the lock and one notice,
and the arbiter of the lowest contested position decides between two. -/
theorem choiceIsFirst : Obligations.ChoiceIsFirst := by
  refine ⟨fun s w c hc => State.choice_first hc, fun s w hch hne => ?_, fun s w c hc ht => ?_, fun s w => ⟨s.chooses_iff w,
    fun t p => State.mem_litable, State.chooseAt_of_none, fun c => State.chooseAt_of_choice⟩, fun s => ⟨fun hone => ?_,
    fun h0 h1 => ⟨fun p hp hlow => ?_, fun hno => ?_⟩⟩⟩
  · rw [State.choice_of_chooses hch, Option.isSome_iff_ne_none]
    exact fun hnone => hne (firstBy_eq_none_iff.1 hnone)
  · exact ⟨State.light_task? ht, by rw [State.light_pos], by rw [State.light_pos], State.light_win s w c, rfl, rfl, rfl, rfl,
      rfl, rfl, fun v hv => State.light_win_ne s c hv, fun q hq => State.light_pos_ne s w hq⟩
  · refine if_neg fun h => ?_
    simp only [Bool.and_eq_true, Option.isSome_iff_ne_none] at h
    exact hone.elim h.1 h.2
  · refine (State.chooseBoth_contested h0 h1 ((s.shared_iff p).2 hp) fun q hq => ?_).trans ?_
    · exact Bool.eq_false_iff.2 fun hsh => hlow q hq ((s.shared_iff q).1 hsh)
    · cases (s.pos p).lastHolder <;> rfl
  · refine (State.chooseBoth_open h0 h1 fun p => Bool.eq_false_iff.2 fun hsh => hno p ((s.shared_iff p).1 hsh)).trans ?_
    rfl

end Sys2Proof.Machine

/-! PROOFS. The window SENDBACK and the confirm (R66, R67, R92, R94, R95, R122), and the statements O43 and O45. -/

namespace Sys2Proof.Machine

/-! ### FINISHED (R92) -/

section
variable (s : State) (w : Win)

/-- Marking a top FINISHED changes the tote table alone. -/
theorem State.markFinished_totes : s.markFinished w = { s with totes := (s.markFinished w).totes } := by
  unfold State.markFinished
  split <;> rfl

/-- The FINISHED test changes the tote table alone. -/
theorem State.finishTest_totes : s.finishTest w = { s with totes := (s.finishTest w).totes } := by
  obtain h | h := finishTest_cases s w
  · rw [h]
  · rw [h]
    exact s.markFinished_totes w

theorem State.markFinished_of_top {s : State} {w : Win} {id : ToteId} (h : s.top? w = some id) :
    s.markFinished w = s.updTote id fun t => { t with finished := true } := by
  simp only [State.markFinished, h]

/-- Marking the top FINISHED leaves the other records as they are. -/
theorem State.markFinished_tote? {s : State} {w : Win} {x : ToteId} (h : s.top? w ≠ some x) :
    (s.markFinished w).tote? x = s.tote? x := by
  cases htop : s.top? w with
  | none => simp only [State.markFinished, htop]
  | some id =>
    rw [State.markFinished_of_top htop, s.tote?_updTote id x _ (by exact fun _ => rfl), if_neg fun hx : x = id => h (hx ▸ htop)]

theorem State.finishTest_tote? {s : State} {w : Win} {x : ToteId} (h : s.top? w ≠ some x) :
    (s.finishTest w).tote? x = s.tote? x := by
  obtain hf | hf := finishTest_cases s w
  · rw [hf]
  · rw [hf, State.markFinished_tote? h]

theorem State.topFinished_iff (s : State) (w : Win) : s.topFinished w = true ↔
    ∃ (id : ToteId) (t : Tote), s.top? w = some id ∧ s.tote? id = some t ∧ t.finished = true := by
  unfold State.topFinished State.topTote?
  cases htop : s.top? w with
  | none => simp
  | some id => cases ht : s.tote? id <;> simp [ht]

theorem State.markFinished_topFinished {s : State} {w : Win} {id : ToteId} {t : Tote} (htop : s.top? w = some id)
    (ht : s.tote? id = some t) : (s.markFinished w).topFinished w = true := by
  refine (State.topFinished_iff _ _).2 ⟨id, { t with finished := true }, ?_, ?_, rfl⟩
  · rw [State.markFinished_of_top htop]
    exact htop
  · rw [State.markFinished_of_top htop, s.tote?_updTote id id _ (by exact fun _ => rfl), if_pos rfl, ht]
    rfl

/-- A top that is EXPIRED, or that no live task names, is FINISHED by the test (R92). -/
theorem State.finishTest_topFinished {s : State} {w : Win} {id : ToteId} {t : Tote} (htop : s.top? w = some id)
    (ht : s.tote? id = some t) (hends : t.expired = true ∨ s.named id = false) : (s.finishTest w).topFinished w = true := by
  have hid : t.id = id := by simpa using List.find?_some ht
  have htest : s.finishTest w = s.markFinished w := by
    simp only [State.finishTest, State.topTote?, htop, Option.bind_some, ht]
    exact if_pos (by simpa [hid] using hends)
  rw [htest]
  exact State.markFinished_topFinished htop ht

end

/-! ### The SENDBACK of a window (R94, R95) -/

/-- Going WAITING a task still names its tote. -/
theorem State.tasksToWaiting_named (s : State) (id x : ToteId) : (s.tasksToWaiting id).named x = s.named x := by
  simp only [State.named, State.tasksToWaiting, List.any_map]
  refine congrArg (fun p => s.tasks.any p) (funext fun t => ?_)
  simp only [Function.comp_apply]
  split <;> rfl

/-- The tote records of a SENDBACK: its own is LEAVING, the others are as they were (R94). -/
theorem State.sendRecords_tote? (s : State) (w : Win) (id : ToteId) (rest : List ToteId) (x : ToteId) :
    (s.sendRecords w id rest).tote? x =
      if x = id then (s.tote? x).map fun t => { t with state := .leavingWin w, finished := false } else s.tote? x :=
  s.tote?_updTote id x (fun t => { t with state := .leavingWin w, finished := false }) fun _ => rfl

/-- Settles O43: the records of the SENDBACK, then the FINISHED test of the tote below, which writes the tote table alone. -/
theorem windowSendBack : Obligations.WindowSendBack := by
  intro s w id rest hlift hnew t
  have ht : t = _ := State.sendBack_of_lift hlift
  have hcharged : t.charged = s.charged := sendBack_charged w s
  have hbase : t.base = s.base := sendBack_base w s
  have hcounters : t.counters = s.counters := sendBack_counters w s
  generalize hd : s.direct (.sendBack id (.window w)) = d at ht ⊢
  have hdw : d.win w = s.win w := by rw [← hd, State.direct_win]
  have hdirect : d = { s with directions := d.directions } := by
    rw [← hd]
    unfold State.direct
    split <;> rfl
  have hset : d.settings = s.settings := (congrArg State.settings hdirect :)
  have htasks : d.tasks = s.tasks := (congrArg State.tasks hdirect :)
  have htotes : d.totes = s.totes := (congrArg State.totes hdirect :)
  have hwin := d.sendRecords_win w id rest
  have htote := d.sendRecords_tote? w id rest
  have htop : (d.sendRecords w id rest).top? w = rest.head? := by rw [State.top?, hwin]
  have hother : t = { d.sendRecords w id rest with totes := t.totes } := by
    rw [ht]
    exact State.finishTest_totes _ w
  have htwin : t.win w = _ := (congrArg (fun u : State => u.win w) hother).trans hwin
  rw [hdw] at htwin
  refine ⟨(congrArg State.directions hother :), by rw [htwin], ?_, by rw [htwin], fun hrest => ?_, fun hrest => ?_, fun x hx => ?_, ?_,
    fun top x hhead hx hends => ?_, hcharged, hbase, hcounters, ?_, ?_, ?_⟩
  · rw [htwin, State.returnMs, State.setting, State.item, hset]
    rfl
  · rw [htwin, hrest]
    rfl
  · have hne : rest.isEmpty = false := List.isEmpty_eq_false_iff.2 hrest
    rw [htwin]
    refine ⟨?_, by rw [hne]; rfl⟩
    simp only [fetchAfterPop, hne, Bool.false_eq_true, if_false, Option.map_id']
  · have hbelow : (d.sendRecords w id rest).top? w ≠ some id := by
      rw [htop]
      exact fun h => hnew (List.mem_of_mem_head? h)
    rw [ht, State.finishTest_tote? hbelow, htote, if_pos rfl] at hx
    obtain ⟨y, _, rfl⟩ := Option.map_eq_some_iff.1 hx
    exact ⟨rfl, rfl⟩
  · refine (congrArg State.tasks hother :).trans ?_
    change d.tasks.map _ = _
    rw [htasks]
    have hawait : d.awaitMs = s.setting 22 * 10000 := by rw [State.awaitMs, State.setting, State.item, hset]; rfl
    change s.tasks.map (fun t => if t.tote = id then { t with state := .waiting, awaitTimer := some d.awaitMs } else t) = _
    rw [hawait]
  · have hne : top ≠ id := by
      rintro rfl
      exact hnew (List.mem_of_mem_head? hhead)
    have hnamed : (d.sendRecords w id rest).named top = s.named top := by
      refine (State.tasksToWaiting_named _ id top).trans ?_
      rw [State.named, State.named]
      exact congrArg (fun ts : List Task => ts.any fun t => t.tote == top) htasks
    rw [ht]
    refine State.finishTest_topFinished (id := top) (t := x) (by rw [htop]; exact hhead) ?_ (by rwa [hnamed])
    rw [htote, if_neg hne, State.tote?, htotes]
    exact hx
  · exact (congrArg State.positions hother :).trans (congrArg State.positions hdirect :)
  · exact (congrArg State.orderQueue hother :).trans (congrArg State.orderQueue hdirect :)
  · exact (congrArg State.benchQueue hother :).trans (congrArg State.benchQueue hdirect :)

end Sys2Proof.Machine

/-! PROOFS. Ending a task, releasing its tote, unlighting (R46, R54, R92, R126), and the statement O33. -/

namespace Sys2Proof.Machine

/-! ### What the end of tasks does to lit tasks and to the records of the others (R54, R114, R126) -/

/-- What the end of tasks leaves of a live task's record: all but its state and its await timer. -/
def Task.lasting (t : Task) : Task := { t with state := .waiting, awaitTimer := none }

/-- The fields of a window record that the put controller keeps: the lit task, its timers, the last ended task (R114). -/
def Window.glow (x : Window) : Option TaskId × Option Ms × Option Ms × Option TaskId :=
  (x.lit, x.confirmTimer, x.guardTimer, x.lastEnded)

/-- Nothing is lit at the window and no timer of the put controller runs. -/
def Window.Dark (x : Window) : Prop := x.lit = none ∧ x.confirmTimer = none ∧ x.guardTimer = none

theorem Window.dark_of_glow {x y : Window} (h : y.glow = x.glow) (hx : x.Dark) : y.Dark := by
  simp only [Window.glow, Prod.mk.injEq] at h
  obtain ⟨hlit, hconfirm, hguard, _⟩ := h
  exact ⟨hlit.trans hx.1, hconfirm.trans hx.2.1, hguard.trans hx.2.2⟩

theorem Window.lit_of_glow {x y : Window} (h : y.glow = x.glow) : y.lit = x.lit := congrArg Prod.fst h

/-- From `s` to `t` tasks have been unlit and ended only: each window has what it had lit and ended last, or has had a task
unlit; each live task was live, its record the same but for state and await timer. -/
structure Ends (s t : State) : Prop where
  windows : ∀ w : Win, (t.win w).glow = (s.win w).glow ∨ ((s.win w).lit ≠ none ∧ (t.win w).Dark)
  tasks : ∀ (l : TaskId) (y : Task), t.task? l = some y → ∃ x, s.task? l = some x ∧ x.lasting = y.lasting

theorem Ends.refl (s : State) : Ends s s := ⟨fun _ => .inl rfl, fun _ y hy => ⟨y, hy, rfl⟩⟩

theorem Ends.trans {s t u : State} (h : Ends s t) (k : Ends t u) : Ends s u where
  windows w := by
    obtain hglow | ⟨hlit, hdark⟩ := h.windows w
    · obtain kglow | ⟨klit, kdark⟩ := k.windows w
      · exact .inl (kglow.trans hglow)
      · exact .inr ⟨Window.lit_of_glow hglow ▸ klit, kdark⟩
    · obtain kglow | ⟨klit, _⟩ := k.windows w
      · exact .inr ⟨hlit, Window.dark_of_glow kglow hdark⟩
      · exact absurd hdark.1 klit
  tasks l z hz := by
    obtain ⟨y, hy, hyz⟩ := k.tasks l z hz
    obtain ⟨x, hx, hxy⟩ := h.tasks l y hy
    exact ⟨x, hx, hxy.trans hyz⟩

/-- Tasks may leave the table and have their state and await timer written. -/
theorem Ends.of_tasks {s t : State} (hw : t.windows = s.windows)
    (h : ∀ (l : TaskId) (y : Task), t.task? l = some y → ∃ x, s.task? l = some x ∧ x.lasting = y.lasting) : Ends s t :=
  ⟨fun w => .inl (by rw [State.win, hw]; rfl), h⟩

theorem Ends.of_eq {s t : State} (hw : t.windows = s.windows) (ht : t.tasks = s.tasks) : Ends s t :=
  .of_tasks hw fun l y hy => ⟨y, by rwa [State.task?, ← ht], rfl⟩

/-- A window whose lit and last ended task stay, and their timers. -/
theorem Ends.updWin (s : State) (v : Win) (f : Window → Window) (hf : (f (s.win v)).glow = (s.win v).glow) :
    Ends s (s.updWin v f) := by
  refine ⟨fun w => .inl ?_, fun _ y hy => ⟨y, hy, rfl⟩⟩
  by_cases h : w = v
  · subst h
    rw [State.win_updWin]
    exact hf
  · rw [State.win_updWin_ne _ h]

theorem Ends.mapTasks (s : State) (f : Task → Task) (hf : ∀ t, (f t).id = t.id ∧ (f t).lasting = t.lasting) :
    Ends s { s with tasks := s.tasks.map f } := by
  refine .of_tasks rfl fun l y hy => ?_
  rw [s.task?_mapTasks f fun t => (hf t).1] at hy
  obtain ⟨x, hx, rfl⟩ := Option.map_eq_some_iff.1 hy
  exact ⟨x, hx, (hf x).2.symm⟩

theorem Ends.dropTask (s : State) (id : TaskId) : Ends s (s.dropTask id) := by
  refine .of_tasks rfl fun l y hy => ⟨y, ?_, rfl⟩
  rw [s.task?_dropTask id l] at hy
  split at hy
  · cases hy
  · exact hy

theorem Ends.direct (s : State) (d : Direction) : Ends s (s.direct d) := by
  unfold State.direct
  split
  · exact .of_eq rfl rfl
  · exact .refl s

theorem Ends.finishTest (s : State) (v : Win) : Ends s (s.finishTest v) :=
  .of_eq (congrArg State.windows (s.finishTest_totes v) :) (congrArg State.tasks (s.finishTest_totes v) :)

theorem Ends.tasksToWaiting (s : State) (id : ToteId) : Ends s (s.tasksToWaiting id) :=
  .mapTasks s _ fun t => by split <;> exact ⟨rfl, rfl⟩

theorem Ends.sendRecords (s : State) (v : Win) (id : ToteId) (rest : List ToteId) : Ends s (s.sendRecords v id rest) := by
  refine ⟨fun w => .inl ?_, (Ends.tasksToWaiting s id).tasks⟩
  by_cases h : w = v
  · subst h
    rw [State.sendRecords_win]
    rfl
  · rw [State.sendRecords_win_ne _ h]

theorem Ends.sendBack (s : State) (v : Win) : Ends s (s.sendBack v) := by
  cases hlift : (s.win v).lift with
  | nil => rw [show s.sendBack v = s by simp only [State.sendBack, hlift]]; exact .refl s
  | cons id rest =>
    rw [State.sendBack_of_lift hlift]
    exact (Ends.direct s (.sendBack id (.window v))).trans ((Ends.sendRecords _ v id rest).trans (.finishTest _ v))

theorem Ends.sendIfDue (s : State) (v : Win) : Ends s (s.sendIfDue v) := by
  unfold State.sendIfDue
  split
  · exact .sendBack s v
  · exact .refl s

theorem Ends.releaseTote (s : State) (id : ToteId) : Ends s (s.releaseTote id) := by
  have horphan : Ends s (s.startOrphan id) := by
    unfold State.startOrphan
    repeat' split
    all_goals exact .of_eq rfl rfl
  unfold State.releaseTote State.finishIfTop
  split
  · exact horphan
  split
  · exact horphan.trans ((Ends.finishTest _ _).trans (.sendIfDue _ _))
  split
  · exact horphan.trans ((Ends.finishTest _ _).trans (.sendIfDue _ _))
  · exact horphan

theorem Ends.offer (s : State) (ev : WatchEvent) : Ends s (s.offer ev) := by
  have hone : ∀ (n : Fin 4) (u : State), Ends u (State.offerTo ev n u) := by
    intro n u
    unfold State.offerTo State.noteOwner
    repeat' split
    all_goals exact .of_eq rfl rfl
  exact (hone 0 s).trans ((hone 1 _).trans ((hone 2 _).trans (hone 3 _)))

theorem Ends.unlightFirst (s : State) (v : Win) (ending : Bool) : Ends s (s.unlightFirst v ending) := by
  unfold State.unlightFirst
  split
  next id hid =>
    refine (Ends.mapTasks s _ fun t => by split <;> exact ⟨rfl, rfl⟩).trans ⟨fun w => ?_, fun _ y hy => ⟨y, hy, rfl⟩⟩
    by_cases h : w = v
    · subst h
      refine .inr ⟨?_, by rw [State.win_updWin]; exact ⟨rfl, rfl, rfl⟩⟩
      change (s.win w).lit ≠ none
      simp [hid]
    · rw [State.win_updWin_ne _ h]
      exact .inl rfl
  next => exact .refl s

/-- The notice, the event and the freeing of the record (R54, steps 2 to 5). -/
theorem Ends.noticeAndDrop (s : State) (n : Notice) (o : TaskOutcome) (t : Task) :
    Ends s (((s.noteOrder n).offerTaskEnd o t).dropTask t.id) := by
  refine .trans (t := (s.noteOrder n).offerTaskEnd o t) (.trans (t := s.noteOrder n) (.of_eq rfl rfl) ?_) (.dropTask _ _)
  unfold State.offerTaskEnd
  split
  · exact .offer _ _
  · exact .refl _

theorem Ends.endRecord (s : State) (o : TaskOutcome) (lit : Option Win) (t : Task) : Ends s (s.endRecord o lit t) := by
  unfold State.endRecord
  dsimp only
  split
  · exact (Ends.unlightFirst s _ true).trans (.noticeAndDrop _ _ o t)
  · exact .noticeAndDrop s _ o t

theorem Ends.unlightLast (s : State) (v : Win) (p : Option Pos) (t : Task) (c : UnlitCause) :
    Ends s (s.unlightLast v p t c) := by
  cases p <;> exact .of_eq rfl rfl

theorem Ends.afterUnlit {swap : Pos → State → State} (hswap : ∀ (p : Pos) (s : State), Ends s (swap p s))
    (s : State) (o : TaskOutcome) (p : Option Pos) (id : ToteId) : Ends s (s.afterUnlit swap o p id) := by
  have hready : ∀ u : State, Ends u (u.swapIfReady swap p) := fun u => by
    unfold State.swapIfReady
    split
    · split
      · exact hswap _ u
      · exact .refl u
    · exact .refl u
  unfold State.afterUnlit
  split
  · unfold State.eitherOrder
    split
    · exact .trans (t := { s with free := s.free + 1 }) (.of_eq rfl rfl) ((hready _).trans (.releaseTote _ id))
    · exact .trans (t := { s with free := s.free + 1 }) (.of_eq rfl rfl) ((Ends.releaseTote _ id).trans (hready _))
  · exact (hready s).trans (.releaseTote _ id)

theorem Ends.endWith {swap : Pos → State → State} (hswap : ∀ (p : Pos) (s : State), Ends s (swap p s))
    (s : State) (o : TaskOutcome) (c : UnlitCause) (lit : Option Win) (id : TaskId) : Ends s (s.endWith swap o c lit id) := by
  unfold State.endWith
  split
  · exact .refl s
  split
  · exact (Ends.endRecord s _ _ _).trans (.releaseTote _ _)
  · exact ((Ends.endRecord s _ _ _).trans (.unlightLast _ _ _ _ _)).trans (.afterUnlit hswap _ _ _ _)

theorem Ends.swapOut (p : Pos) (s : State) : Ends s (s.swapOut p) := by
  have hall : ∀ (ids : List TaskId) (u : State), Ends u (u.endAll State.endInSwap ids) := by
    intro ids
    induction ids with
    | nil => exact .refl
    | cons id ids ih => exact fun u => (Ends.endWith (fun _ s => .refl s) u _ _ _ id).trans (ih _)
  cases hb : (s.pos p).binding with
  | none => simp only [State.swapOut, hb]; exact .refl s
  | some b =>
    rw [State.swapOut_of_binding hb]
    refine (Ends.direct s (.swapOut p b.orderTote)).trans (.trans (t := (s.direct (.swapOut p b.orderTote)).updPos p fun q =>
      { q with state := .swapping, swapTimer := some s.returnMs }) (.of_eq rfl rfl) (hall _ _))

/-- A window with nothing lit keeps its last ended task (R114). -/
theorem Ends.lastEnded {s t : State} (h : Ends s t) {w : Win} (hw : (s.win w).lit = none) :
    (t.win w).lit = none ∧ (t.win w).lastEnded = (s.win w).lastEnded := by
  obtain hglow | ⟨hlit, _⟩ := h.windows w
  · exact ⟨(Window.lit_of_glow hglow).trans hw, congrArg (fun g => g.2.2.2) hglow⟩
  · exact absurd hw hlit

theorem State.litAt_eq_none_iff {s : State} {id : TaskId} : s.litAt id = none ↔ ∀ w : Win, (s.win w).lit ≠ some id := by
  unfold State.litAt
  constructor
  · intro h w hw
    split at h
    · cases h
    split at h
    · cases h
    next h0 h1 => cases w <;> contradiction
  · intro h
    rw [if_neg (h .w0), if_neg (h .w1)]

/-- A task that is lit nowhere does not come to be lit. -/
theorem Ends.litAt_none {s t : State} (h : Ends s t) {id : TaskId} (hid : s.litAt id = none) : t.litAt id = none := by
  rw [State.litAt_eq_none_iff] at hid ⊢
  intro w hw
  obtain hglow | ⟨_, hdark⟩ := h.windows w
  · exact hid w (Window.lit_of_glow hglow ▸ hw)
  · cases hdark.1.symm.trans hw

/-! ### The end of a task (R54, R126) -/

/-- Where a task is lit, it is the lit task (R114). -/
theorem State.lit_of_litAt {s : State} {id : TaskId} {w : Win} (h : s.litAt id = some w) : (s.win w).lit = some id := by
  unfold State.litAt at h
  split at h
  next hw => obtain rfl := Option.some.inj h; exact hw
  split at h
  next hw => obtain rfl := Option.some.inj h; exact hw
  · cases h

section
variable {s : State} {id : TaskId} {t : Task} (ht : s.task? id = some t)

/-- Unlighting takes the task off its window, for good at an end (R126, steps 1 to 3). -/
theorem State.unlightFirst_of_lit {w : Win} (ending : Bool) (h : (s.win w).lit = some id) :
    s.unlightFirst w ending = (s.updTask id fun t => { t with state := .active }).updWin w fun x => { x with
      lit := none, confirmTimer := none, guardTimer := none, lastEnded := if ending then some id else x.lastEnded } := by
  simp only [State.unlightFirst, h]

include ht

/-- After the record of an ended task what follows is the work of positions and windows (R54, step 6). -/
theorem Moves.endRecord_endTask (o : TaskOutcome) : Moves (s.endRecord o (s.litAt id) t) (s.endTask o id) := by
  rw [State.endTask, State.endWith, ht]
  cases s.litAt id with
  | none => exact .releaseTote _ _
  | some w => exact (Moves.unlightLast _ _ _ _ _).trans (.afterUnlit Moves.swapOut _ _ _ _)

omit ht in
theorem State.endRecord_task? (o : TaskOutcome) (lit : Option Win) (t : Task) (s : State) :
    (s.endRecord o lit t).task? t.id = none := by
  unfold State.endRecord
  exact (State.task?_dropTask _ t.id t.id).trans (if_pos rfl)

omit ht in
/-- The terminal notice is the first that an end queues (R54, step 2). -/
theorem State.endRecord_notice (o : TaskOutcome) (lit : Option Win) (t : Task) (s : State) :
    (s.orderQueue.push (.taskEnded o (t.beforeEnd lit) (s.positionOf t.orderTote))).entries <+:
      (s.endRecord o lit t).orderQueue.entries := by
  have hunlit : ∀ w, (s.unlightFirst w true).orderQueue = s.orderQueue := fun w => by
    unfold State.unlightFirst
    split <;> rfl
  have hoffer : ∀ u : State, u.orderQueue.entries <+: (u.offerTaskEnd o t).orderQueue.entries := fun u =>
    (Moves.offerTaskEnd u o t).frame.order.1
  unfold State.endRecord
  cases lit with
  | none => exact hoffer (s.noteOrder _)
  | some w =>
    have h := hoffer ((s.unlightFirst w true).noteOrder (.taskEnded o (t.beforeEnd (some w)) (s.positionOf t.orderTote)))
    simp only [State.noteOrder, hunlit] at h ⊢
    exact h

/-- A live task that ends is live no more (R54, step 5). -/
theorem State.endTask_task? (o : TaskOutcome) : (s.endTask o id).task? id = none := by
  have hnone := s.endRecord_task? o (s.litAt id) t
  have hsub := (Moves.endRecord_endTask ht o).frame.tasks.map fun c => c.2.1
  simp only [List.map_map] at hsub
  rw [State.id_of_task? ht] at hnone
  refine List.find?_eq_none.2 fun x hx => ?_
  obtain ⟨y, hy, hyx⟩ := List.mem_map.1 (hsub.subset (List.mem_map.2 ⟨x, hx, rfl⟩))
  have hne := List.find?_eq_none.1 hnone y hy
  rwa [show x.id = y.id from hyx.symm]

theorem State.endTask_notice (o : TaskOutcome) :
    (s.orderQueue.push (.taskEnded o (t.beforeEnd (s.litAt id)) (s.positionOf t.orderTote))).entries <+:
      (s.endTask o id).orderQueue.entries :=
  (s.endRecord_notice o (s.litAt id) t).trans (Moves.endRecord_endTask ht o).frame.order.1

/-- A task that was lit becomes its window's last ended task (R126, step 3). -/
theorem State.endTask_lastEnded (o : TaskOutcome) {w : Win} (hlit : s.litAt id = some w) :
    ((s.endTask o id).win w).lastEnded = some id := by
  have hw := State.lit_of_litAt hlit
  have hfirst : ((s.unlightFirst w true).win w).lit = none ∧ ((s.unlightFirst w true).win w).lastEnded = some id := by
    rw [State.unlightFirst_of_lit true hw, State.win_updWin]
    exact ⟨rfl, rfl⟩
  have hends : Ends (s.unlightFirst w true) (s.endTask o id) := by
    rw [State.endTask, hlit]
    simp only [State.endWith, ht]
    exact ((Ends.noticeAndDrop _ _ o t).trans (.unlightLast _ _ _ _ _)).trans (.afterUnlit Ends.swapOut _ _ _ _)
  exact (hends.lastEnded hfirst.1).2.trans hfirst.2

end

/-! ### The release of a tote (R46, R54 step 6, R92, R94) -/

theorem State.named_updTote (s : State) (id x : ToteId) (f : Tote → Tote) : (s.updTote id f).named x = s.named x := rfl

/-- A tote that a live task names is not released. -/
theorem State.releaseTote_of_named {s : State} {id : ToteId} (h : s.named id = true) : s.releaseTote id = s := by
  have horphan : s.startOrphan id = s := by
    unfold State.startOrphan
    split
    · split
      · exact if_pos h
      · rfl
    · rfl
  rw [State.releaseTote, horphan, State.finishIfTop, if_pos h]

/-- A released lane tote starts its orphan timer (R11). -/
theorem State.releaseTote_of_inLane {s : State} {id : ToteId} {t : Tote} {l : Slot} (h : s.named id = false)
    (ht : s.tote? id = some t) (hst : t.state = .inLane l) (h0 : s.top? .w0 ≠ some id) (h1 : s.top? .w1 ≠ some id) :
    s.releaseTote id = s.updTote id fun x => { x with orphanTimer := some s.orphanMs } := by
  have horphan : s.startOrphan id = s.updTote id fun x => { x with orphanTimer := some s.orphanMs } := by
    simp only [State.startOrphan, ht, hst, h, Bool.false_eq_true, if_false]
  rw [State.releaseTote, horphan, State.finishIfTop, State.named_updTote, h, if_neg Bool.false_ne_true]
  exact (if_neg h0).trans (if_neg h1)

/-- A released top is FINISHED, and sent back when its window may (R92, R94). -/
theorem State.releaseTote_of_top {s : State} {id : ToteId} {t : Tote} {w : Win} (h : s.named id = false)
    (ht : s.tote? id = some t) (hst : t.state = .onLift w) (htop : s.top? w = some id)
    (hfirst : w = .w1 → s.top? .w0 ≠ some id) :
    s.releaseTote id = (s.updTote id fun x => { x with finished := true }).sendIfDue w := by
  have horphan : s.startOrphan id = s := by simp only [State.startOrphan, ht, hst]
  have hid : t.id = id := by simpa using List.find?_some ht
  have htest : s.finishTest w = s.updTote id fun x => { x with finished := true } := by
    simp only [State.finishTest, State.topTote?, htop, Option.bind_some, ht, hid, h, Bool.not_false, Bool.or_true, if_true,
      State.markFinished]
  rw [State.releaseTote, horphan, State.finishIfTop, h, if_neg Bool.false_ne_true]
  cases w with
  | w0 => rw [if_pos htop, State.finishAndSend, htest]
  | w1 => rw [if_neg (hfirst rfl), if_pos htop, State.finishAndSend, htest]

/-- Settles O33: the record and the notices of the end first, then the swap-out and the release of the tote. -/
theorem endingATask : Obligations.EndingATask := by
  refine ⟨fun s o id t ht => ⟨State.endTask_task? ht o, ?_, State.endTask_notice ht o, endTask_base o id s,
    endTask_counters o id s, endTask_charged o id s, fun hunlit => ?_, fun w hlit => State.endTask_lastEnded ht o hlit,
    fun w hlit => ?_⟩, fun s o t => ?_, fun s p => ?_, fun s id => ⟨State.releaseTote_of_named, fun hfree t ht =>
    ⟨fun l hst => State.releaseTote_of_inLane hfree ht hst, fun w hst htop hfirst => ?_⟩⟩, fun s w cause => ⟨fun hno => ?_,
    fun id t hlit ht => ?_⟩⟩
  · simpa [Function.comp_def, Task.core] using (Moves.endTask o id s).frame.tasks.map fun c => c.2.1
  · rw [State.endTask, hunlit, State.endWith_unlit ht]
    rfl
  · intro p unlit u swap
    have hu : (s.endRecord o (some w) t).unlightLast w p t (.ended o) = u := by
      have hfirst : s.unlightFirst w true = unlit := State.unlightFirst_of_lit true (State.lit_of_litAt hlit)
      simp only [State.endRecord, hfirst, State.id_of_task? ht]
      simp only [State.unlightLast, State.id_of_task? ht]
      rfl
    have hswap : ∀ v : State, v.swapIfReady State.swapOut p = swap v := fun v => by
      cases hp : p with
      | none => simp only [swap, hp]; rfl
      | some q => simp only [swap, hp, State.swapIfReady, State.swapReady, Option.any_some, Bool.and_eq_true, beq_iff_eq,
          Option.isNone_iff_eq_none]
    simp only [State.endTask, hlit, State.endWith, ht, State.afterUnlit]
    rw [show s.positionOf t.orderTote = p from rfl, hu, funext hswap]
    simp only [Bool.and_eq_true, and_assoc]
  · cases o <;> rfl
  · cases p <;> rfl
  · rw [State.releaseTote_of_top hfree ht hst htop hfirst, State.sendIfDue]
    have hdue : (s.updTote id fun x => { x with finished := true }).sendBackDue w = true ↔
        s.held w = false ∧ (s.win w).ret = none := by
      have hfin : (s.updTote id fun x => { x with finished := true }).topFinished w = true :=
        (State.topFinished_iff _ _).2 ⟨id, { t with finished := true }, htop, by
          rw [s.tote?_updTote id id _ (by exact fun _ => rfl), if_pos rfl, ht]; rfl, rfl⟩
      rw [State.sendBackDue, hfin, Bool.true_and, Bool.and_eq_true, Bool.not_eq_true', Option.isNone_iff_eq_none]
      rfl
    simp only [hdue]
  · simp only [State.unlight, hno, Option.bind_none]
  · simp only [State.unlight, hlit, Option.bind_some, ht, State.unlightLast, State.unlightFirst_of_lit false hlit,
      State.id_of_task? ht]
    rfl

end Sys2Proof.Machine

/-! PROOFS. The confirm (R66, R67, R122), and the statement O45. -/

namespace Sys2Proof.Machine

/-! ### A confirm at its position -/

/-- A position that takes units (R66), CLOSING where that fills it (R67). -/
def Position.takes (q : Position) (units volume crushClass capacity : Nat) : Position :=
  { q with
    fill := min (q.fill + volume * units) 255
    floor := max q.floor crushClass
    state := if q.state = .bound ∧ capacity ≤ min (q.fill + volume * units) 255 then .closing else q.state
    beforePull := if q.state = .bound ∧ capacity ≤ min (q.fill + volume * units) 255 then none else q.beforePull }

/-- A locked position that takes units stays with its lock, CLOSING or not (R66 to R68). -/
theorem State.putUnits_of_locked {s : State} {p : Pos} {b : Binding} {w : Win} (hb : (s.pos p).binding = some b)
    (hlock : (s.pos p).lock = some w) (units volume crushClass : Nat) :
    s.putUnits p units volume crushClass = s.updPos p fun q => q.takes units volume crushClass b.capacity := by
  unfold State.putUnits
  dsimp only
  rw [State.pos_updPos]
  simp only [hb, Option.any_some, decide_eq_true_eq]
  have hfun : ∀ f g : Position → Position, f (s.pos p) = g (s.pos p) → s.updPos p f = s.updPos p g := fun f g h =>
    congrArg (fun q => { s with positions := s.positions.set p q }) h
  split
  next hfull =>
    have hready : ∀ u : State, (u.pos p).lock = some w → u.swapReady (some p) = false := fun u h => by
      simp [State.swapReady, h]
    unfold State.enterClosing
    dsimp only
    rw [State.updPos_updPos, hready _ (by rw [State.pos_updPos]; exact hlock), if_neg Bool.false_ne_true]
    refine hfun _ _ ?_
    simp only [Position.takes, if_pos hfull]
  next hroom =>
    refine hfun _ _ ?_
    simp only [Position.takes, if_neg hroom]

/-- The window at which a task is lit rests on the lit tasks of the windows alone (R114). -/
theorem State.litAt_congr {s t : State} (h : ∀ w : Win, (t.win w).lit = (s.win w).lit) (id : TaskId) : t.litAt id = s.litAt id := by
  simp only [State.litAt, h]

/-- The position of an order tote rests on the bindings alone (R60). -/
theorem State.positionOf_congr {s t : State} (h : ∀ p : Pos, (t.pos p).binding = (s.pos p).binding) (k : OrderToteId) :
    t.positionOf k = s.positionOf k := by
  simp only [State.positionOf, h]

/-- Updates of one position that agree on its record agree. -/
theorem State.updPos_congr {s : State} {p : Pos} {f g : Position → Position} (h : f (s.pos p) = g (s.pos p)) :
    s.updPos p f = s.updPos p g := congrArg (fun q => { s with positions := s.positions.set p q }) h

/-- Settles O45: the units in their records, then the end of a task that has none left. -/
theorem confirmTakesUnits : Obligations.ConfirmTakesUnits := by
  intro s count w id t ht p hp b hb hlock hle k x fill full put v u
  obtain rfl := State.id_of_task? ht
  have hput : put = s.updPos p fun q => q.takes k t.unitVolume t.crushClass b.capacity := State.updPos_congr rfl
  have htake : s.takeUnits w t count = v := by
    have hputTask : (s.updTask t.id (t.confirmedBy count)).putTask t (unitsTaken t count) =
        (s.updTask t.id (t.confirmedBy count)).updPos p fun q => q.takes k t.unitVolume t.crushClass b.capacity := by
      unfold State.putTask
      rw [show (s.updTask t.id (t.confirmedBy count)).positionOf t.orderTote = some p from hp]
      exact State.putUnits_of_locked (s := s.updTask t.id (t.confirmedBy count)) hb hlock _ _ _
    rw [State.takeUnits, hputTask]
    simp only [v, hput]
    rfl
  have hu : u = if t.confirmed + k = t.quantity then v.endTask .done t.id else v := by
    rw [← htake]
    exact s.confirm_eq w t count
  have hlive : v.task? t.id = some x := by
    have hupd := s.task?_updTask t.id t.id (t.confirmedBy count) fun _ => rfl
    rw [if_pos rfl, ht] at hupd
    exact hupd
  have hpos : v.pos p = (s.pos p).takes k t.unitVolume t.crushClass b.capacity := by
    have hvput : v.pos p = put.pos p := rfl
    rw [hvput, hput, State.pos_updPos]
  have hcore : (u.pos p).core = (v.pos p).core := by
    rw [hu]
    split
    · exact (Moves.endTask _ _ _).frame.positions p
    · rfl
  simp only [Position.core, Prod.mk.injEq] at hcore
  obtain ⟨_, hfill, hfloor, _⟩ := hcore
  refine ⟨fun hmore => ?_, fun hnone => ?_, hlive, confirm_counters w t count s, confirm_base w t count s,
    confirm_charged w t count s, by rw [hfill, hpos]; rfl, by rw [hfloor, hpos]; rfl, fun hnone => ?_⟩
  · rw [hu, if_neg (Nat.ne_of_lt hmore)]
  · rw [hu, if_pos hnone]
  · have hlit : v.litAt t.id = s.litAt t.id := by
      refine State.litAt_congr (fun y => ?_) _
      change ((s.updWin w fun y => { y with confirms := min (y.confirms + 1) 255 }).win y).lit = _
      by_cases hy : y = w
      · subst hy; rw [State.win_updWin]
      · rw [State.win_updWin_ne _ hy]
    have hpo : v.positionOf t.orderTote = some p := by
      rw [← hp]
      refine State.positionOf_congr (fun q => ?_) _
      change (put.pos q).binding = _
      rw [hput]
      by_cases hq : q = p
      · subst hq; rw [State.pos_updPos, Position.takes]
      · rw [State.pos_updPos_ne _ hq]
    rw [hu, if_pos hnone]
    refine ⟨State.endTask_task? hlive _, ?_⟩
    have hnotice := State.endTask_notice hlive .done
    rw [hlit, show x.orderTote = t.orderTote from rfl, hpo] at hnotice
    exact hnotice

end Sys2Proof.Machine

/-! PROOFS. The threshold test and what the owners do at an expiry (R30, R31, R50, R99), and the statement O24. -/

namespace Sys2Proof.Machine

/-! ### The flags (R30, R31) -/

/-- What a cold-chain notice carries is the same after an offer of an event. -/
theorem State.offer_frame (s : State) (ev : WatchEvent) : (s.offer ev).windows = s.windows ∧ (s.offer ev).settings = s.settings ∧
    (s.offer ev).totes = s.totes := by
  have hone : ∀ (n : Fin 4) (u : State), (State.offerTo ev n u).windows = u.windows ∧
      (State.offerTo ev n u).settings = u.settings ∧ (State.offerTo ev n u).totes = u.totes := by
    intro n u
    unfold State.offerTo State.noteOwner
    repeat' split
    all_goals exact ⟨rfl, rfl, rfl⟩
  simp [State.offer, hone]

/-- What EXPOSURE_WARN and TOTE_EXPIRED carry rests on windows and settings (R34). -/
theorem exposureInfo_congr {s u : State} (hw : u.windows = s.windows) (hs : u.settings = s.settings) (t : Tote) (limit : Nat) :
    u.exposureInfo t limit = s.exposureInfo t limit := by
  simp only [State.exposureInfo, State.warnOf, State.levelOf, State.levelIn, State.setting, State.item, State.win, hw, hs]

/-- The threshold test of a tote without a limit (R29, R30). -/
theorem State.thresholdTest_of_none {s : State} {id : ToteId} {t : Tote} (ht : s.tote? id = some t)
    (hl : s.limit t.cls = none) : s.thresholdTest id = s := by
  simp only [State.thresholdTest, ht, hl]

/-- The threshold test of a tote with a limit (R30): part (a), then part (b). -/
theorem State.thresholdTest_of_limit {s : State} {id : ToteId} {t : Tote} {limit : Nat} (ht : s.tote? id = some t)
    (hl : s.limit t.cls = some limit) :
    let u := if t.urgent = false ∧ s.warnOf limit ≤ t.account then s.warn t limit else s
    s.thresholdTest id = if t.expired = false ∧ limit ≤ t.account then u.expire t limit else u := by
  simp only [State.thresholdTest, ht, hl, Bool.and_eq_true, Bool.not_eq_true', decide_eq_true_eq]

/-! ### Unlighting at an expiry (R99, R126, log entry 16) -/

/-- The task lit on tote `tote` as the top of window `w`, with its window (R99). -/
def State.litTopAt (s : State) (tote : ToteId) (w : Win) : Option (Win × TaskId) :=
  ((s.win w).lit.bind s.task?).bind fun x => if x.tote = tote ∧ s.top? w = some tote then some (w, x.id) else none

theorem State.litTop_eq (s : State) (tote : ToteId) : s.litTop tote = (s.litTopAt tote .w0).or (s.litTopAt tote .w1) := by
  unfold State.litTop State.litTopAt
  dsimp only
  generalize (s.win .w0).lit.bind s.task? = x0
  generalize (s.win .w1).lit.bind s.task? = x1
  cases x0 with
  | none => cases x1 <;> rfl
  | some x =>
    by_cases h : x.tote = tote ∧ s.top? .w0 = some tote
    · simp [h]
    · cases x1 <;> simp [h]

section
variable {s : State} {t : Tote}

theorem State.litTopAt_eq_none {w : Win} (h : ∀ x ∈ s.tasks, x.tote = t.id → (s.win w).lit ≠ some x.id) :
    s.litTopAt t.id w = none := by
  refine Option.bind_eq_none_iff.2 fun x hx => if_neg ?_
  rintro ⟨hxt, _⟩
  obtain ⟨l, hl, hxl⟩ := Option.bind_eq_some_iff.1 hx
  exact h x (List.mem_of_find?_eq_some hxl) hxt (by rw [hl, State.id_of_task? hxl])

/-- With no task of the tote lit, none is unlit. -/
theorem State.litTop_eq_none (h : ∀ x ∈ s.tasks, x.tote = t.id → s.litAt x.id = none) : s.litTop t.id = none := by
  have hno : ∀ w, s.litTopAt t.id w = none := fun w =>
    State.litTopAt_eq_none fun x hx hxt => State.litAt_eq_none_iff.1 (h x hx hxt) w
  rw [State.litTop_eq, hno, hno]
  rfl

/-- A task lit on the tote at one window is unlit there. -/
theorem State.litTop_eq_some {w : Win} {l : TaskId} {x : Task} (hlit : (s.win w).lit = some l) (hx : s.task? l = some x)
    (hxt : x.tote = t.id) (htop : s.top? w = some t.id) (hother : (s.win w.other).lit ≠ some l)
    (hrest : ∀ y ∈ s.tasks, y.tote = t.id → y.id ≠ l → s.litAt y.id = none) : s.litTop t.id = some (w, l) := by
  have hat : s.litTopAt t.id w = some (w, l) := by
    simp [State.litTopAt, hlit, hx, hxt, htop, State.id_of_task? hx]
  have hno : s.litTopAt t.id w.other = none := by
    refine State.litTopAt_eq_none fun y hy hyt => ?_
    by_cases hyl : y.id = l
    · rw [hyl]; exact hother
    · exact State.litAt_eq_none_iff.1 (hrest y hy hyt hyl) _
  rw [State.litTop_eq]
  cases w with
  | w0 => rw [hat]; rfl
  | w1 => rw [show s.litTopAt t.id .w0 = none from hno, hat]; rfl

end

/-! ### Failing the tasks (R50) -/

/-- The end of a task that is lit nowhere needs no cause of TASK_UNLIT (R54). -/
theorem State.endWith_none_cause (swap : Pos → State → State) (o : TaskOutcome) (c c' : UnlitCause) (id : TaskId) (s : State) :
    s.endWith swap o c none id = s.endWith swap o c' none id := rfl

theorem State.endExpired_none {s : State} {id : TaskId} (h : s.litAt id = none) :
    s.endExpired none id = s.endTask (.failed .expired) id := by
  rw [State.endExpired, State.endTask, h]
  exact State.endWith_none_cause _ _ _ _ _ _

/-- Ends of tasks agree along a list where each agrees on the states that the ends before it can leave. -/
theorem foldl_ends {f g : State → TaskId → State} {P : State → Prop} (hP : ∀ s id, P s → P (f s id)) {ids : List TaskId}
    (h : ∀ s, P s → ∀ id ∈ ids, f s id = g s id) {s : State} (hs : P s) : ids.foldl f s = ids.foldl g s := by
  induction ids generalizing s with
  | nil => rfl
  | cons id ids ih =>
    rw [List.foldl_cons, List.foldl_cons, ← h s hs id (by simp)]
    exact ih (fun u hu i hi => h u hu i (by simp [hi])) (hP s id hs)

theorem Ends.endExpired (was : Option (Win × TaskId)) (id : TaskId) (s : State) : Ends s (s.endExpired was id) :=
  .endWith Ends.swapOut _ _ _ _ _

/-- The end FAILED(EXPIRED) of a task `x` that was lit at window `w` and is unlit already (R126, log entry 16): terminal
notice, event, freed record, lock and TASK_UNLIT, then swap-out and release. -/
def State.failLit (w : Win) (x : Task) (u : State) : State :=
  let p := u.positionOf x.orderTote
  State.releaseTote x.tote (State.swapIfReady State.swapOut p
    ((((State.offerTaskEnd (.failed .expired) x (u.noteOrder
      (.taskEnded (.failed .expired) { x with state := .lit, awaitTimer := none } p))).dropTask x.id).releaseLock p).noteBench
        (.taskUnlit x.id w p x.confirmed .expired)))

/-- The task that was lit fails with its record as it stood when it was unlit. -/
theorem State.endExpired_was {u : State} {w : Win} {l : TaskId} {x y : Task} (hw : (u.win w).lit = none)
    (hy : u.task? l = some y) (hxy : x.lasting = y.lasting) : u.endExpired (some (w, l)) l = u.failLit w x := by
  have hfirst : u.unlightFirst w true = u := by simp only [State.unlightFirst, hw]
  have hrec : y = { x with state := y.state, awaitTimer := y.awaitTimer } :=
    congrArg (fun z : Task => { z with state := y.state, awaitTimer := y.awaitTimer }) hxy.symm
  generalize y.state = st, y.awaitTimer = timer at hrec
  subst hrec
  simp only [State.endExpired, if_true, State.endWith, hy, State.endRecord, hfirst]
  rfl

/-- The other tasks of the tote, lit nowhere, fail as ever. -/
theorem State.endExpired_other {u : State} {w : Win} {l id : TaskId} (hne : id ≠ l) (h : u.litAt id = none) :
    u.endExpired (some (w, l)) id = u.endTask (.failed .expired) id := by
  rw [← State.endExpired_none h, State.endExpired, State.endExpired]
  simp only [if_neg (Ne.symm hne)]

/-- A task that is live no more does not end. -/
theorem State.endExpired_of_none {u : State} {was : Option (Win × TaskId)} {id : TaskId} (h : u.task? id = none) :
    u.endExpired was id = u.endTask (.failed .expired) id := by
  simp only [State.endExpired, State.endTask, State.endWith, h]

theorem mem_ascendingIds {ts : List Task} {id : TaskId} : id ∈ ascendingIds ts ↔ ∃ x ∈ ts, x.id = id := by
  simp only [ascendingIds, List.mem_map, (sortAsc_perm _).mem_iff]
  constructor
  · rintro ⟨n, ⟨x, hx, rfl⟩, rfl⟩
    exact ⟨x, hx, by simp⟩
  · rintro ⟨x, hx, rfl⟩
    exact ⟨x.id.toNat, ⟨x, hx, rfl⟩, by simp⟩

/-- Settles O24: the flags in their order, then the ends of the tasks, each lit nowhere or unlit at once, and the leaving. -/
theorem thresholdTest : Obligations.ThresholdTest := by
  refine ⟨fun s id t ht => ⟨State.thresholdTest_of_none ht, fun limit hl => ?_⟩, fun s t => ?_⟩
  · intro info ev u v
    have hu : u = if t.urgent = false ∧ s.warnOf limit ≤ t.account then s.warn t limit else s := rfl
    rw [State.thresholdTest_of_limit ht hl, ← hu]
    have hinfo : (u.updTote t.id fun x => { x with expired := true }).exposureInfo t limit = info := by
      refine exposureInfo_congr (s := s) ?_ ?_ t limit
      · simp only [hu]
        split
        · exact (State.offer_frame _ _).1
        · rfl
      · simp only [hu]
        split
        · exact (State.offer_frame _ _).2.1
        · rfl
    simp only [State.expire, hinfo]
    rfl
  · intro ids leave
    have hleave : ∀ u : State, u.leaveExpired t = leave u := fun u => by
      simp only [leave, State.leaveExpired]
      cases hst : t.state with
      | inLane l =>
        cases hy : u.tote? t.id with
        | none => simp only [State.laneSendBack, hy, Option.map_none]
        | some y =>
          cases hys : y.state with
          | inLane k =>
            simp only [State.laneSendBack_of_inLane hy hys, Option.map_some, hys]
            unfold State.direct
            split <;> rfl
          | _ => simp only [State.laneSendBack, hy, hys, Option.map_some]
      | _ => rfl
    have hids : ascendingIds ((s.tasksOf t.id).filter fun x => x.state != .waiting) = ids := by
      simp only [ids, State.tasksOf, List.filter_filter, Bool.and_comm]
    have hmem : ∀ id ∈ ids, ∃ x ∈ s.tasks, x.tote = t.id ∧ x.id = id := fun id hid => by
      obtain ⟨x, hx, hxid⟩ := mem_ascendingIds.1 hid
      simp only [List.mem_filter, Bool.and_eq_true, beq_iff_eq] at hx
      exact ⟨x, hx.1, hx.2.1, hxid⟩
    refine ⟨fun hunlit => ?_, fun w l x hlit hx hxt htop hother hrest => ?_⟩
    · rw [State.ownersExpire_eq, hleave, State.failExpired, State.litTop_eq_none hunlit, hids]
      refine congrArg leave (foldl_ends (P := fun u => ∀ id ∈ ids, u.litAt id = none)
        (fun u id hu i hi => (Ends.endExpired none id u).litAt_none (hu i hi)) (fun u hu id hid => ?_) fun id hid => ?_)
      · exact State.endExpired_none (hu id hid)
      · obtain ⟨y, hy, hyt, rfl⟩ := hmem id hid
        exact hunlit y hy hyt
    · intro unlit failLit
      have hxid := State.id_of_task? hx
      have hfirst : s.unlightFirst w true = unlit := State.unlightFirst_of_lit true hlit
      have hends : Ends s unlit := hfirst ▸ .unlightFirst s w true
      rw [State.ownersExpire_eq, hleave, State.failExpired, State.litTop_eq_some hlit hx hxt htop hother hrest, hids]
      refine congrArg leave ?_
      change (s.unlightFirst w true).endAll _ ids = _
      rw [hfirst]
      refine foldl_ends (P := fun u => Ends s u ∧ (u.win w).lit = none ∧ ∀ id ∈ ids, id ≠ l → u.litAt id = none)
        (fun u id hu => ?_) (fun u hu id hid => ?_) ⟨hends, ?_, fun id hid hne => ?_⟩
      · obtain ⟨hs, hw, ho⟩ := hu
        have hstep := Ends.endExpired (some (w, l)) id u
        exact ⟨hs.trans hstep, (hstep.lastEnded hw).1, fun i hi hne => hstep.litAt_none (ho i hi hne)⟩
      · obtain ⟨hs, hw, ho⟩ := hu
        by_cases hl : id = l
        · subst hl
          cases hy : u.task? id with
          | none => rw [if_neg (by simp)]; exact State.endExpired_of_none hy
          | some y =>
            rw [if_pos (by simp)]
            obtain ⟨x', hx', hxy⟩ := hs.tasks id y hy
            obtain rfl := Option.some.inj (hx.symm.trans hx')
            rw [State.endExpired_was hw hy hxy]
            simp only [failLit, State.failLit, hxid]
        · rw [if_neg fun h => hl h.1]
          exact State.endExpired_other hl (ho id hid hl)
      · rw [← hfirst, State.unlightFirst_of_lit true hlit, State.win_updWin]
      · obtain ⟨y, hy, hyt, rfl⟩ := hmem id hid
        exact hends.litAt_none (hrest y hy hyt hne)

end Sys2Proof.Machine

/-! PROOFS. A fetch from its choice to its delivery (R81, R86, R103 to R109), and the statement O40. -/

namespace Sys2Proof.Machine

/-! ### Candidates and their keys (R103 to R105) -/

/-- The task `x` is to go on from tote `id` to a BOUND position that `ok` allows (R103). -/
def State.goes (s : State) (id : ToteId) (ok : Task → Pos → Bool) (x : Task) : Bool :=
  x.tote == id && x.state == .ready && (s.positionOf x.orderTote).any fun p => (s.pos p).state == .bound && ok x p

theorem State.mem_qualifying {s : State} {id : ToteId} {x : Task} {p : Pos} : (x, p) ∈ s.qualifying id ↔
    x ∈ s.tasks ∧ x.tote = id ∧ x.state = .ready ∧ s.positionOf x.orderTote = some p ∧ (s.pos p).state = .bound := by
  have hpos : s.qualifyingPos x = some p ↔ x.state = .ready ∧ s.positionOf x.orderTote = some p ∧ (s.pos p).state = .bound := by
    unfold State.qualifyingPos
    split
    next h =>
      split
      next q hq =>
        simp only [h, hq, Option.some.injEq, true_and]
        split
        next hb => exact ⟨fun hqp => ⟨Option.some.inj hqp, Option.some.inj hqp ▸ hb⟩, fun h => congrArg some h.1⟩
        next hb => simp only [reduceCtorEq, false_iff]; rintro ⟨rfl, hb'⟩; exact hb hb'
      next hq => simp [hq]
    next h => simp [h]
  simp only [State.qualifying, List.mem_filterMap, Option.map_eq_some_iff, Prod.mk.injEq, State.tasksOf, List.mem_filter,
    beq_iff_eq]
  constructor
  · rintro ⟨y, ⟨hy, hyt⟩, q, hq, rfl, rfl⟩
    exact ⟨hy, hyt, hpos.1 hq⟩
  · rintro ⟨hx, hxt, h⟩
    exact ⟨x, ⟨hx, hxt⟩, p, hpos.2 h, rfl, rfl⟩

theorem State.qualifying_any (s : State) (id : ToteId) (ok : Task → Pos → Bool) :
    ((s.qualifying id).any fun c => ok c.1 c.2) = s.tasks.any (s.goes id ok) := by
  refine Bool.eq_iff_iff.2 ?_
  simp only [List.any_eq_true, Prod.exists, State.mem_qualifying, State.goes, Bool.and_eq_true, beq_iff_eq,
    Option.any_eq_true]
  constructor
  · rintro ⟨x, p, ⟨hx, hxt, hr, hp, hb⟩, hok⟩
    exact ⟨x, hx, ⟨hxt, hr⟩, p, hp, hb, hok⟩
  · rintro ⟨x, hx, ⟨hxt, hr⟩, p, hp, hb, hok⟩
    exact ⟨x, p, ⟨hx, hxt, hr, hp, hb⟩, hok⟩

theorem State.candidate_eq (s : State) (t : Tote) :
    s.candidate t = (t.state.inLaneNow && !t.expired && s.tasks.any (s.goes t.id fun _ _ => true)) := by
  have hany : (!(s.qualifying t.id).isEmpty) = s.tasks.any (s.goes t.id fun _ _ => true) := by
    rw [← State.qualifying_any]
    cases s.qualifying t.id <;> simp
  unfold State.candidate
  cases t.state <;> simp [ToteState.inLaneNow, hany]

theorem State.conflicting_eq (s : State) (id : ToteId) :
    s.conflicting id = s.tasks.any (s.goes id fun x p => decide (x.crushClass < (s.pos p).floor)) :=
  s.qualifying_any id fun x p => decide (x.crushClass < (s.pos p).floor)

/-! ### The opportunity (R106, R107) -/

/-- The opportunity of window `w` is open: plain on an empty lift, else preempting (R106, R107). -/
def State.fetchOpen (s : State) (w : Win) : Prop :=
  s.mode = .run ∧ s.held w = false ∧ (s.win w).fetch = none ∧ ((s.win w).lift ≠ [] → s.topFinished w = false ∧
    1 ≤ (s.win w).confirms ∧ (s.win w).lift.length + 1 ≤ if (s.win w).ret.isSome then 3 else 4)

/-- The totes that the opportunity of window `w` may call, the earlier arrived the earlier. -/
def State.fetchPool (s : State) (w : Win) : List Tote :=
  (s.arrival.filterMap s.tote?).filter fun t =>
    s.candidate t && (decide ((s.win w).lift = []) || t.urgent || (t.rush && s.setting 24 == 1))

theorem State.fetchChoice_of_open {s : State} {w : Win} (h : s.fetchOpen w) :
    s.fetchChoice w = firstBy s.rankKey (s.fetchPool w) := by
  obtain ⟨hmode, hheld, hfetch, hlift⟩ := h
  by_cases hempty : (s.win w).lift = []
  · have hplain : s.plainOpen w = true := by simp [State.plainOpen, hempty, hfetch, hheld, hmode]
    rw [State.fetchChoice, if_pos hplain, State.candidates, State.fetchPool]
    simp [hempty]
  · obtain ⟨hfin, hconf, hroom⟩ := hlift hempty
    have hplain : s.plainOpen w = false := by simp [State.plainOpen, hempty]
    have hpre : s.preemptOpen w = true := by
      simp [State.preemptOpen, hempty, hfetch, hheld, hmode, hfin, hconf, Window.liftLimit, hroom]
    rw [State.fetchChoice, hplain, if_neg Bool.false_ne_true, if_pos hpre, State.candidates, State.fetchPool, List.filter_filter]
    simp [hempty, State.preempts, Bool.and_comm]

theorem State.fetchChoice_of_closed {s : State} {w : Win} (h : ¬ s.fetchOpen w) : s.fetchChoice w = none := by
  have hplain : ¬ s.plainOpen w = true := fun hp => h (by
    simp only [State.plainOpen, Bool.and_eq_true, List.isEmpty_iff, Option.isNone_iff_eq_none, Bool.not_eq_true', beq_iff_eq] at hp
    exact ⟨hp.2, hp.1.2, hp.1.1.2, fun hne => absurd hp.1.1.1 hne⟩)
  have hpre : ¬ s.preemptOpen w = true := fun hp => h (by
    simp only [State.preemptOpen, Bool.and_eq_true, Option.isNone_iff_eq_none, Bool.not_eq_true', beq_iff_eq,
      decide_eq_true_eq] at hp
    obtain ⟨⟨⟨⟨⟨⟨_, hfetch⟩, hheld⟩, hmode⟩, hfin⟩, hconf⟩, hroom⟩ := hp
    exact ⟨hmode, hheld, hfetch, fun _ => ⟨hfin, hconf, hroom⟩⟩)
  rw [State.fetchChoice, if_neg hplain, if_neg hpre]

/-- Settles O40: the choice is the first of the pool by the four keys, its issue writes slot, arrival order, record and window,
and the delivery the lift, the tasks and the counter. -/
theorem fetchFromChoiceToDelivery : Obligations.FetchFromChoiceToDelivery := by
  refine ⟨fun s w => ?_, fun s => ?_, fun s settled w f hf hlit => ?_⟩
  · intro goes candidate conflicting headroom key opened pool
    have hkey : s.rankKey = key := by
      funext t
      simp only [State.rankKey, State.conflicting_eq]
      rfl
    have hpool : s.fetchPool w = pool := by
      simp only [State.fetchPool, State.candidate_eq]
      rfl
    refine ⟨fun hopen hne => ?_, fun hnone => ?_, fun t ht => ?_⟩
    · rw [State.fetchChoice_of_open hopen, hpool, Option.isSome_iff_ne_none]
      exact fun h => hne (firstBy_eq_none_iff.1 h)
    · simp only [State.takeFetch, hnone]
    · have hopen : s.fetchOpen w := by
        by_contra hclosed
        cases (State.fetchChoice_of_closed hclosed).symm.trans ht
      refine ⟨hopen, ?_, fun slot hst => ?_⟩
      · rw [State.fetchChoice_of_open hopen, hpool, hkey] at ht
        exact firstBy_spec (n := 4) (fun _ => rfl) ht
      · simp only [State.takeFetch, ht]
        rw [State.issueFetch_of_inLane hst]
        refine congrArg (State.unlight w .preempt) ?_
        have hkind : ∀ lift : List ToteId,
            (if lift.isEmpty then FetchKind.plain else .preempting) = if lift = [] then .plain else .preempting := by
          intro lift
          cases lift <;> rfl
        unfold State.fetchRecords
        rw [hkind]
        unfold State.direct
        split <;> rfl
  · simp only [State.fetchFirst, Bool.and_eq_true]
    rfl
  · intro u v
    have hv : (v.win w).lit = none := by
      have hu : (u.win w).lit = none := (congrArg Window.lit (s.win_updWin w fun x => { x with
        lift := f.tote :: x.lift, fetch := none, confirms := 0, blockTimer := none })).trans hlit
      simp only [v]
      split
      · rw [State.win, (State.offer_frame _ _).1]
        exact hu
      · exact hu
    rw [← State.takeFault_unlit hv]
    have hrec : u.tote? f.tote = (s.tote? f.tote).map fun t => { t with state := .onLift w } :=
      (s.tote?_updTote f.tote f.tote (fun t => { t with state := .onLift w }) fun _ => rfl).trans (if_pos rfl)
    have hoffer : (match u.tote? f.tote with
        | some t => u.offer (toteEvent .totePresented t (some w))
        | none => u) = v := by
      rw [hrec]
      simp only [v]
      cases s.tote? f.tote <;> rfl
    rw [← hoffer]
    simp only [State.deliver, hf]
    rfl

end Sys2Proof.Machine

/-! PROOFS. The steps of the windows' work at the end of an event: what each of them keeps, the work keeps. -/

namespace Sys2Proof.Machine

/-! ### What ends and unlights nothing but lit tasks -/

theorem Ends.unlight (s : State) (w : Win) (c : UnlitCause) : Ends s (s.unlight w c) := by
  unfold State.unlight
  split
  · exact (Ends.unlightFirst s w false).trans (.unlightLast _ _ _ _ _)
  · exact .refl s

theorem Ends.setBlock (s : State) (w : Win) : Ends s (s.setBlock w) := by
  unfold State.setBlock
  split
  · split
    · exact .refl s
    · split
      · exact .of_eq (congrArg State.windows (s.markFinished_totes w) :) (congrArg State.tasks (s.markFinished_totes w) :)
      · exact .updWin s w _ rfl
  · exact .updWin s w _ rfl

theorem Ends.fetchRecords (s : State) (w : Win) (id : ToteId) (slot : Slot) : Ends s (s.fetchRecords w id slot) := by
  refine ⟨fun v => .inl ?_, fun _ y hy => ⟨y, hy, rfl⟩⟩
  by_cases h : v = w
  · subst h
    rw [State.fetchRecords_win]
    rfl
  · rw [State.fetchRecords_win_ne _ h]

theorem Ends.issueFetch (s : State) (w : Win) (t : Tote) : Ends s (s.issueFetch w t) := by
  cases hst : t.state with
  | inLane slot =>
    rw [State.issueFetch_of_inLane hst]
    exact (Ends.direct s (.fetch t.id slot w)).trans ((Ends.fetchRecords _ w t.id slot).trans (.unlight _ w _))
  | _ => simp only [State.issueFetch, hst]; exact .refl s

/-! ### The steps of the work (R68, R92 to R94, R108, R116) -/

/-- One step of the work. -/
inductive WorkStep (s : State) : State → Prop
  | free (n : Nat) : WorkStep s { s with free := n }
  | swap (p : Pos) (h : s.swapOwed p = true) : WorkStep s (s.swapOut p)
  | finish (w : Win) : WorkStep s (s.finishTest w)
  | send (w : Win) (h : s.sendBackDue w = true) : WorkStep s (s.sendBack w)
  | choose (w : Win) (c : Task × Pos) (h : s.choice w = some c) : WorkStep s (s.light w c)
  | block (w : Win) : WorkStep s (s.setBlock w)
  | fetch (w : Win) (t : Tote) (h : s.fetchChoice w = some t) : WorkStep s (s.issueFetch w t)

/-- Any number of steps. -/
def WorkSteps : State → State → Prop := Relation.ReflTransGen WorkStep

@[refl] theorem WorkSteps.refl {s : State} : WorkSteps s s := Relation.ReflTransGen.refl

@[trans] theorem WorkSteps.trans {s t u : State} (h : WorkSteps s t) (k : WorkSteps t u) : WorkSteps s u :=
  Relation.ReflTransGen.trans h k

theorem WorkSteps.single {s t : State} (h : WorkStep s t) : WorkSteps s t := Relation.ReflTransGen.single h

/-- What every step keeps, any number of them keep. -/
theorem WorkSteps.keep {P : State → Prop} (hstep : ∀ {s t}, WorkStep s t → P s → P t) {s t : State} (h : WorkSteps s t)
    (hs : P s) : P t := by
  induction h with
  | refl => exact hs
  | tail _ hlast ih => exact hstep hlast ih

section
variable (s : State)

theorem WorkSteps.eitherOrder {f g : State → State} (hf : ∀ s, WorkSteps s (f s)) (hg : ∀ s, WorkSteps s (g s)) :
    WorkSteps s (s.eitherOrder f g) := by
  unfold State.eitherOrder
  split
  · exact (WorkSteps.single (.free _)).trans ((hf _).trans (hg _))
  · exact (WorkSteps.single (.free _)).trans ((hg _).trans (hf _))

theorem WorkSteps.swapAll : WorkSteps s s.swapAll := by
  unfold State.swapAll
  induction allPos generalizing s with
  | nil => exact .refl
  | cons p ps ih =>
    refine WorkSteps.trans ?_ (ih _)
    unfold State.swapAt
    split
    next h => exact .single (.swap p h)
    next => exact .refl

theorem WorkSteps.sendIfDue (w : Win) : WorkSteps s (s.sendIfDue w) := by
  unfold State.sendIfDue
  split
  next h => exact .single (.send w h)
  next => exact .refl

theorem WorkSteps.sendBoth : WorkSteps s s.sendBoth := by
  unfold State.sendBoth
  split
  · exact .eitherOrder s (fun s => .sendIfDue s .w0) fun s => .sendIfDue s .w1
  · exact (WorkSteps.sendIfDue s .w0).trans (.sendIfDue _ .w1)

theorem WorkSteps.finishBoth : WorkSteps s s.finishBoth :=
  ((WorkSteps.single (.finish .w0)).trans (.single (.finish .w1))).trans (.sendBoth _)

theorem WorkSteps.chooseAt (w : Win) : WorkSteps s (s.chooseAt w) := by
  unfold State.chooseAt
  split
  next c h => exact .single (.choose w c h)
  next => exact .refl

theorem WorkSteps.chooseBoth : WorkSteps s s.chooseBoth := by
  unfold State.chooseBoth
  split
  · split
    · exact (WorkSteps.chooseAt s _).trans (.chooseAt _ _)
    · exact .eitherOrder s (fun s => .chooseAt s .w0) fun s => .chooseAt s .w1
  · exact (WorkSteps.chooseAt s .w0).trans (.chooseAt _ .w1)

theorem WorkSteps.workWindows : WorkSteps s s.workWindows :=
  (((WorkSteps.swapAll s).trans (.finishBoth _)).trans (.chooseBoth _)).trans
    ((WorkSteps.single (.block .w0)).trans (.single (.block .w1)))

theorem WorkSteps.takeFetch (w : Win) : WorkSteps s (s.takeFetch w) := by
  unfold State.takeFetch
  split
  next t h => exact .single (.fetch w t h)
  next => exact .refl

theorem WorkSteps.fetchFirst : WorkSteps s s.fetchFirst := by
  unfold State.fetchFirst
  split
  · exact .eitherOrder s (fun s => .takeFetch s .w0) fun s => .takeFetch s .w1
  · exact (WorkSteps.takeFetch s .w0).trans (.takeFetch _ .w1)

theorem WorkSteps.settleRounds (n : Nat) : WorkSteps s (s.settleRounds n) := by
  induction n generalizing s with
  | zero => exact .refl
  | succ n ih =>
    unfold State.settleRounds
    dsimp only
    split
    · refine (WorkSteps.workWindows s).trans (WorkSteps.trans ?_ (ih _))
      split
      · exact .refl
      · exact .fetchFirst _
    · exact .workWindows s

theorem WorkSteps.settle : WorkSteps s s.settle := .settleRounds s 16

end

/-- A step is made of moves. -/
theorem WorkStep.moves {s t : State} (h : WorkStep s t) : Moves s t := by
  cases h with
  | free n => exact .free s n
  | swap p h => exact .swapOut p s
  | finish w => exact .finishTest s w
  | send w h =>
    have hsend := Moves.sendIfDue s w
    rwa [State.sendIfDue, if_pos h] at hsend
  | choose w c h => exact .light s w c
  | block w => exact .setBlock s w
  | fetch w t h =>
    have hfetch := Moves.takeFetch s w
    rwa [State.takeFetch, h] at hfetch

/-- A step that is no choice unlights and ends tasks only. -/
theorem WorkStep.ends_or_choice {s t : State} (h : WorkStep s t) :
    Ends s t ∨ ∃ w c, s.choice w = some c ∧ t = s.light w c := by
  cases h with
  | free n => exact .inl (.of_eq rfl rfl)
  | swap p h => exact .inl (.swapOut p s)
  | finish w => exact .inl (.finishTest s w)
  | send w h => exact .inl (.sendBack s w)
  | choose w c h => exact .inr ⟨w, c, h, rfl⟩
  | block w => exact .inl (.setBlock s w)
  | fetch w t h => exact .inl (.issueFetch s w t)

/-- Where nothing is lit, the ends and unlightings of tasks leave it so. -/
theorem Ends.dark {s t : State} (h : Ends s t) {w : Win} (hw : (s.win w).Dark) : (t.win w).Dark := by
  obtain hglow | ⟨_, hdark⟩ := h.windows w
  · exact Window.dark_of_glow hglow hw
  · exact hdark

/-- Nothing comes to be lit at a held window (R116). -/
theorem State.settle_dark {s : State} {w : Win} (hheld : s.held w = true) (hdark : (s.win w).Dark) :
    (s.settle.win w).Dark := by
  refine ((WorkSteps.settle s).keep (P := fun u => u.held w = true ∧ (u.win w).Dark) (fun {u v} h hu => ?_)
    ⟨hheld, hdark⟩).2
  refine ⟨(congrArg Holds.any (h.moves.frame.holds w)).trans hu.1, ?_⟩
  obtain hends | ⟨x, c, hc, rfl⟩ := h.ends_or_choice
  · exact hends.dark hu.2
  · by_cases hx : w = x
    · subst hx
      have hch : u.chooses w = true := by
        by_contra hno
        rw [State.choice, if_neg hno] at hc
        cases hc
      have hnot : u.held w = false := ((u.chooses_iff w).1 hch).2.2.1
      exact absurd hu.1 (by rw [hnot]; decide)
    · rw [State.light_win_ne u c hx]
      exact hu.2

end Sys2Proof.Machine

/-! PROOFS. The hold sources (R91, R138 to R141), and the statement O50. -/

namespace Sys2Proof.Machine

/-! ### One update at a set of windows -/

/-- The windows of a set, each with its record updated by `f`. -/
def State.updWins (ws : Win → Bool) (f : Window → Window) (s : State) : State :=
  let one (w : Win) (s : State) : State := if ws w then s.updWin w f else s
  one .w1 (one .w0 s)

theorem State.updWins_win (ws : Win → Bool) (f : Window → Window) (s : State) (w : Win) :
    (s.updWins ws f).win w = if ws w then f (s.win w) else s.win w := by
  have hsame : ∀ (v : Win) (u : State), (if ws v then u.updWin v f else u).win v = if ws v then f (u.win v) else u.win v := by
    intro v u
    split
    · exact u.win_updWin v f
    · rfl
  have hother : ∀ (v x : Win) (u : State), x ≠ v → (if ws v then u.updWin v f else u).win x = u.win x := by
    intro v x u hne
    split
    · exact u.win_updWin_ne hne f
    · rfl
  cases w with
  | w0 => exact (hother .w1 .w0 _ (by decide)).trans (hsame .w0 s)
  | w1 => rw [← hother .w0 .w1 s (by decide)]; exact hsame .w1 _

/-- Two updates at one set of windows are one. -/
theorem State.updWins_updWins (ws : Win → Bool) (f g : Window → Window) (s : State) :
    (s.updWins ws f).updWins ws g = s.updWins ws fun x => g (f x) := by
  unfold State.updWins
  dsimp only
  cases ws .w0 <;> cases ws .w1 <;> rfl

theorem State.dropFaults_eq (s : State) (ws : WinSet) : s.dropFaults ws =
    s.updWins ws.has fun x => { x with holds := { x.holds with fault := false }, faultCause := none } := rfl

/-! ### The unlighting of newly held windows (R140) -/

section
variable (s : State)

theorem State.unlight_win_ne (c : UnlitCause) {v w : Win} (h : w ≠ v) : (s.unlight v c).win w = s.win w := by
  unfold State.unlight
  split
  next t _ =>
    have hlast : ∀ (u : State) (p : Option Pos), (u.unlightLast v p t c).win w = u.win w := fun u p => by cases p <;> rfl
    rw [hlast]
    unfold State.unlightFirst
    split
    · exact State.win_updWin_ne _ h _
    · rfl
  next => rfl

/-- The lit task of a window goes out with its timers (R126). -/
theorem State.unlight_dark {s : State} {w : Win} {id : TaskId} (c : UnlitCause) (hlit : (s.win w).lit = some id)
    (ht : (s.task? id).isSome = true) : ((s.unlight w c).win w).Dark := by
  obtain ⟨t, ht⟩ := Option.isSome_iff_exists.1 ht
  have hlast : ∀ (u : State) (p : Option Pos), (u.unlightLast w p t c).win w = u.win w := fun u p => by cases p <;> rfl
  simp only [State.unlight, hlit, Option.bind_some, ht]
  rw [hlast, State.unlightFirst_of_lit false hlit, State.win_updWin]
  exact ⟨rfl, rfl, rfl⟩

theorem State.unlight_task?_isSome (w : Win) (c : UnlitCause) (id : TaskId) :
    ((s.unlight w c).task? id).isSome = (s.task? id).isSome := by
  unfold State.unlight
  split
  next t _ =>
    have hlast : ∀ (u : State) (p : Option Pos), (u.unlightLast w p t c).task? id = u.task? id := fun u p => by cases p <;> rfl
    rw [hlast]
    unfold State.unlightFirst
    split
    next l _ =>
      change ((s.updTask l fun t => { t with state := .active }).task? id).isSome = _
      rw [s.task?_updTask l id _ (by exact fun _ => rfl)]
      split <;> simp
    next => rfl
  next => rfl

end

/-- A window newly held whose lit task is live goes dark. -/
theorem State.unlightHeld_dark {before after s : State} {w : Win} {id : TaskId} (hnew : before.held w = false)
    (hheld : after.held w = true) (hlit : (s.win w).lit = some id) (ht : (s.task? id).isSome = true) :
    ((State.unlightHeld before after s).win w).Dark := by
  let one (v : Win) (u : State) : State := if !before.held v && after.held v then u.unlight v .hold else u
  have hone : ∀ u : State, (u.win w).lit = some id → (u.task? id).isSome = true → ((one w u).win w).Dark := by
    intro u hu hut
    simp only [one, hnew, hheld, Bool.not_false, Bool.and_self, if_true]
    exact State.unlight_dark .hold hu hut
  have hother : ∀ (v : Win) (u : State), w ≠ v → (one v u).win w = u.win w ∧ ((one v u).task? id).isSome = (u.task? id).isSome := by
    intro v u hne
    simp only [one]
    split
    · exact ⟨u.unlight_win_ne .hold hne, u.unlight_task?_isSome v .hold id⟩
    · exact ⟨rfl, rfl⟩
  have hfirst : ∀ (v : Win) (u : State), w ≠ v → (u.win w).lit = some id → (u.task? id).isSome = true →
      ((one v (one w u)).win w).Dark ∧ ((one w (one v u)).win w).Dark := by
    intro v u hne hu hut
    obtain ⟨hwin, htask⟩ := hother v u hne
    refine ⟨?_, hone _ (hwin ▸ hu) (htask ▸ hut)⟩
    rw [(hother v _ hne).1]
    exact hone u hu hut
  have horder : ((one .w1 (one .w0 s)).win w).Dark ∧ ((s.bothWays one).win w).Dark := by
    unfold State.bothWays State.eitherOrder
    cases w with
    | w0 =>
      refine ⟨(hfirst .w1 s (by decide) hlit ht).1, ?_⟩
      split
      · exact (hfirst .w1 { s with free := s.free + 1 } (by decide) hlit ht).1
      · exact (hfirst .w1 { s with free := s.free + 1 } (by decide) hlit ht).2
    | w1 =>
      refine ⟨(hfirst .w0 s (by decide) hlit ht).2, ?_⟩
      split
      · exact (hfirst .w0 { s with free := s.free + 1 } (by decide) hlit ht).2
      · exact (hfirst .w0 { s with free := s.free + 1 } (by decide) hlit ht).1
  unfold State.unlightHeld
  dsimp only
  split
  · exact horder.2
  · exact horder.1

/-! ### A change of the sources (R138 to R141) -/

section
variable (s : State) (ws : WinSet) (f : Holds → Holds)

theorem State.changeHolds_eq : s.changeHolds ws f =
    State.unlightHeld s (s.updWins ws.has fun x => { x with holds := f x.holds })
      (s.updWins ws.has fun x => { x with holds := f x.holds }) := rfl

/-- The sources and the causes after a change, which the unlighting leaves as they are. -/
theorem State.changeHolds_win (w : Win) :
    ((s.changeHolds ws f).win w).holds = (if ws.has w then f (s.win w).holds else (s.win w).holds) ∧
      ((s.changeHolds ws f).win w).faultCause = (s.win w).faultCause := by
  have hframe := (Moves.unlightHeld (s.updWins ws.has fun x => { x with holds := f x.holds }) s
    (s.updWins ws.has fun x => { x with holds := f x.holds })).frame
  have hwin := s.updWins_win ws.has (fun x => { x with holds := f x.holds }) w
  constructor
  · refine (hframe.holds w).trans ((congrArg Window.holds hwin).trans ?_)
    split <;> rfl
  · refine (hframe.faultCause w).trans ((congrArg Window.faultCause hwin).trans ?_)
    split <;> rfl

/-- A release holds no window anew. -/
theorem State.changeHolds_of_release (hf : ∀ h, (f h).any = true → h.any = true) :
    s.changeHolds ws f = s.updWins ws.has fun x => { x with holds := f x.holds } := by
  rw [State.changeHolds_eq]
  refine State.unlightHeld_none (after := s.updWins ws.has fun x => { x with holds := f x.holds })
    fun w hnew hheld => absurd hheld ?_
  rw [State.held, State.updWins_win]
  split
  · exact fun h => absurd (hf _ h) (by rw [← State.held, hnew]; decide)
  · rw [← State.held, hnew]
    decide

/-- A window that a source newly holds goes dark, and the work at the end of the event leaves it so. -/
theorem State.changeHolds_settle_dark {s : State} {ws : WinSet} {f : Holds → Holds} {w : Win} {id : TaskId}
    (hlit : (s.win w).lit = some id) (ht : (s.task? id).isSome = true) (hnew : s.held w = false) (hw : ws.has w = true)
    (hf : (f (s.win w).holds).any = true) : ((s.changeHolds ws f).settle.win w).Dark := by
  have hheld : ((s.changeHolds ws f).win w).holds = f (s.win w).holds := by rw [(s.changeHolds_win ws f w).1, if_pos hw]
  have hrec : (s.updWins ws.has fun x => { x with holds := f x.holds }).win w =
      { s.win w with holds := f (s.win w).holds } := by rw [State.updWins_win, if_pos hw]
  refine State.settle_dark (by rw [State.held, hheld]; exact hf) ?_
  rw [State.changeHolds_eq]
  refine State.unlightHeld_dark (after := s.updWins ws.has fun x => { x with holds := f x.holds }) hnew ?_ ?_ ?_ (id := id)
  · rw [State.held, hrec]
    exact hf
  · rw [hrec]
    exact hlit
  · have htasks : (s.updWins ws.has fun x => { x with holds := f x.holds }).tasks = s.tasks := by
      unfold State.updWins
      dsimp only
      split <;> split <;> rfl
    rwa [State.task?, htasks]

/-- What the work after a change of the sources leaves: the sources, the causes, the counters, the records' accounts. -/
theorem State.changeHolds_settle (w : Win) :
    ((s.changeHolds ws f).settle.win w).holds = (if ws.has w then f (s.win w).holds else (s.win w).holds) ∧
      ((s.changeHolds ws f).settle.win w).faultCause = (s.win w).faultCause := by
  have hframe := (Moves.settle (s.changeHolds ws f)).frame
  obtain ⟨hholds, hcause⟩ := s.changeHolds_win ws f w
  exact ⟨(hframe.holds w).trans hholds, (hframe.faultCause w).trans hcause⟩

end

/-! ### HOLD, RESUME and the pedal -/

/-- What RESUME on link `l` writes at a window (R139). -/
def Window.resumed (l : Link) (x : Window) : Window :=
  if l = .bench then { x with holds := { x.holds with bench := false, fault := false }, faultCause := none }
  else { x with holds := Holds.setLink l false x.holds }

/-- The windows named by a request's byte (R173). -/
theorem WinSet.has_of_bits (b : Byte) : (WinSet.has ⟨b.getLsbD 0, b.getLsbD 1⟩) = fun w : Win => b.getLsbD w.num := by
  funext w
  cases w <;> rfl

theorem winSetOf_of_range {b : Byte} (h1 : 1 ≤ b.toNat) (h3 : b.toNat ≤ 3) :
    winSetOf b = some ⟨b.getLsbD 0, b.getLsbD 1⟩ := by rw [winSetOf_eq, if_pos ⟨h1, h3⟩]

theorem winSetOf_of_outside {b : Byte} (h : b.toNat = 0 ∨ 3 < b.toNat) : winSetOf b = none := by
  rw [winSetOf_eq, if_neg]
  omega

section
variable {s : State} {r : Req} {windows : Byte} (h : s.listens r.link = true)
include h

theorem exec_hold_range (hw : windows.toNat = 0 ∨ 3 < windows.toNat) :
    exec (.hold r windows) s = .next (s.refusal r .hold .range) := by
  refine (exec_request rfl s).trans (congrArg Host.Outcome.next ?_)
  refine (serve_outcome h (by cases r.link <;> rfl) _).trans ?_
  simp only [requestOwner, ownHold, winSetOf_of_outside hw]
  rfl

theorem exec_resume_range (hw : windows.toNat = 0 ∨ 3 < windows.toNat) :
    exec (.resume r windows) s = .next (s.refusal r .resume .range) := by
  refine (exec_request rfl s).trans (congrArg Host.Outcome.next ?_)
  refine (serve_outcome h (by cases r.link <;> rfl) _).trans ?_
  simp only [requestOwner, ownResume, winSetOf_of_outside hw]
  rfl

variable (h1 : 1 ≤ windows.toNat) (h3 : windows.toNat ≤ 3)
include h1 h3

theorem exec_hold : exec (.hold r windows) s = .next (((s.heard r.link).changeHolds ⟨windows.getLsbD 0, windows.getLsbD 1⟩
    (Holds.setLink r.link true)).settle.answer r .hold .ok) := by
  refine (exec_request rfl s).trans (congrArg Host.Outcome.next ?_)
  refine (serve_outcome h (by cases r.link <;> rfl) _).trans ?_
  simp only [requestOwner, ownHold, winSetOf_of_range h1 h3]
  rfl

theorem exec_resume : exec (.resume r windows) s = .next (((s.heard r.link).updWins (fun w => windows.getLsbD w.num)
    (Window.resumed r.link)).settle.answer r .resume .ok) := by
  refine (exec_request rfl s).trans (congrArg Host.Outcome.next ?_)
  refine (serve_outcome h (by cases r.link <;> rfl) _).trans ?_
  simp only [requestOwner, ownResume, winSetOf_of_range h1 h3]
  have hrelease : ∀ x : Holds, (Holds.setLink r.link false x).any = true → x.any = true := fun x => by
    cases r.link <;> simp [Holds.setLink, Holds.any] <;> tauto
  rw [State.changeHolds_of_release _ _ _ hrelease, State.dropFaults_eq, State.updWins_updWins, WinSet.has_of_bits]
  cases r.link <;> rfl

end

theorem exec_holdLineAsserted {s : State} (hphase : s.phase = .loading ∨ s.phase = .running) (hline : s.holdLine = false) :
    exec .holdLineAsserted s = .next ((({ s with holdLine := true }).changeHolds bothWindows fun h =>
      { h with line := true }).settle.conclude) := by
  change Host.Outcome.next _ = _
  rw [if_pos ⟨hphase, hline⟩]
  rfl

theorem exec_holdLineReleased {s : State} (hphase : s.phase = .loading ∨ s.phase = .running) (hline : s.holdLine = true) :
    exec .holdLineReleased s = .next ((({ s with holdLine := false }).updWins (fun _ => true) fun x =>
      { x with holds := { x.holds with line := false } }).settle.conclude) := by
  change Host.Outcome.next _ = _
  rw [if_pos ⟨hphase, hline⟩, State.setHoldLine, State.changeHolds_of_release _ _ _ fun x => by
    simp [Holds.any]; tauto]
  refine congrArg (fun ws : Win → Bool => Host.Outcome.next (State.conclude (State.settle (State.updWins ws _ _)))) ?_
  funext w
  cases w <;> rfl

/-- What an event that ends with the work of the windows shows of the state before the work. -/
theorem State.settle_shows {t u : State} (h : t.tables = u.settle.tables) :
    t.holdLine = u.holdLine ∧ t.mode = u.mode ∧ t.counters = u.counters ∧
      t.totes.map Tote.charged = u.totes.map Tote.charged ∧ ∀ w : Win, t.win w = u.settle.win w := by
  have hbase := settle_base u
  have hcounters := settle_counters u
  have hcharged : u.settle.totes.map Tote.charged = u.totes.map Tote.charged := settle_charged u
  generalize u.settle = v at *
  refine ⟨?_, ?_, ?_, ?_, fun w => ?_⟩
  · exact (congrArg State.holdLine h :).trans (congrArg Base.holdLine hbase :)
  · exact (congrArg State.mode h :).trans (congrArg Base.mode hbase :)
  · exact (congrArg State.counters h :).trans hcounters
  · exact (congrArg (fun x : State => x.totes.map Tote.charged) h :).trans hcharged
  · exact (congrArg (fun x : State => x.win w) h :)

section
variable (s : State) (ws : Win → Bool) (f : Window → Window)

theorem State.updWins_windows : s.updWins ws f = { s with windows := (s.updWins ws f).windows } := by
  unfold State.updWins
  dsimp only
  split <;> split <;> rfl

/-- What the work after an update of windows leaves: the sources and the causes as written. -/
theorem State.updWins_settle (w : Win) :
    ((s.updWins ws f).settle.win w).holds = (if ws w then (f (s.win w)).holds else (s.win w).holds) ∧
      ((s.updWins ws f).settle.win w).faultCause = (if ws w then (f (s.win w)).faultCause else (s.win w).faultCause) := by
  have hframe := (Moves.settle (s.updWins ws f)).frame
  have hwin := s.updWins_win ws f w
  constructor
  · refine (hframe.holds w).trans ((congrArg Window.holds hwin).trans ?_)
    split <;> rfl
  · refine (hframe.faultCause w).trans ((congrArg Window.faultCause hwin).trans ?_)
    split <;> rfl

end

/-- What an event shows that ends with the work after an update of windows. -/
theorem State.updWins_settle_shows {s t : State} {ws : Win → Bool} {f : Window → Window}
    (h : t.tables = (s.updWins ws f).settle.tables) :
    t.holdLine = s.holdLine ∧ t.mode = s.mode ∧ t.counters = s.counters ∧
      t.totes.map Tote.charged = s.totes.map Tote.charged ∧ ∀ w : Win,
        (t.win w).holds = (if ws w then (f (s.win w)).holds else (s.win w).holds) ∧
        (t.win w).faultCause = (if ws w then (f (s.win w)).faultCause else (s.win w).faultCause) := by
  have hwins := s.updWins_windows ws f
  obtain ⟨hline, hmode, hcounters, hcharged, hwin⟩ := State.settle_shows h
  refine ⟨hline.trans (congrArg State.holdLine hwins :), hmode.trans (congrArg State.mode hwins :),
    hcounters.trans (congrArg State.counters hwins :), hcharged.trans (congrArg State.charged hwins :), fun w => ?_⟩
  rw [hwin]
  exact s.updWins_settle ws f w

/-- What an event shows that ends with the work after a change of the sources, with what is lit no more. -/
theorem State.changeHolds_settle_shows {s t : State} {ws : WinSet} {f : Holds → Holds}
    (h : t.tables = (s.changeHolds ws f).settle.tables) :
    t.holdLine = s.holdLine ∧ t.mode = s.mode ∧ t.counters = s.counters ∧
      t.totes.map Tote.charged = s.totes.map Tote.charged ∧ ∀ w : Win,
        (t.win w).holds = (if ws.has w then f (s.win w).holds else (s.win w).holds) ∧
        (t.win w).faultCause = (s.win w).faultCause ∧
        ((∀ x, (f x).any = true) → ∀ id : TaskId, (s.win w).lit = some id → ws.has w = true → s.held w = false →
          (s.task? id).isSome = true → (t.win w).Dark) := by
  obtain ⟨hline, hmode, hcounters, hcharged, hwin⟩ := State.settle_shows h
  have hbase := changeHolds_base ws f s
  refine ⟨hline.trans (congrArg Base.holdLine hbase :), hmode.trans (congrArg Base.mode hbase :),
    hcounters.trans (changeHolds_counters ws f s), hcharged.trans (changeHolds_charged ws f s), fun w => ?_⟩
  obtain ⟨hholds, hcause⟩ := s.changeHolds_settle ws f w
  rw [hwin]
  exact ⟨hholds, hcause, fun hf id hlit hw hfree ht => State.changeHolds_settle_dark hlit ht hfree hw (hf _)⟩

/-- Settles O50: the sources are written at the windows named, a newly held window is unlit and the work of the windows
leaves it dark. -/
theorem holdSources : Obligations.HoldSources := by
  have hboth : bothWindows.has = fun _ => true := by
    funext w
    cases w <;> rfl
  refine ⟨fun r windows s h => ⟨fun hw => ⟨exec_hold_range h hw, exec_resume_range h hw⟩, fun h1 h3 => ?_⟩,
    fun s hphase => ⟨fun hline => ?_, fun hline => ?_⟩, fun s => ?_⟩
  · intro named set
    have hset : ∀ b, Holds.setLink r.link b = set r.link b := fun b => by funext x; cases r.link <;> rfl
    refine ⟨⟨_, exec_hold h h1 h3, ?_⟩, ⟨_, exec_resume h h1 h3, ?_⟩⟩
    · obtain ⟨_, hmode, hcounters, hcharged, hwin⟩ :=
        State.changeHolds_settle_shows (s := s.heard r.link) (State.answer_tables _ r .hold .ok)
      refine ⟨hcounters, hcharged, hmode, fun w => ?_⟩
      obtain ⟨hholds, hcause, hdark⟩ := hwin w
      rw [WinSet.has_of_bits] at hholds hdark
      refine ⟨hset true ▸ hholds, hcause, fun id hlit hw hfree ht => hdark (fun x => ?_) id hlit hw hfree ht⟩
      cases r.link <;> simp [Holds.setLink, Holds.any]
    · obtain ⟨_, hmode, hcounters, hcharged, hwin⟩ :=
        State.updWins_settle_shows (s := s.heard r.link) (State.answer_tables _ r .resume .ok)
      refine ⟨hcounters, hcharged, hmode, fun w => ?_⟩
      obtain ⟨hholds, hcause⟩ := hwin w
      refine ⟨hholds.trans ?_, hcause.trans ?_⟩
      · cases r.link <;> rfl
      · change (if named w = true then _ else _) = _
        cases named w <;> cases r.link <;> rfl
  · obtain ⟨hholdLine, _, hcounters, hcharged, hwin⟩ := State.changeHolds_settle_shows (s := { s with holdLine := true })
      (ws := bothWindows) (f := fun h => { h with line := true }) (State.conclude_tables _)
    refine ⟨_, exec_holdLineAsserted hphase hline, hholdLine, hcounters, hcharged, fun w => ?_⟩
    obtain ⟨hholds, _, hdark⟩ := hwin w
    rw [hboth] at hholds hdark
    refine ⟨hholds, fun id hlit hfree ht => hdark (fun x => ?_) id hlit rfl hfree ht⟩
    simp [Holds.any]
  · obtain ⟨hholdLine, _, hcounters, hcharged, hwin⟩ := State.updWins_settle_shows (s := { s with holdLine := false })
      (ws := fun _ => true) (f := fun x => { x with holds := { x.holds with line := false } }) (State.conclude_tables _)
    exact ⟨_, exec_holdLineReleased hphase hline, hholdLine, hcounters, hcharged, fun w => (hwin w).1⟩
  · intro change unlit set
    have hunlit : ∀ (u : State) (ws : Win → Bool) (f : Holds → Holds), (∀ w, u.win w = s.win w) → u.free = s.free →
        State.unlightHeld u (u.updWins ws fun x => { x with holds := f x.holds })
          (u.updWins ws fun x => { x with holds := f x.holds }) =
        unlit (change ws (fun x => { x with holds := f x.holds }) u) := by
      intro u ws f hwin hfree
      have hchange : change ws (fun x => { x with holds := f x.holds }) u = u.updWins ws fun x => { x with holds := f x.holds } := rfl
      have hlit : ∀ w, ((u.updWins ws fun x => { x with holds := f x.holds }).win w).lit = (s.win w).lit := fun w => by
        rw [State.updWins_win, hwin]
        split <;> rfl
      have hnumber : (u.updWins ws fun x => { x with holds := f x.holds }).free = s.free :=
        (congrArg State.free (u.updWins_windows ws _) :).trans hfree
      rw [hchange]
      generalize (u.updWins ws fun x => { x with holds := f x.holds }) = v at *
      simp only [State.unlightHeld, unlit, hlit, State.bothWays, State.eitherOrder, hnumber, State.held, hwin]
      rfl
    refine ⟨fun r windows h h1 h3 => ?_, fun hphase => ⟨fun hline => ?_, fun hline => ?_⟩⟩
    · have hset : ∀ b, Holds.setLink r.link b = set r.link b := fun b => by funext x; cases r.link <;> rfl
      refine ⟨(exec_hold h h1 h3).trans ?_, (exec_resume h h1 h3).trans ?_⟩
      · refine congrArg (fun u : State => Host.Outcome.next (u.settle.answer r .hold .ok)) ?_
        rw [State.changeHolds_eq, WinSet.has_of_bits, hset]
        exact hunlit (s.heard r.link) _ (set r.link true) (fun _ => rfl) rfl
      · refine congrArg (fun u : State => Host.Outcome.next (u.settle.answer r .resume .ok)) ?_
        rw [← hset]
        rfl
    · refine (exec_holdLineAsserted hphase hline).trans ?_
      refine congrArg (fun u : State => Host.Outcome.next u.settle.conclude) ?_
      rw [State.changeHolds_eq, hboth]
      exact hunlit { s with holdLine := true } (fun _ => true) (fun h => { h with line := true }) (fun _ => rfl) rfl
    · refine (exec_holdLineReleased hphase hline).trans ?_
      refine congrArg (fun u : State => Host.Outcome.next u.settle.conclude) ?_
      rfl

end Sys2Proof.Machine

/-! PROOFS. What the work of the windows can leave due (R92, R126), and the refutation of O27: two task records of one id. -/

namespace Sys2Proof.Machine

/-- A tote on the lift of `w`. -/
def liftedTote (no : Nat) (id : ToteId) (w : Win) : Tote :=
  { recNo := no, id := id, cls := .chilled, state := .onLift w, account := 0, carry := 0, urgent := false, expired := false,
    rush := false, finished := false, orphanTimer := none, laneReturnTimer := none }

/-- A task of four units. -/
def plainTask (no : Nat) (id : TaskId) (tote : ToteId) (orderTote : OrderToteId) (state : TaskState) : Task :=
  { recNo := no, id := id, tote := tote, orderTote := orderTote, sku := 5, cls := .chilled, quantity := 4, confirmed := 0,
    unitVolume := 2, crushClass := 1, state := state, awaitTimer := none, crush := false, overdue := false, overcount := false }

/-- A position with an order tote. -/
def boundPosition (state : PosState) (orderTote : OrderToteId) (lock : Option Win) (q : Position) : Position :=
  { q with state := state, binding := some ⟨orderTote, .chilled, 50⟩, present := true, lock := lock }

/-- Task 5 lit at W0 and task 6 at W1, which has a return in flight; three records have the id 5 and two the id 6, one of
each going to a CLOSING position. -/
def twinTasks : State :=
  { ((((((State.reset.updWin .w0 fun x => { x with lift := [7], lit := some 5 }).updWin .w1 fun x =>
        { x with lift := [8], lit := some 6, ret := some ⟨9, 45000⟩ }).updPos 0
      (boundPosition .bound 20 (some .w0))).updPos 1 (boundPosition .bound 21 none)).updPos 2
      (boundPosition .closing 22 (some .w1))).updPos 3 (boundPosition .closing 23 none)) with
    totes := [liftedTote 0 7 .w0, liftedTote 1 8 .w1]
    tasks := [plainTask 0 5 7 20 .lit, plainTask 1 5 8 21 .active, plainTask 2 5 8 22 .waiting, plainTask 3 6 8 22 .lit,
      plainTask 4 6 8 23 .active] }

/-- Each lit task stands on a top that is neither FINISHED nor EXPIRED and on no other lift. -/
theorem twinTasks_lit (v : Win) (l : TaskId) (h : (twinTasks.win v).lit = some l) :
    ∃ (x : Task) (t : Tote), twinTasks.task? l = some x ∧ x.state = .lit ∧ (twinTasks.win v).lift.head? = some x.tote ∧
      twinTasks.tote? x.tote = some t ∧ t.finished = false ∧ t.expired = false ∧ x.tote ∉ (twinTasks.win v.other).lift := by
  cases v with
  | w0 =>
    obtain rfl : (5 : TaskId) = l := Option.some.inj h
    exact ⟨plainTask 0 5 7 20 .lit, liftedTote 0 7 .w0, by decide +kernel⟩
  | w1 =>
    obtain rfl : (6 : TaskId) = l := Option.some.inj h
    exact ⟨plainTask 3 6 8 22 .lit, liftedTote 1 8 .w1, by decide +kernel⟩

/-- Position 3 goes SWAPPING and ends the tasks of id 6, which frees position 2; W1 then lights the second task of id 5;
position 2 goes SWAPPING and ends all of id 5, which unlights W0 alone; the top of W1 has no task left. -/
theorem twinTasks_settle : twinTasks.settle.topFinished .w1 = true ∧ (twinTasks.settle.win .w1).lit = some 5 := by
  decide +kernel

/-- Refutes O27: where two records have one task id, the end of that id unlights one window only, and the other is left lit
on a top that is then FINISHED. -/
theorem not_nothingLeftDue : ¬ Obligations.NothingLeftDue := by
  intro h
  obtain ⟨hfinished, hlit⟩ := twinTasks_settle
  obtain ⟨_, _, _, _, hdark, _⟩ := h twinTasks .w1
  exact absurd ((hdark twinTasks_lit hfinished).symm.trans hlit) nofun

end Sys2Proof.Machine

/-! PROOFS. What a CLEAR leaves of windows and positions (R142): with no task live and the mode DRAIN the work of the windows
marks, sends back and swaps out, and does nothing else. -/

namespace Sys2Proof.Machine

/-! ### With no task live -/

section
variable {s : State} (htasks : s.tasks = [])
include htasks

theorem State.named_of_noTasks (id : ToteId) : s.named id = false := by
  rw [State.named, htasks]
  rfl

/-- A swap-out with no task live is the direction and the record of the position (R69). -/
theorem State.swapOut_of_noTasks {p : Pos} {b : Binding} (hb : (s.pos p).binding = some b) :
    s.swapOut p = (s.direct (.swapOut p b.orderTote)).updPos p fun q => { q with
      state := .swapping, swapTimer := some s.returnMs } := by
  rw [State.swapOut_of_binding hb, htasks]
  rfl

theorem State.choice_of_noTasks (w : Win) : s.choice w = none := by
  cases hc : s.choice w with
  | none => rfl
  | some c =>
    have hch : s.chooses w = true := by
      by_contra hno
      rw [State.choice, if_neg hno] at hc
      cases hc
    have hlitable : s.litable w = [] := by rw [State.litable, htasks]; rfl
    rw [State.choice_of_chooses hch, hlitable] at hc
    cases hc

theorem State.setBlock_of_noTasks (w : Win) : s.setBlock w = s.updWin w fun x => { x with blockTimer := none } := by
  have hblocked : s.blocked w = false := by
    cases htop : s.top? w <;> simp [State.blocked, htop, State.named_of_noTasks htasks]
  rw [State.setBlock, hblocked, if_neg Bool.false_ne_true]

end

/-- No fetch is open outside RUN (R106, R107). -/
theorem State.fetchChoice_of_drain {s : State} (h : s.mode = .drain) (w : Win) : s.fetchChoice w = none := by
  cases hc : s.fetchChoice w with
  | none => rfl
  | some t => exact absurd ((State.fetchChoice_open hc).1.symm.trans h) (by decide)

/-! ### The records of windows and positions -/

/-- The sources that a CLEAR leaves (R142). -/
def Holds.released (h : Holds) : Holds := { h with order := false, transport := false, bench := false }

/-- What `x` becomes by a CLEAR at a window that sends nothing back: all but the lit task and the timers. -/
def Window.clearedCore (x : Window) : List ToteId × Option Fetch × Option Return × Nat × Holds × Option WinFault × Bool :=
  (x.lift, x.fetch, x.ret, x.confirms, x.holds.released, x.faultCause, x.present)

/-- What `x` becomes by a CLEAR at a window that sends its top `id` back from above `rest`. -/
def Window.sentCore (ms : Ms) (id : ToteId) (rest : List ToteId) (x : Window) :
    List ToteId × Option Fetch × Option Return × Nat × Holds × Option WinFault × Bool :=
  (rest, fetchAfterPop x.fetch rest, some ⟨id, ms⟩, if rest.isEmpty then x.confirms else 0, x.holds.released, x.faultCause,
    x.present)

/-- May the window whose record is `x` send a tote back once a CLEAR has released it? -/
def Window.maySend (x : Window) : Prop := x.holds.line = false ∧ x.holds.fault = false ∧ x.ret = none

/-- A window's record before and in the course of a CLEAR. -/
structure Window.Cleared (ms : Ms) (x y : Window) : Prop where
  glow : y.glow = (none, none, none, x.lastEnded)
  core : y.core = x.clearedCore ∨ ∃ id rest, x.lift = id :: rest ∧ x.maySend ∧ y.core = x.sentCore ms id rest

/-- A position's record before and in the course of a CLEAR. -/
structure Position.Cleared (ms : Ms) (x y : Position) : Prop where
  core : y.core = x.core
  lock : y.lock = none
  lastHolder : y.lastHolder = x.lastHolder
  state : (y.state = x.state ∧ y.swapTimer = x.swapTimer) ∨
    (x.state = .closing ∧ y.state = .swapping ∧ y.swapTimer = some ms)

/-- What a CLEAR does to the state `s` of its event, as far as `u`; the tote records are a matter of their own. -/
structure Cleared (s u : State) : Prop where
  tasks : u.tasks = []
  windows : ∀ w, Window.Cleared s.returnMs (s.win w) (u.win w)
  positions : ∀ p, Position.Cleared s.returnMs (s.pos p) (u.pos p)
  lane : u.lane = s.lane
  arrival : u.arrival = s.arrival
  mode : u.mode = .drain
  settings : u.settings = s.settings
  orderQueue : u.orderQueue = s.orderQueue.push .benchCleared
  benchQueue : u.benchQueue = s.benchQueue.push .benchCleared

/-- What `Cleared` speaks of. -/
def State.clearedPart (u : State) : List Task × PerWin Window × Vector Position 6 × Vector (Option ToteId) 8 × List ToteId ×
    Mode × SettingsStore × NoticeQueue × NoticeQueue :=
  (u.tasks, u.windows, u.positions, u.lane, u.arrival, u.mode, u.settings, u.orderQueue, u.benchQueue)

section
variable {s u : State} (h : Cleared s u)
include h

theorem Cleared.congr {v : State} (hv : v.clearedPart = u.clearedPart) : Cleared s v := by
  simp only [State.clearedPart, Prod.mk.injEq] at hv
  obtain ⟨htasks, hwindows, hpositions, hlane, harrival, hmode, hsettings, horder, hbench⟩ := hv
  have hwin : ∀ w, v.win w = u.win w := fun w => congrArg (fun ws : PerWin Window => ws.get w) hwindows
  have hpos : ∀ p, v.pos p = u.pos p := fun p => congrArg (fun ps : Vector Position 6 => ps[p]) hpositions
  exact ⟨htasks ▸ h.tasks, fun w => hwin w ▸ h.windows w, fun p => hpos p ▸ h.positions p, hlane.trans h.lane, harrival.trans h.arrival,
    hmode.trans h.mode, hsettings.trans h.settings, horder.trans h.orderQueue, hbench.trans h.benchQueue⟩

/-- An update of a window's record that keeps what a CLEAR keeps. -/
theorem Cleared.updWin (w : Win) (f : Window → Window) (hf : Window.Cleared s.returnMs (s.win w) (f (u.win w))) :
    Cleared s (u.updWin w f) := by
  refine { h with windows := fun v => ?_ }
  by_cases hv : v = w
  · subst hv
    rw [State.win_updWin]
    exact hf
  · rw [State.win_updWin_ne _ hv]
    exact h.windows v

theorem Cleared.returnMs : u.returnMs = s.returnMs := by
  rw [State.returnMs, State.setting, State.item, h.settings]
  rfl

theorem Cleared.direct (d : Direction) : Cleared s (u.direct d) := by
  unfold State.direct
  split
  · exact h.congr rfl
  · exact h

theorem Cleared.finishTest (w : Win) : Cleared s (u.finishTest w) :=
  h.congr (congrArg State.clearedPart (u.finishTest_totes w) :)

/-- A position that was CLOSING goes SWAPPING (R69). -/
theorem Cleared.swapOut {p : Pos} (hp : (s.pos p).state = .closing) : Cleared s (u.swapOut p) := by
  cases hb : (u.pos p).binding with
  | none =>
    simp only [State.swapOut, hb]
    exact h
  | some b =>
    rw [State.swapOut_of_noTasks h.tasks hb, h.returnMs]
    have hd := h.direct (.swapOut p b.orderTote)
    refine { hd with positions := fun q => ?_ }
    by_cases hq : q = p
    · subst hq
      rw [State.pos_updPos]
      obtain ⟨hcore, hlock, hholder, _⟩ := hd.positions q
      exact ⟨hcore, hlock, hholder, .inr ⟨hp, rfl, rfl⟩⟩
    · rw [State.pos_updPos_ne _ hq]
      exact hd.positions q

/-- A released window that is not held has neither LINE nor FAULT. -/
theorem Cleared.maySend {w : Win} (hheld : u.held w = false) (hret : (u.win w).ret = none) :
    (u.win w).core = (s.win w).clearedCore ∧ (s.win w).maySend := by
  obtain ⟨_, hcore | ⟨id, rest, _, _, hcore⟩⟩ := h.windows w
  · simp only [Window.core, Window.clearedCore, Prod.mk.injEq] at hcore ⊢
    obtain ⟨_, _, hr, _, hholds, _⟩ := id hcore
    rw [State.held, hholds] at hheld
    simp only [Holds.released, Holds.any, Bool.or_eq_false_iff] at hheld
    exact ⟨hcore, hheld.1.2, hheld.2, hr ▸ hret⟩
  · have hr := congrArg (fun c => c.2.2.1) hcore
    exact absurd (hr.symm.trans hret) nofun

/-- A send-back that is due is one that a released window may make (R94). -/
theorem Cleared.sendBack {w : Win} (hdue : u.sendBackDue w = true) : Cleared s (u.sendBack w) := by
  cases hlift : (u.win w).lift with
  | nil =>
    simp only [State.sendBack, hlift]
    exact h
  | cons id rest =>
    have hheld : u.held w = false := by
      simp only [State.sendBackDue, Bool.and_eq_true, Bool.not_eq_true'] at hdue
      exact hdue.1.2
    obtain ⟨hcore, hmay⟩ := h.maySend hheld (u.sendBackDue_ret hdue)
    simp only [Window.core, Window.clearedCore, Prod.mk.injEq] at hcore
    obtain ⟨hl, hf, _, hc, hholds, hcause, hpresent⟩ := hcore
    rw [State.sendBack_of_lift hlift]
    refine Cleared.finishTest ?_ w
    have hd := h.direct (.sendBack id (.window w))
    refine { hd with windows := fun v => ?_, tasks := ?_ }
    · change List.map _ (u.direct _).tasks = []
      rw [hd.tasks]
      rfl
    · by_cases hv : v = w
      · subst hv
        rw [State.sendRecords_win, hd.returnMs, State.direct_win]
        refine ⟨(h.windows v).glow, .inr ⟨id, rest, hl ▸ hlift, hmay, ?_⟩⟩
        simp only [Window.core, Window.sentCore, hf, hc, hholds, hcause, hpresent]
      · rw [State.sendRecords_win_ne _ hv]
        exact hd.windows v

theorem Cleared.sendIfDue (w : Win) : Cleared s (u.sendIfDue w) := by
  unfold State.sendIfDue
  split
  next hdue => exact h.sendBack hdue
  next => exact h

theorem Cleared.setBlock (w : Win) : Cleared s (u.setBlock w) := by
  rw [State.setBlock_of_noTasks h.tasks]
  exact h.updWin w _ ⟨(h.windows w).glow, (h.windows w).core⟩

/-- The position that a swap-out takes up was CLOSING before the CLEAR. -/
theorem Cleared.closing {p : Pos} (hp : (u.pos p).state = .closing) : (s.pos p).state = .closing := by
  obtain ⟨hst, _⟩ | ⟨hst, _⟩ := (h.positions p).state
  · exact hst ▸ hp
  · exact hst

theorem Cleared.step {v : State} (hstep : WorkStep u v) : Cleared s v := by
  cases hstep with
  | free n => exact h.congr rfl
  | swap p hp =>
    simp only [State.swapOwed, State.swapReady, Option.any_some, Bool.and_eq_true, beq_iff_eq] at hp
    exact h.swapOut (h.closing hp.1.1)
  | finish w => exact h.finishTest w
  | send w hdue => exact h.sendBack hdue
  | choose w c hc => exact absurd ((State.choice_of_noTasks h.tasks w).symm.trans hc) nofun
  | block w => exact h.setBlock w
  | fetch w t ht => exact absurd ((State.fetchChoice_of_drain h.mode w).symm.trans ht) nofun

end

/-! ### The whole CLEAR (R142) -/

section
variable {P : State → Prop} (hfree : ∀ u n, P u → P { u with free := n }) (hfinish : ∀ u w, P u → P (u.finishTest w))
  (hsend : ∀ u w, P u → P (u.sendIfDue w)) {swaps : List Pos} (hswap : ∀ u, ∀ p ∈ swaps, P u → P (u.swapOut p))

include hfree hsend in
theorem State.sendBoth_keep {u : State} (h : P u) : P u.sendBoth := by
  unfold State.sendBoth
  split
  · unfold State.bothWays State.eitherOrder
    split
    · exact hsend _ _ (hsend _ _ (hfree _ _ h))
    · exact hsend _ _ (hsend _ _ (hfree _ _ h))
  · exact hsend _ _ (hsend _ _ h)

include hfree hswap in
theorem State.swapOutList_keep {u : State} (h : P u) : P (u.swapOutList swaps) := by
  have hfold : ∀ (qs : List Pos), (∀ q ∈ qs, q ∈ swaps) → ∀ v, P v → P (qs.foldl (fun s p => s.swapOut p) v) := by
    intro qs
    induction qs with
    | nil => exact fun _ v hv => hv
    | cons q qs ih =>
      intro hqs v hv
      exact ih (fun x hx => hqs x (List.mem_cons_of_mem q hx)) _ (hswap v q (hqs q List.mem_cons_self) hv)
  unfold State.swapOutList
  split
  · split
    · exact hfold swaps (fun _ hp => hp) _ (hfree _ _ h)
    · exact hfold swaps.reverse (fun _ hp => List.mem_reverse.1 hp) _ (hfree _ _ h)
  · exact hfold swaps (fun _ hp => hp) u h

include hfree hfinish hsend hswap in
/-- Step 7 of R142 is made of FINISHED tests, send-backs and swap-outs. -/
theorem State.clearStep7_keep {u : State} (h : P u) : P (u.clearStep7 swaps) := by
  have htests : P ((u.finishTest .w0).finishTest .w1) := hfinish _ _ (hfinish _ _ h)
  unfold State.clearStep7
  split
  · exact State.sendBoth_keep hfree hsend htests
  · dsimp only
    split
    · exact hsend _ _ (State.swapOutList_keep hfree hswap (hsend _ _ (hfree _ _ (hfree _ _ htests))))
    · unfold State.eitherOrder
      split
      · exact State.sendBoth_keep hfree hsend (State.swapOutList_keep hfree hswap (hfree _ _ (hfree _ _ htests)))
      · exact State.swapOutList_keep hfree hswap (State.sendBoth_keep hfree hsend (hfree _ _ (hfree _ _ htests)))

end

theorem State.closing_of_closingLocked {s : State} {p : Pos} (hp : p ∈ s.closingLocked) : (s.pos p).state = .closing := by
  have hp := (List.mem_filter.1 hp).2
  simp only [Bool.and_eq_true, beq_iff_eq] at hp
  exact hp.1

theorem State.clearTasks_win (s : State) (w : Win) : s.clearTasks.win w = (s.win w).clearLit := by cases w <;> rfl

theorem State.clearTasks_pos (s : State) (p : Pos) : s.clearTasks.pos p = { s.pos p with lock := none } := by
  simp [State.clearTasks, State.pos, Vector.getElem_mk]

/-- Steps 1 to 4 of R142 but for the send-backs: the windows and positions dark, BENCH_CLEARED, DRAIN, the link holds
released. -/
def State.clearReleased (s : State) : State :=
  ({ s.clearTasks.noteBoth .benchCleared with mode := .drain } : State).updWins bothWindows.has fun x =>
    { x with holds := x.holds.released }

theorem State.clearModeHolds_eq (s : State) : s.clearTasks.clearModeHolds = s.clearReleased.sendBoth :=
  congrArg State.sendBoth (State.changeHolds_of_release _ _ _ fun h => by simp [Holds.any]; tauto)

theorem State.clearReleased_rest (s : State) : s.clearReleased =
    { s.clearTasks.noteBoth .benchCleared with mode := .drain, windows := s.clearReleased.windows } :=
  State.updWins_windows _ _ _

theorem State.clearReleased_win (s : State) (w : Win) :
    s.clearReleased.win w = { (s.win w).clearLit with holds := (s.win w).holds.released } := by
  refine (State.updWins_win _ _ _ w).trans ?_
  rw [if_pos (by cases w <;> rfl)]
  cases w <;> rfl

theorem State.clearReleased_cleared (s : State) : Cleared s s.clearReleased := by
  have hrest := s.clearReleased_rest
  refine ⟨(congrArg State.tasks hrest :), fun w => ?_, fun p => ?_, (congrArg State.lane hrest :), (congrArg State.arrival hrest :),
    (congrArg State.mode hrest :), (congrArg State.settings hrest :), (congrArg State.orderQueue hrest :),
    (congrArg State.benchQueue hrest :)⟩
  · rw [s.clearReleased_win]
    exact ⟨rfl, .inl rfl⟩
  · rw [show s.clearReleased.pos p = s.clearTasks.pos p from (congrArg (fun u : State => u.pos p) hrest :), s.clearTasks_pos]
    exact ⟨rfl, rfl, rfl, .inl ⟨rfl, rfl⟩⟩

theorem State.clearModeHolds_cleared (s : State) : Cleared s s.clearTasks.clearModeHolds := by
  rw [s.clearModeHolds_eq]
  exact State.sendBoth_keep (P := Cleared s) (fun _ _ h => h.congr rfl) (fun _ w h => h.sendIfDue w) s.clearReleased_cleared

theorem State.clearBench_cleared (s : State) : Cleared s s.clearBench :=
  State.clearStep7_keep (P := Cleared s) (fun _ _ h => h.congr rfl) (fun _ w h => h.finishTest w) (fun _ w h => h.sendIfDue w)
    (fun _ _ hp h => h.swapOut (State.closing_of_closingLocked hp)) (s.clearModeHolds_cleared.congr rfl)

end Sys2Proof.Machine

/-! PROOFS. What a CLEAR leaves of the totes, what its work does in the end, what it sends (R142), and the statement O49. -/

namespace Sys2Proof.Machine

/-! ### The tote records -/

theorem Moves.placed {s t : State} (h : Moves s t) (hp : Placed s) (hn : Numbered s.totes) : Placed t ∧ Numbered t.totes :=
  h.keep (P := fun u => Placed u ∧ Numbered u.totes) (fun hmove hu => hmove.placed hu.1 hu.2) ⟨hp, hn⟩

/-- A tote's record before and in the course of a CLEAR: `g` is what it does to a lane tote. -/
def Tote.Cleared (g : Tote → Tote) (x y : Tote) : Prop :=
  match x.state with
  | .inLane _ => y = g x
  | .onLift w => (y.state = .onLift w ∨ y.state = .leavingWin w) ∧ { y with state := x.state, finished := x.finished } = x
  | _ => y = x

/-- The tote records of `s` in the course of a CLEAR, as far as `u`. -/
structure RecordsCleared (g : Tote → Tote) (s u : State) : Prop where
  placed : Placed u
  numbered : Numbered u.totes
  records : ∀ id x, s.tote? id = some x → ∃ y, u.tote? id = some y ∧ Tote.Cleared g x y

/-- A tote on a lift is one that stood on that lift before. -/
theorem Tote.Cleared.lifted {g : Tote → Tote} (hg : ∀ t, (g t).state = t.state) {x y : Tote} {w : Win} (h : Tote.Cleared g x y)
    (hy : y.state = .onLift w) : x.state = .onLift w ∧ { y with state := x.state, finished := x.finished } = x := by
  unfold Tote.Cleared at h
  split at h
  next l hx => rw [h, hg, hx] at hy; cases hy
  next v hx =>
    obtain ⟨hst | hst, hrest⟩ := h
    · obtain rfl : w = v := ToteState.onLift.inj (hy.symm.trans hst)
      exact ⟨hx, hrest⟩
    · cases hst.symm.trans hy
  next _ hnot => exact absurd (h ▸ hy) (hnot w)

section
variable {g : Tote → Tote} (hg : ∀ t, (g t).state = t.state) {s u : State} (h : RecordsCleared g s u)
include h

/-- What leaves the tote table as it is. -/
theorem RecordsCleared.congr {v : State} (hmoves : Moves u v) (hv : v.totes = u.totes) : RecordsCleared g s v := by
  obtain ⟨hp, hn⟩ := hmoves.placed h.placed h.numbered
  refine ⟨hp, hn, fun id x hx => ?_⟩
  rw [State.tote?, hv]
  exact h.records id x hx

include hg

/-- An update of the record of a tote on a lift. -/
theorem RecordsCleared.lifted {v : State} (hmoves : Moves u v) {id : ToteId} {w : Win} (hid : u.place id = some (.onLift w))
    (f : Tote → Tote) (hf : ∀ t, t.state = .onLift w → ((f t).state = .onLift w ∨ (f t).state = .leavingWin w) ∧
      { f t with state := t.state, finished := t.finished } = t)
    (hv : ∀ x, v.tote? x = if x = id then (u.tote? x).map f else u.tote? x) : RecordsCleared g s v := by
  obtain ⟨hp, hn⟩ := hmoves.placed h.placed h.numbered
  refine ⟨hp, hn, fun x a ha => ?_⟩
  obtain ⟨b, hb, hab⟩ := h.records x a ha
  rw [hv, hb]
  by_cases hx : x = id
  · subst hx
    have hst : b.state = .onLift w := by
      rw [State.place, hb] at hid
      exact Option.some.inj hid
    obtain ⟨hastate, hrest⟩ := hab.lifted hg hst
    obtain ⟨hnew, hsame⟩ := hf b hst
    refine ⟨f b, by simp, ?_⟩
    unfold Tote.Cleared
    rw [hastate] at hrest ⊢
    refine ⟨hnew, Eq.trans ?_ hrest⟩
    exact congrArg (fun t : Tote => { t with state := ToteState.onLift w, finished := a.finished }) hsame
  · exact ⟨b, if_neg hx, hab⟩

theorem RecordsCleared.finishTest (w : Win) : RecordsCleared g s (u.finishTest w) := by
  have hmoves := Moves.finishTest u w
  obtain hsame | hmark := finishTest_cases u w
  · rw [hsame]
    exact h
  · cases htop : u.top? w with
    | none =>
      rw [hmark, State.markFinished, htop]
      exact h
    | some id =>
      have hid : u.place id = some (.onLift w) := (h.placed.agree id (.onLift w)).1 (List.mem_of_mem_head? htop)
      refine h.lifted hg hmoves hid (fun t => { t with finished := true }) (fun t ht => ⟨.inl ht, rfl⟩) fun x => ?_
      rw [hmark, State.markFinished_of_top htop]
      exact u.tote?_updTote id x _ fun _ => rfl

theorem RecordsCleared.sendIfDue (w : Win) : RecordsCleared g s (u.sendIfDue w) := by
  unfold State.sendIfDue
  split
  next hdue =>
    cases hlift : (u.win w).lift with
    | nil =>
      simp only [State.sendBack, hlift]
      exact h
    | cons id rest =>
      have hid : u.place id = some (.onLift w) := (h.placed.agree id (.onLift w)).1 (by
        rw [State.claims, hlift]
        exact List.mem_cons_self)
      rw [State.sendBack_of_lift hlift]
      have hsent : RecordsCleared g s ((u.direct (.sendBack id (.window w))).sendRecords w id rest) := by
        refine h.lifted hg ((Moves.direct u _).tail (.send w id rest (by simpa using hlift) (by
          simpa using u.sendBackDue_ret hdue))) hid (fun t => { t with state := .leavingWin w, finished := false })
          (fun t ht => ⟨.inr rfl, rfl⟩) fun x => ?_
        rw [State.sendRecords_tote?, State.direct_tote?]
      exact hsent.finishTest hg w
  next => exact h

omit hg in
/-- With no task live a swap-out and a block timer are no matter of the tote table. -/
theorem RecordsCleared.swapOut (htasks : u.tasks = []) (p : Pos) : RecordsCleared g s (u.swapOut p) := by
  refine h.congr (.swapOut p u) ?_
  cases hb : (u.pos p).binding with
  | none => simp only [State.swapOut, hb]
  | some b =>
    rw [State.swapOut_of_noTasks htasks hb]
    unfold State.direct
    split <;> rfl

theorem RecordsCleared.step (hc : Cleared s u) {v : State} (hstep : WorkStep u v) : RecordsCleared g s v := by
  cases hstep with
  | free n => exact h.congr (.free u n) rfl
  | swap p hp => exact h.swapOut hc.tasks p
  | finish w => exact h.finishTest hg w
  | send w hdue =>
    have hsent := h.sendIfDue hg w
    rwa [State.sendIfDue, if_pos hdue] at hsent
  | choose w c hch => exact absurd ((State.choice_of_noTasks hc.tasks w).symm.trans hch) nofun
  | block w =>
    refine h.congr (.setBlock u w) ?_
    rw [State.setBlock_of_noTasks hc.tasks]
    rfl
  | fetch w t ht => exact absurd ((State.fetchChoice_of_drain hc.mode w).symm.trans ht) nofun

end

/-- What a CLEAR does to a lane tote of `s` (R18, R142). -/
def State.clearLane (s : State) (x : Tote) : Tote :=
  { x with orphanTimer := if s.named x.id = true then some s.orphanMs else x.orphanTimer }

/-- A record that nothing touches. -/
theorem Tote.Cleared.refl {g : Tote → Tote} (x : Tote) (hx : ∀ l, x.state = .inLane l → g x = x) : Tote.Cleared g x x := by
  unfold Tote.Cleared
  split
  next l hst => exact (hx l hst).symm
  next w hst => exact ⟨.inl hst, rfl⟩
  next => rfl

/-- Steps 1 to 4 of R142 leave the lane totes as they are. -/
theorem State.clearModeHolds_records {s : State} (hp : Placed s) (hn : Numbered s.totes) :
    RecordsCleared id s s.clearTasks.clearModeHolds := by
  rw [s.clearModeHolds_eq]
  refine State.sendBoth_keep (P := RecordsCleared id s) (fun u n h => h.congr (.free u n) rfl)
    (fun _ w h => h.sendIfDue (fun _ => rfl) w) ?_
  have hrest := s.clearReleased_rest
  have htotes : s.clearReleased.totes = s.totes := (congrArg State.totes hrest :)
  refine ⟨hp.congr (congrArg State.lane hrest :) (congrArg State.arrival hrest :) (fun w => ?_) (fun id => ?_), htotes ▸ hn,
    fun id x hx => ⟨x, ?_, .refl x fun _ _ => rfl⟩⟩
  · rw [s.clearReleased_win]
    rfl
  · rw [State.place, State.tote?, htotes]
    rfl
  · rw [State.tote?, htotes]
    exact hx

/-- Step 7 of R142 at the tote table: a lane tote that had a live task starts its orphan timer (R18). -/
theorem RecordsCleared.clearOrphans {s u : State} (h : RecordsCleared id s u) (hset : u.settings = s.settings) :
    RecordsCleared s.clearLane s (u.clearOrphans s.tasks) := by
  have horphan : u.orphanMs = s.orphanMs := by
    rw [State.orphanMs, State.setting, State.item, hset]
    rfl
  let f (t : Tote) : Tote := match t.state with
    | .inLane _ => if s.tasks.any (fun x => x.tote == t.id) then { t with orphanTimer := some u.orphanMs } else t
    | _ => t
  have hf : ∀ t, (f t).tag = t.tag ∧ (f t).state = t.state := fun t => by
    simp only [f]
    split
    · split <;> exact ⟨rfl, rfl⟩
    · exact ⟨rfl, rfl⟩
  have hlane : ∀ (x : Tote) (l : Slot), x.state = .inLane l → f x = s.clearLane x := fun x l hx => by
    have hmatch : f x = if s.named x.id = true then { x with orphanTimer := some s.orphanMs } else x := by
      simp only [f, horphan]
      split
      · rfl
      next hnot => exact absurd hx (hnot l)
    rw [hmatch, State.clearLane]
    split <;> rfl
  have hother : ∀ t : Tote, (∀ l, t.state ≠ .inLane l) → f t = t := fun t ht => by
    simp only [f]
  refine ⟨h.placed.congr rfl rfl (fun _ => rfl) (u.place_mapTotes f fun t => ⟨congrArg Prod.fst (hf t).1, (hf t).2⟩),
    h.numbered.map fun t => (hf t).1, fun id x hx => ?_⟩
  obtain ⟨y, hy, hxy⟩ := h.records id x hx
  refine ⟨f y, (u.tote?_mapTotes f (fun t => congrArg Prod.fst (hf t).1) id).trans (by rw [hy]; rfl), ?_⟩
  unfold Tote.Cleared at hxy ⊢
  split at hxy
  next l hst =>
    rw [hxy]
    exact hlane x l hst
  next w hst =>
    rw [hother y fun l hl => by rcases hxy.1 with hw | hw <;> cases hw.symm.trans hl]
    exact hxy
  next hnot _ =>
    obtain rfl := hxy
    exact hother y hnot

/-- The records after the steps of a CLEAR whose event begins with totes in their places. -/
theorem State.clearBench_records {s : State} (hp : Placed s) (hn : Numbered s.totes) :
    RecordsCleared s.clearLane s s.clearBench := by
  have hg : ∀ t, (s.clearLane t).state = t.state := fun _ => rfl
  have hmode := s.clearModeHolds_cleared
  have hrec := State.clearModeHolds_records hp hn
  have hstart : Cleared s ((s.clearTasks.clearModeHolds.clearWatchesCursors).clearOrphans s.tasks) ∧ RecordsCleared s.clearLane s
      ((s.clearTasks.clearModeHolds.clearWatchesCursors).clearOrphans s.tasks) :=
    ⟨hmode.congr rfl, RecordsCleared.clearOrphans (u := s.clearTasks.clearModeHolds.clearWatchesCursors)
      ⟨hrec.placed.congr rfl rfl (fun _ => rfl) fun _ => rfl, hrec.numbered, hrec.records⟩ hmode.settings⟩
  exact (State.clearStep7_keep (P := fun u => Cleared s u ∧ RecordsCleared s.clearLane s u)
    (fun u n h => ⟨h.1.congr rfl, h.2.congr (.free u n) rfl⟩) (fun _ w h => ⟨h.1.finishTest w, h.2.finishTest hg w⟩)
    (fun _ w h => ⟨h.1.sendIfDue w, h.2.sendIfDue hg w⟩)
    (fun _ p hswap h => ⟨h.1.swapOut (State.closing_of_closingLocked hswap), h.2.swapOut h.1.tasks p⟩) hstart).2

/-- The records at the end of the event. -/
theorem State.clearBench_settle_records {s : State} (hp : Placed s) (hn : Numbered s.totes) :
    RecordsCleared s.clearLane s s.clearBench.settle := by
  have hg : ∀ t, (s.clearLane t).state = t.state := fun _ => rfl
  exact ((WorkSteps.settle _).keep (P := fun u => Cleared s u ∧ RecordsCleared s.clearLane s u)
    (fun hstep hu => ⟨hu.1.step hstep, hu.2.step hg hu.1 hstep⟩)
    ⟨s.clearBench_cleared, State.clearBench_records hp hn⟩).2

end Sys2Proof.Machine

/-! PROOFS. What the work of a CLEAR has done in the end (R68, R93, R94), what the CLEAR sends (R142, R167), and the statement
O49. -/

namespace Sys2Proof.Machine

/-! ### The end of the work -/

/-- The work ends with at least one round. -/
theorem WorkSteps.workWindows_settle (s : State) : WorkSteps s.workWindows s.settle := by
  change WorkSteps s.workWindows (s.settleRounds (15 + 1))
  rw [State.settleRounds]
  split
  · refine WorkSteps.trans ?_ (.settleRounds _ 15)
    split
    · exact .refl
    · exact .fetchFirst _
  · exact .refl

theorem WorkSteps.moves {s t : State} (h : WorkSteps s t) : Moves s t :=
  h.keep (P := Moves s) (fun hstep hu => hu.trans hstep.moves) .refl

/-- No send-back is to come at window `w`: one is in flight, the window is held, or its lift is empty. -/
def State.Spent (s : State) (w : Win) : Prop := (s.win w).ret ≠ none ∨ s.held w = true ∨ (s.win w).lift = []

theorem Move.spent {s t : State} (h : Move s t) {w : Win} (hs : s.Spent w) : t.Spent w := by
  have hheld : t.held w = s.held w := congrArg Holds.any (h.frame.holds w)
  unfold State.Spent at hs ⊢
  rw [hheld]
  cases h with
  | windows ws hws =>
    have hcore := hws w
    simp only [Window.core, Prod.mk.injEq] at hcore
    obtain ⟨hlift, _, hret, _⟩ := hcore
    simp only [State.win, hlift, hret]
    exact hs
  | send v id rest hlift hret =>
    by_cases hv : w = v
    · subst hv
      rw [State.sendRecords_win]
      exact .inl nofun
    · rw [State.sendRecords_win_ne _ hv]
      exact hs
  | fetch v t slot =>
    by_cases hv : w = v
    · subst hv
      rw [State.fetchRecords_win]
      exact hs
    · rw [State.fetchRecords_win_ne _ hv]
      exact hs
  | _ => exact hs

theorem Moves.spent {s t : State} (h : Moves s t) {w : Win} (hs : s.Spent w) : t.Spent w :=
  h.keep (P := fun u => u.Spent w) (fun hmove hu => hmove.spent hu) hs

/-- A FINISHED top stays so under the test of another (R92). -/
theorem State.finishTest_keeps_topFinished {s : State} {v w : Win} (h : s.topFinished w = true) :
    (s.finishTest v).topFinished w = true := by
  obtain ⟨id, t, htop, ht, hfin⟩ := (s.topFinished_iff w).1 h
  have htop' : (s.finishTest v).top? w = some id :=
    (congrArg (fun u : State => u.top? w) (s.finishTest_totes v)).trans htop
  refine ((s.finishTest v).topFinished_iff w).2 ?_
  obtain hsame | hmark := finishTest_cases s v
  · exact ⟨id, t, htop', by rw [hsame]; exact ht, hfin⟩
  · by_cases hv : s.top? v = some id
    · refine ⟨id, { t with finished := true }, htop', ?_, rfl⟩
      rw [hmark, State.markFinished_of_top hv, s.tote?_updTote id id _ (by exact fun _ => rfl), if_pos rfl, ht]
      rfl
    · exact ⟨id, t, htop', (State.finishTest_tote? hv).trans ht, hfin⟩

/-- Where a send-back is to come, the top is FINISHED. -/
def State.Ready (s : State) (w : Win) : Prop := s.Spent w ∨ s.topFinished w = true

theorem State.Ready.finishTest {s : State} {v w : Win} (h : s.Ready w) : (s.finishTest v).Ready w :=
  h.imp (Moves.finishTest s v).spent State.finishTest_keeps_topFinished

/-- The test of a tote that no live task names leaves its window ready. -/
theorem State.finishTest_ready {s : State} (htasks : s.tasks = []) (hp : Placed s) (w : Win) : (s.finishTest w).Ready w := by
  cases hlift : (s.win w).lift with
  | nil => exact .inl ((Moves.finishTest s w).spent (.inr (.inr hlift)))
  | cons id rest =>
    have hid : s.place id = some (.onLift w) := (hp.agree id (.onLift w)).1 (by
      rw [State.claims, hlift]
      exact List.mem_cons_self)
    obtain ⟨t, ht, _⟩ := State.place_eq_some.1 hid
    exact .inr (State.finishTest_topFinished (by rw [State.top?, hlift]; rfl) ht (.inr (State.named_of_noTasks htasks id)))

/-- A ready window sends back what it may (R94). -/
theorem State.Ready.sendIfDue {s : State} {w : Win} (h : s.Ready w) : (s.sendIfDue w).Spent w := by
  by_cases hspent : s.Spent w
  · exact (Moves.sendIfDue s w).spent hspent
  · have hfin := h.resolve_left hspent
    simp only [State.Spent, not_or, not_not, Bool.not_eq_true] at hspent
    obtain ⟨hret, hheld, hlift⟩ := hspent
    have hdue : s.sendBackDue w = true := by simp [State.sendBackDue, hfin, hheld, hret]
    obtain ⟨id, rest, hl⟩ := List.exists_cons_of_ne_nil hlift
    rw [State.sendIfDue, if_pos hdue, State.sendBack_of_lift hl]
    refine (Moves.finishTest _ w).spent (.inl ?_)
    rw [State.sendRecords_win]
    exact nofun

/-- The send-back of one window leaves the other ready (R94). -/
theorem State.Ready.sendIfDue_ne {s : State} (hp : Placed s) {v w : Win} (hne : w ≠ v) (h : s.Ready w) :
    (s.sendIfDue v).Ready w := by
  refine h.imp (Moves.sendIfDue s v).spent fun hfin => ?_
  unfold State.sendIfDue
  split
  next hdue =>
    cases hlift : (s.win v).lift with
    | nil => simpa only [State.sendBack, hlift] using hfin
    | cons id rest =>
      rw [State.sendBack_of_lift hlift]
      refine State.finishTest_keeps_topFinished ?_
      obtain ⟨top, t, htop, ht, hf⟩ := (s.topFinished_iff w).1 hfin
      have hother : top ≠ id := by
        rintro rfl
        have hw := (hp.agree top (.onLift w)).1 (List.mem_of_mem_head? htop)
        have hv := (hp.agree top (.onLift v)).1 (by
          rw [State.claims, hlift]
          exact List.mem_cons_self)
        exact hne (ToteState.onLift.inj (Option.some.inj (hw.symm.trans hv)))
      refine (State.topFinished_iff _ w).2 ⟨top, t, ?_, ?_, hf⟩
      · rw [State.top?, State.sendRecords_win_ne _ hne, State.direct_win]
        exact htop
      · rw [State.sendRecords_tote?, if_neg hother, State.direct_tote?]
        exact ht
  next => exact hfin

/-- With no task live each window sends back what it may. -/
theorem State.finishBoth_spent {s : State} (htasks : s.tasks = []) (hp : Placed s) (hn : Numbered s.totes) (w : Win) :
    s.finishBoth.Spent w := by
  have htests : ∀ v : Win, ((s.finishTest .w0).finishTest .w1).Ready v := fun v => by
    obtain ⟨hp0, _⟩ := (Moves.finishTest s .w0).placed hp hn
    cases v with
    | w0 => exact (State.finishTest_ready htasks hp .w0).finishTest
    | w1 => exact State.finishTest_ready ((congrArg State.tasks (s.finishTest_totes .w0) :).trans htasks) hp0 .w1
  obtain ⟨hpu, hnu⟩ := ((Moves.finishTest s .w0).trans (.finishTest _ .w1)).placed hp hn
  unfold State.finishBoth
  generalize (s.finishTest .w0).finishTest .w1 = u at *
  have hboth : ∀ (x : State), Placed x → (∀ v, x.Ready v) → ∀ v, ((x.sendIfDue v).sendIfDue v.other).Spent w := by
    intro x hx hready v
    by_cases hv : w = v
    · subst hv
      exact (Moves.sendIfDue _ _).spent (hready w).sendIfDue
    · obtain rfl : w = v.other := by cases w <;> cases v <;> trivial
      exact ((hready _).sendIfDue_ne hx hv).sendIfDue
  have hfree : Placed { u with free := u.free + 1 } ∧ ∀ v, State.Ready { u with free := u.free + 1 } v :=
    ⟨((Moves.free u (u.free + 1)).placed hpu hnu).1, htests⟩
  unfold State.sendBoth
  split
  · unfold State.bothWays State.eitherOrder
    split
    · exact hboth _ hfree.1 hfree.2 .w0
    · exact hboth _ hfree.1 hfree.2 .w1
  · exact hboth u hpu htests .w0

end Sys2Proof.Machine

/-! PROOFS. The end of a CLEAR's work and what it sends (R68, R93, R142, R167), and the statement O49. -/

namespace Sys2Proof.Machine

/-! ### Block timers and CLOSING positions -/

theorem State.swapOut_windows {s : State} (htasks : s.tasks = []) (p : Pos) : (s.swapOut p).windows = s.windows := by
  cases hb : (s.pos p).binding with
  | none => simp only [State.swapOut, hb]
  | some b =>
    rw [State.swapOut_of_noTasks htasks hb]
    unfold State.direct
    split <;> rfl

/-- A swap-out takes its own position, if it has a binding, and no other. -/
theorem State.swapOut_closing {s : State} (htasks : s.tasks = []) (p q : Pos) (hq : ((s.swapOut p).pos q).state = .closing) :
    ((s.swapOut p).pos q) = s.pos q ∧ (q = p → (s.pos p).binding = none) := by
  cases hb : (s.pos p).binding with
  | none => simp [State.swapOut, hb]
  | some b =>
    rw [State.swapOut_of_noTasks htasks hb] at hq ⊢
    have hdirect : ∀ d, (s.direct d).pos q = s.pos q := fun d => by
      unfold State.direct
      split <;> rfl
    by_cases hqp : q = p
    · subst hqp
      rw [State.pos_updPos] at hq
      cases hq
    · rw [State.pos_updPos_ne _ hqp, hdirect]
      exact ⟨rfl, fun h => absurd h hqp⟩

/-- A step of a CLEAR's work starts no block timer and closes no position. -/
theorem Cleared.step_keeps {s u v : State} (h : Cleared s u) (hstep : WorkStep u v) :
    (∀ w, (u.win w).blockTimer = none → (v.win w).blockTimer = none) ∧
      ∀ p, (v.pos p).state = .closing → v.pos p = u.pos p := by
  cases hstep with
  | free n => exact ⟨fun _ hw => hw, fun _ _ => rfl⟩
  | swap p hp =>
    refine ⟨fun w hw => ?_, fun q hq => (State.swapOut_closing h.tasks p q hq).1⟩
    rw [State.win, State.swapOut_windows h.tasks]
    exact hw
  | finish w =>
    have hrest := u.finishTest_totes w
    exact ⟨fun v hv => (congrArg (fun x : State => (x.win v).blockTimer) hrest).trans hv,
      fun p _ => (congrArg (fun x : State => x.pos p) hrest :)⟩
  | send w hdue =>
    cases hlift : (u.win w).lift with
    | nil =>
      have hsame : u.sendBack w = u := by simp only [State.sendBack, hlift]
      rw [hsame]
      exact ⟨fun _ hw => hw, fun _ _ => rfl⟩
    | cons id rest =>
      rw [State.sendBack_of_lift hlift]
      have hrest := State.finishTest_totes ((u.direct (.sendBack id (.window w))).sendRecords w id rest) w
      refine ⟨fun v hv => (congrArg (fun x : State => (x.win v).blockTimer) hrest).trans ?_,
        fun p _ => (congrArg (fun x : State => x.pos p) hrest).trans ?_⟩
      · by_cases hvw : v = w
        · subst hvw
          exact congrArg Window.blockTimer (State.sendRecords_win ..)
        · refine (congrArg Window.blockTimer (State.sendRecords_win_ne _ hvw id rest)).trans ?_
          rw [State.direct_win]
          exact hv
      · change (u.direct _).pos p = _
        unfold State.direct
        split <;> rfl
  | choose w c hch => exact absurd ((State.choice_of_noTasks h.tasks w).symm.trans hch) nofun
  | block w =>
    rw [State.setBlock_of_noTasks h.tasks]
    refine ⟨fun v hv => ?_, fun _ _ => rfl⟩
    by_cases hvw : v = w
    · subst hvw
      rw [State.win_updWin]
    · rw [State.win_updWin_ne _ hvw]
      exact hv
  | fetch w t ht => exact absurd ((State.fetchChoice_of_drain h.mode w).symm.trans ht) nofun

/-- What the steps of a CLEAR's work leave so: a block timer stopped, a position that is CLOSING without a binding only. -/
theorem Cleared.steps_keep {s u v : State} (h : Cleared s u) (hsteps : WorkSteps u v) : Cleared s v ∧
    (∀ w, (u.win w).blockTimer = none → (v.win w).blockTimer = none) ∧
      ∀ p, (v.pos p).state = .closing → v.pos p = u.pos p := by
  refine hsteps.keep (P := fun x => Cleared s x ∧ (∀ w, (u.win w).blockTimer = none → (x.win w).blockTimer = none) ∧
    ∀ p, (x.pos p).state = .closing → x.pos p = u.pos p) (fun {x y} hstep hx => ?_) ⟨h, fun _ hw => hw, fun _ _ => rfl⟩
  obtain ⟨hc, hblock, hclosing⟩ := hx
  obtain ⟨hblocks, hcloses⟩ := hc.step_keeps hstep
  refine ⟨hc.step hstep, fun w hw => hblocks w (hblock w hw), fun p hp => ?_⟩
  have hsame := hcloses p hp
  exact hsame.trans (hclosing p (hsame ▸ hp))

/-- After the swap-outs no CLOSING position has a binding: every lock is free (R68). -/
theorem Cleared.swapAll_closing {s u : State} (h : Cleared s u) (p : Pos) (hp : (u.swapAll.pos p).state = .closing) :
    (u.swapAll.pos p).binding = none := by
  have hfold : ∀ (ps : List Pos) (v : State), Cleared s v → ((ps.foldl State.swapAt v).pos p).state = .closing →
      (ps.foldl State.swapAt v).pos p = v.pos p ∧ (p ∈ ps → (v.pos p).binding = none) := by
    intro ps
    induction ps with
    | nil => exact fun v _ _ => ⟨rfl, nofun⟩
    | cons q ps ih =>
      intro v hv hclosing
      have hat : Cleared s (v.swapAt q) := by
        unfold State.swapAt
        split
        next howed => exact hv.step (.swap q howed)
        next => exact hv
      obtain ⟨hsame, hrest⟩ := ih (v.swapAt q) hat hclosing
      have hst : ((v.swapAt q).pos p).state = .closing := by
        rw [← hsame]
        exact hclosing
      have hone : (v.swapAt q).pos p = v.pos p ∧ (p = q → (v.pos p).binding = none) := by
        unfold State.swapAt at hst ⊢
        split at hst
        next howed =>
          rw [if_pos howed]
          obtain ⟨heq, hnone⟩ := State.swapOut_closing hv.tasks q p hst
          exact ⟨heq, fun hpq => hpq ▸ hnone hpq⟩
        next howed =>
          rw [if_neg howed]
          refine ⟨rfl, ?_⟩
          rintro rfl
          have hlock := (hv.positions p).lock
          simpa [State.swapOwed, State.swapReady, hst, hlock] using howed
      refine ⟨hsame.trans hone.1, fun hmem => ?_⟩
      obtain rfl | hmem := List.mem_cons.1 hmem
      · exact hone.2 rfl
      · rw [← hone.1]
        exact hrest hmem
  obtain ⟨hsame, hnone⟩ := hfold allPos u h hp
  rw [State.swapAll, hsame]
  exact hnone (mem_allPos p)

/-- The work stops the block timers and takes the CLOSING positions with a binding (R68, R93). -/
theorem Cleared.settle_ends {s u : State} (h : Cleared s u) : Cleared s u.settle ∧
    (∀ w, (u.settle.win w).blockTimer = none) ∧ ∀ p, (u.settle.pos p).state = .closing → (u.settle.pos p).binding = none := by
  have hswaps := h.steps_keep (.swapAll u)
  have hchoices : WorkSteps u.swapAll u.swapAll.finishBoth.chooseBoth := (WorkSteps.finishBoth _).trans (.chooseBoth _)
  have hlater : WorkSteps u.swapAll u.settle :=
    (hchoices.trans ((WorkSteps.single (.block .w0)).trans (.single (.block .w1)))).trans (.workWindows_settle u)
  obtain ⟨hend, _, hclosing⟩ := hswaps.1.steps_keep hlater
  refine ⟨hend, fun w => ?_, fun p hp => ?_⟩
  · have hc := (hswaps.1.steps_keep hchoices).1
    have hset : ∀ (x : State) (v : Win), Cleared s x → ((x.setBlock v).win v).blockTimer = none := fun x v hx => by
      rw [State.setBlock_of_noTasks hx.tasks, State.win_updWin]
    have h0 := hc.setBlock .w0
    have h1 := h0.setBlock .w1
    refine (h1.steps_keep (.workWindows_settle u)).2.1 w ?_
    cases w with
    | w0 => exact (h0.step_keeps (.block .w1)).1 .w0 (hset _ .w0 hc)
    | w1 => exact hset _ .w1 h0
  · have hsame := hclosing p hp
    rw [hsame] at hp ⊢
    exact h.swapAll_closing p hp

/-- With totes in their places each window sends back what it may (R94). -/
theorem Cleared.settle_spent {s u : State} (h : Cleared s u) (hp : Placed u) (hn : Numbered u.totes) (w : Win) :
    u.settle.Spent w := by
  obtain ⟨hps, hns⟩ := (WorkSteps.swapAll u).moves.placed hp hn
  have hspent := State.finishBoth_spent (h.steps_keep (.swapAll u)).1.tasks hps hns w
  exact ((((WorkSteps.chooseBoth _).trans ((WorkSteps.single (.block .w0)).trans (.single (.block .w1)))).trans
    (.workWindows_settle u)).moves).spent hspent

end Sys2Proof.Machine

/-! PROOFS. What a CLEAR sends (R142, R165 to R168), and the statement O49. -/

namespace Sys2Proof.Machine

/-! ### Queues and transmitters at the end of an event (R167, R168) -/

theorem State.driveLights_queues (s : State) :
    s.driveLights.orderQueue = s.orderQueue ∧ s.driveLights.benchQueue = s.benchQueue := by
  have hone : ∀ (p : Pos) (x : State), (x.driveLight p).orderQueue = x.orderQueue ∧ (x.driveLight p).benchQueue = x.benchQueue := by
    intro p x
    unfold State.driveLight
    split <;> exact ⟨rfl, rfl⟩
  simp [State.driveLights, allPos, hone]

theorem State.fillSlot_queues (s : State) :
    s.fillSlot.orderQueue = s.orderQueue ∧ s.fillSlot.benchQueue = s.benchQueue := by
  unfold State.fillSlot
  split <;> exact ⟨rfl, rfl⟩

/-- A transmitter takes notices from the queue of its own link only. -/
theorem State.pump_queues (s : State) (l : Link) : (l ≠ .order → (s.pump l).orderQueue = s.orderQueue) ∧
    (l ≠ .bench → (s.pump l).benchQueue = s.benchQueue) := by
  have hfill := s.fillSlot_queues
  obtain ⟨_, hp⟩ | ⟨r, _, _, hp⟩ | ⟨f, t, _, _, htake, hp⟩ | ⟨_, _, _, hp⟩ := s.pump_cases l <;> rw [hp]
  · exact ⟨fun _ => hfill.1, fun _ => hfill.2⟩
  · rw [(State.fillSlot_queues _).1, (State.fillSlot_queues _).2]
    exact ⟨fun _ => hfill.1, fun _ => hfill.2⟩
  · rw [← hfill.1, ← hfill.2]
    cases l with
    | order =>
      simp only [State.takeQueued] at htake
      split at htake <;> cases htake
      exact ⟨fun h => absurd rfl h, fun _ => rfl⟩
    | bench =>
      simp only [State.takeQueued] at htake
      split at htake <;> cases htake
      exact ⟨fun _ => rfl, fun h => absurd rfl h⟩
    | transport =>
      simp only [State.takeQueued] at htake
      split at htake <;> cases htake
      exact ⟨fun _ => rfl, fun _ => rfl⟩
  · exact ⟨fun _ => hfill.1, fun _ => hfill.2⟩

/-- A transmitter is no matter of the cursors (R171). -/
theorem State.pump_cursor (s : State) (l m : Link) : ((s.pump l).port m).cursor = (s.port m).cursor := by
  have hupd : ∀ (x : State) (k : Link) (f : Port → Port), (∀ p, (f p).cursor = p.cursor) →
      ((x.updPort k f).port m).cursor = (x.port m).cursor := by
    intro x k f hf
    by_cases h : m = k
    · subst h
      rw [State.port_updPort, hf]
    · rw [State.port_updPort_ne _ h]
  have hfill : ∀ x : State, (x.fillSlot.port m).cursor = (x.port m).cursor := by
    intro x
    unfold State.fillSlot
    split
    next r _ _ => exact hupd x .order (fun p => { p with replySlot := some r }) fun _ => rfl
    next => rfl
  obtain ⟨_, hp⟩ | ⟨r, _, _, hp⟩ | ⟨f, t, _, _, htake, hp⟩ | ⟨_, _, _, hp⟩ := s.pump_cases l <;> rw [hp]
  · exact hfill s
  · exact (hfill _).trans ((hupd _ l _ (by exact fun _ => rfl)).trans (hfill s))
  · refine (hupd t l _ (by exact fun _ => rfl)).trans ?_
    rw [State.port, (State.takeQueued_frame htake).2.1]
    exact hfill s
  · exact hfill s

/-- A transmitter that sends takes nothing (R167). -/
theorem State.pump_of_busy {s : State} {l : Link} (hs : s.filled = true) (h : (s.port l).transmitter.isSome = true) :
    s.pump l = s := by
  obtain ⟨f, hf⟩ := Option.isSome_iff_exists.1 h
  simp only [State.pump, State.fillSlot_of_filled hs, hf]

section
variable {s : State} (hw : s.settings.waitingReply = none)
include hw

theorem State.filled_of_noneWaits : s.filled = true := by simp [State.filled, hw]

theorem State.pumpAll_noneWaits : s.pumpAll.settings.waitingReply = none :=
  State.pump_waiting _ (State.pump_waiting _ (State.pump_waiting _ hw))

/-- The bench link: a queue that waits for its transmitter stays, a single notice goes on the idle line. -/
theorem State.pumpAll_bench : ((s.port .bench).transmitter.isSome = true → s.pumpAll.benchQueue = s.benchQueue) ∧
    ∀ n lost, (s.port .bench).transmitter = none → (s.port .bench).replySlot = none → s.benchQueue = ⟨[n], lost⟩ →
      (s.pumpAll.port .bench).transmitter = some (.notice n lost) := by
  have hport : ((s.pump .order).pump .transport).port .bench = s.port .bench :=
    (State.pump_port_ne (by decide) (by simp)).trans (State.pump_port_ne (by decide) (by simp))
  have hqueue : ((s.pump .order).pump .transport).benchQueue = s.benchQueue :=
    ((State.pump_queues _ .transport).2 (by decide)).trans ((State.pump_queues _ .order).2 (by decide))
  have hfilled : ((s.pump .order).pump .transport).filled = true :=
    State.filled_of_noneWaits (State.pump_waiting _ (State.pump_waiting _ hw))
  unfold State.pumpAll
  generalize (s.pump .order).pump .transport = u at *
  rw [← hport, ← hqueue]
  refine ⟨fun hbusy => by rw [State.pump_of_busy hfilled hbusy], fun n lost hidle hslot hq => ?_⟩
  rw [State.pump_of_queued hfilled hidle hslot (f := .notice n lost) (t := { u with benchQueue := ⟨[], false⟩ })
    (by simp only [State.takeQueued, hq]), State.port_updPort]

/-- The order link: as the bench link, and a reply goes before the queue (R167). -/
theorem State.pumpAll_order :
    ((s.port .order).transmitter.isSome = true ∨ (s.port .order).replySlot.isSome = true → s.pumpAll.orderQueue = s.orderQueue) ∧
    ∀ n lost, (s.port .order).transmitter = none → (s.port .order).replySlot = none → s.orderQueue = ⟨[n], lost⟩ →
      (s.pumpAll.port .order).transmitter = some (.notice n lost) := by
  have hfilled := State.filled_of_noneWaits hw
  have hqueue : s.pumpAll.orderQueue = (s.pump .order).orderQueue :=
    ((State.pump_queues _ .bench).1 (by decide)).trans ((State.pump_queues _ .transport).1 (by decide))
  have hport : s.pumpAll.port .order = (s.pump .order).port .order :=
    (State.pump_port_ne (by decide) fun _ => State.pump_waiting _ (State.pump_waiting _ hw)).trans
      (State.pump_port_ne (by decide) fun _ => State.pump_waiting _ hw)
  refine ⟨fun hwaits => hqueue.trans ?_, fun n lost hidle hslot hq => ?_⟩
  · cases htx : (s.port .order).transmitter with
    | some f => rw [State.pump_of_busy hfilled (by rw [htx]; rfl)]
    | none =>
      obtain ⟨r, hr⟩ := Option.isSome_iff_exists.1 (hwaits.resolve_left (by simp [htx]))
      rw [State.pump_of_reply hfilled htx hr, (State.fillSlot_queues _).1]
      rfl
  · rw [hport, State.pump_of_queued hfilled hidle hslot (f := .notice n lost) (t := { s with orderQueue := ⟨[], false⟩ })
      (by simp only [State.takeQueued, hq]), State.port_updPort]

end

/-! ### The event (R142) -/

theorem exec_clear_busy {s : State} {r : Req} (hl : r.link = .order) (h : s.listens .order = true)
    (hjob : s.settings.job.isSome = true) : exec (.clear r) s = .next (s.refusal r .clear .busy) := by
  refine (exec_request rfl s).trans (congrArg Host.Outcome.next ?_)
  rw [serve_outcome (hl ▸ h) (by rw [hl]; rfl)]
  have hheard : (s.heard r.link).settings.job.isSome = true := hjob
  rw [show requestOwner (.clear r) = ownClear from rfl, ownClear, if_pos hheard]
  rfl

theorem exec_clear {s : State} {r : Req} (hl : r.link = .order) (h : s.listens .order = true) (hjob : s.settings.job = none) :
    exec (.clear r) s = .next ((s.heard .order).clearBench.settle.answer r .clear .ok) := by
  refine (exec_request rfl s).trans (congrArg Host.Outcome.next ?_)
  rw [serve_outcome (hl ▸ h) (by rw [hl]; rfl), hl]
  have hheard : ¬ (s.heard .order).settings.job.isSome = true := by
    change ¬ s.settings.job.isSome = true
    rw [hjob]
    exact Bool.false_ne_true
  rw [show requestOwner (.clear r) = ownClear from rfl, ownClear, if_neg hheard]
  rfl

/-- The base after a CLEAR: DRAIN, the watches disabled, the cursors at 0 (R142). -/
theorem State.clearBench_settle_base (s : State) : s.clearBench.settle.base =
    { s.clearTasks.clearModeHolds.clearWatchesCursors.base with mode := .drain } := by
  have hmode : s.clearTasks.clearModeHolds.mode = .drain := s.clearModeHolds_cleared.mode
  rw [settle_base, State.clearBench, clearStep7_base]
  change { s.clearTasks.clearModeHolds.clearWatchesCursors.base with mode := s.clearTasks.clearModeHolds.mode } = _
  rw [hmode]

/-- Before the watches and the cursors CLEAR changes of the base the mode alone. -/
theorem State.clearModeHolds_base (s : State) : s.clearTasks.clearModeHolds.base = { s.base with mode := .drain } :=
  (sendBoth_base _).trans (changeHolds_base _ _ _)

theorem State.watches_of_base {t : State} {b : Base} (h : t.base = b) : t.watches = b.watches := congrArg Base.watches h

theorem State.ports_of_base {t : State} {b : Base} (h : t.base = b) : t.ports = b.ports := congrArg Base.ports h

theorem State.clearBench_watches (s : State) (n : Fin 4) :
    s.clearBench.settle.watches[n] = { s.watches[n] with owner := none } := by
  have hwatches : s.clearTasks.clearModeHolds.watches = s.watches := State.watches_of_base s.clearModeHolds_base
  rw [State.watches_of_base s.clearBench_settle_base]
  change (⟨⟨s.clearTasks.clearModeHolds.watches.toList.map _⟩, _⟩ : Vector WatchEntry 4)[n] = _
  simp [hwatches, Vector.getElem_mk]

theorem State.clearBench_cursor (s : State) (l : Link) :
    (s.clearBench.settle.port l).cursor = ⟨(s.port l).cursor.kind, 0⟩ := by
  have hports : s.clearTasks.clearModeHolds.ports = s.ports := State.ports_of_base s.clearModeHolds_base
  rw [State.port, State.ports_of_base s.clearBench_settle_base, State.port, ← hports]
  cases l <;> rfl

end Sys2Proof.Machine

/-! PROOFS. The statement O49. -/

namespace Sys2Proof.Machine

/-- The notices of a CLEAR on the bench link and, behind its reply, on the order link (R142, R166, R167). -/
theorem State.clear_sends {s u : State} {r : Req} (hr : r.link = .order) (hs : s.linksWf = true)
    (hfree : s.slotBusy .order = false) (hsends : u.base.sends = s.base.sends)
    (horder : u.orderQueue = s.orderQueue.push .benchCleared) (hbench : u.benchQueue = s.benchQueue.push .benchCleared) :
    let t := u.answer r .clear .ok
    (if (s.port .bench).transmitter.isSome = true then
        (s.benchQueue.push .benchCleared).entries <+: t.benchQueue.entries
      else (t.port .bench).transmitter = some (.notice .benchCleared s.benchQueue.lost)) ∧
      (if (s.port .order).transmitter.isSome = true then
        (s.orderQueue.push .benchCleared).entries <+: t.orderQueue.entries
      else if r.tag = 0xFFFFFF then (t.port .order).transmitter = some (.notice .benchCleared s.orderQueue.lost)
      else (t.port .order).transmitter = some (.reply ⟨true, r.tag, 0x26, .ok, []⟩) ∧
        [.benchCleared] <+: t.orderQueue.entries) := by
  intro t
  have hports : ∀ l, (u.port l).transmitter = (s.port l).transmitter ∧ (u.port l).replySlot = (s.port l).replySlot := fun l =>
    ⟨(sends_port hsends l).1, congrArg (fun b : (Link → Option OutFrame × Option Reply) × Option Reply => (b.1 l).2) hsends⟩
  have hwait : u.settings.waitingReply = none := (sends_port hsends .order).2.trans (State.waiting_of_free hfree rfl)
  have hrests := (s.linksWf_iff.1 hs).2.1
  have hidle : ∀ l, ¬ (s.port l).transmitter.isSome = true → (s.port l).transmitter = none ∧ (s.port l).replySlot = none ∧
      s.outbound l = [] := fun l hl => by
    have hrest := hrests l
    simp only [State.restsEmpty, Bool.or_eq_true, hl, Bool.false_eq_true, false_or, Bool.and_eq_true,
      Option.isNone_iff_eq_none, List.isEmpty_iff] at hrest
    exact ⟨by simpa using hl, hrest⟩
  have hsingle : ∀ q : NoticeQueue, q.entries = [] → q.push .benchCleared = ⟨[.benchCleared], q.lost⟩ := fun q hq => by
    rw [NoticeQueue.push_of_lt _ (by rw [hq]; decide), hq]
    rfl
  let rep : Reply := mkReply r ReqKind.clear.code true .ok []
  have ht : t = ((u.reply .order rep).driveLights).pumpAll := by
    simp only [t, State.answer, hr]
    rfl
  obtain ⟨hvports, hvset⟩ := driveLights_ports (u.reply .order rep)
  obtain ⟨hvorder, hvbench⟩ := (u.reply .order rep).driveLights_queues
  have hreply : (u.reply .order rep).orderQueue = u.orderQueue ∧ (u.reply .order rep).benchQueue = u.benchQueue ∧
      (u.reply .order rep).port .bench = u.port .bench := by
    unfold State.reply
    split
    · exact ⟨rfl, rfl, rfl⟩
    · exact ⟨rfl, rfl, u.port_updPort_ne (by decide) _⟩
  have hvwait : (u.reply .order rep).driveLights.settings.waitingReply = none := by
    rw [hvset, State.reply_settings]
    exact hwait
  have hslot : r.tag ≠ 0xFFFFFF → (u.reply .order rep).port .order = { u.port .order with replySlot := some rep } := fun h =>
    State.reply_port h
  have hnoReply : r.tag = 0xFFFFFF → (u.reply .order rep).port .order = u.port .order := fun h => by
    rw [State.reply, if_pos (show rep.tag = Config.noReply from h)]
  have hbusyTx : ((u.reply .order rep).port .order).transmitter = (s.port .order).transmitter := by
    by_cases h : r.tag = 0xFFFFFF
    · rw [hnoReply h]
      exact (hports .order).1
    · rw [hslot h]
      exact (hports .order).1
  rw [ht]
  generalize (u.reply .order rep).driveLights = v at *
  have hbenchPort : v.port .bench = u.port .bench := (hvports .bench).trans hreply.2.2
  have hbenchQueue : v.benchQueue = s.benchQueue.push .benchCleared := hvbench.trans (hreply.2.1.trans hbench)
  have horderQueue : v.orderQueue = s.orderQueue.push .benchCleared := hvorder.trans (hreply.1.trans horder)
  constructor
  · split
    next hbusy =>
      rw [(State.pumpAll_bench hvwait).1 (by rw [hbenchPort, (hports .bench).1]; exact hbusy), hbenchQueue]
    next hnot =>
      obtain ⟨htx, hsl, hout⟩ := hidle .bench hnot
      exact (State.pumpAll_bench hvwait).2 _ _ (by rw [hbenchPort, (hports .bench).1]; exact htx)
        (by rw [hbenchPort, (hports .bench).2]; exact hsl)
        (by rw [hbenchQueue]; exact hsingle _ (List.map_eq_nil_iff.1 hout))
  · split
    next hbusy =>
      rw [(State.pumpAll_order hvwait).1 (.inl (by rw [hvports, hbusyTx]; exact hbusy)), horderQueue]
    next hnot =>
      obtain ⟨htx, hsl, hout⟩ := hidle .order hnot
      have hone := hsingle s.orderQueue (List.map_eq_nil_iff.1 hout)
      split
      next htag =>
        exact (State.pumpAll_order hvwait).2 _ _ (by rw [hvports, hbusyTx]; exact htx)
          (by rw [hvports, hnoReply htag, (hports .order).2]; exact hsl) (by rw [horderQueue]; exact hone)
      next htag =>
        have hvslot : (v.port .order).replySlot = some rep := by rw [hvports, hslot htag]
        refine ⟨?_, ?_⟩
        · rw [State.pumpAll_port_replied (fun _ => hvwait) hvslot, Port.replied, hvports, hbusyTx, htx]
          rfl
        · rw [(State.pumpAll_order hvwait).1 (.inr (by rw [hvslot]; rfl)), horderQueue, hone]

/-- What a CLEAR leaves of the base (R142). -/
theorem State.clearBench_settle_keeps (s : State) : s.clearBench.settle.phase = s.phase ∧
    s.clearBench.settle.exposure = s.exposure ∧ s.clearBench.settle.holdLine = s.holdLine := by
  have hbase := s.clearBench_settle_base
  have hmode := s.clearModeHolds_base
  generalize s.clearBench.settle = u at *
  generalize s.clearTasks.clearModeHolds = v at *
  exact ⟨(congrArg Base.phase hbase :).trans (congrArg Base.phase hmode :),
    (congrArg Base.exposure hbase :).trans (congrArg Base.exposure hmode :),
    (congrArg Base.holdLine hbase :).trans (congrArg Base.holdLine hmode :)⟩

section
variable {ms : Ms} {x y : Window} (h : Window.Cleared ms x y)
include h

/-- A window either keeps its lift, fetch, return and confirms, or has sent its top back. -/
theorem Window.Cleared.cases : (y.lift = x.lift ∧ y.fetch = x.fetch ∧ y.ret = x.ret ∧ y.confirms = x.confirms) ∨
    ∃ id rest, x.lift = id :: rest ∧ x.maySend ∧ y.lift = rest ∧ y.fetch = fetchAfterPop x.fetch rest ∧
      y.ret = some ⟨id, ms⟩ ∧ y.confirms = if rest.isEmpty then x.confirms else 0 := by
  obtain hcore | ⟨id, rest, hlift, hmay, hcore⟩ := h.core
  · simp only [Window.core, Window.clearedCore, Prod.mk.injEq] at hcore
    exact .inl ⟨hcore.1, hcore.2.1, hcore.2.2.1, hcore.2.2.2.1⟩
  · simp only [Window.core, Window.sentCore, Prod.mk.injEq] at hcore
    exact .inr ⟨id, rest, hlift, hmay, hcore.1, hcore.2.1, hcore.2.2.1, hcore.2.2.2.1⟩

/-- Holds, cause and presence, whether a tote was sent back or not. -/
theorem Window.Cleared.lines : y.holds = x.holds.released ∧ y.faultCause = x.faultCause ∧ y.present = x.present := by
  obtain hcore | ⟨id, rest, _, _, hcore⟩ := h.core
  · simp only [Window.core, Window.clearedCore, Prod.mk.injEq] at hcore
    exact hcore.2.2.2.2
  · simp only [Window.core, Window.sentCore, Prod.mk.injEq] at hcore
    exact hcore.2.2.2.2

/-- The fetch and the confirms after a CLEAR by what is left on the lift (R94, R142). -/
theorem Window.Cleared.fetch_confirms :
    (if y.lift = x.lift then y.fetch = x.fetch ∧ y.confirms = x.confirms
      else if y.lift = [] then
        y.fetch = (x.fetch.map fun f => { f with kind := .plain }) ∧ y.confirms = x.confirms
      else y.fetch = x.fetch ∧ y.confirms = 0) ∧
      (x.lift = [] → y.lift = [] ∧ y.ret = x.ret) ∧ (x.ret.isSome = true → y.lift = x.lift ∧ y.ret = x.ret) := by
  obtain ⟨hlift, hfetch, hret, hconf⟩ | ⟨id, rest, hx, hmay, hlift, hfetch, hret, hconf⟩ := h.cases
  · exact ⟨by rw [if_pos hlift]; exact ⟨hfetch, hconf⟩, fun he => ⟨hlift.trans he, hret⟩, fun _ => ⟨hlift, hret⟩⟩
  · refine ⟨?_, fun he => absurd (hx.symm.trans he) nofun, fun hs => absurd hs (by rw [hmay.2.2]; exact Bool.false_ne_true)⟩
    rw [if_neg (by rw [hlift, hx]; exact fun he => absurd (congrArg List.length he) (by simp)), hlift, hfetch, hconf]
    cases rest with
    | nil => exact ⟨rfl, rfl⟩
    | cons a as => simp [fetchAfterPop]

end

/-- States of the same tables agree in all but lights, ports, queues and a STORE reply that waits. -/
theorem State.shows_of_tables {t u : State} (h : t.tables = u.tables) :
    (t.tasks = u.tasks ∧ t.mode = u.mode ∧ t.counters = u.counters ∧ t.exposure = u.exposure ∧ t.phase = u.phase ∧
      t.holdLine = u.holdLine ∧ t.totes = u.totes ∧ t.watches = u.watches ∧ t.lane = u.lane ∧ t.arrival = u.arrival) ∧
    (∀ w, t.win w = u.win w) ∧ ∀ p, (t.pos p).unlighted = (u.pos p).unlighted :=
  ⟨⟨(congrArg State.tasks h :), (congrArg State.mode h :), (congrArg State.counters h :), (congrArg State.exposure h :),
    (congrArg State.phase h :), (congrArg State.holdLine h :), (congrArg State.totes h :), (congrArg State.watches h :),
    (congrArg State.lane h :), (congrArg State.arrival h :)⟩,
    fun w => congrArg (fun ws : PerWin Window => ws.get w) (congrArg State.windows h :), State.unlighted_of_tables h⟩

/-- Where no STORE reply waits the settings agree too. -/
theorem State.settings_of_tables {t u : State} (h : t.tables = u.tables) (hu : u.settings.waitingReply = none)
    (ht : t.settings.waitingReply = none) : t.settings = u.settings := by
  have hset : ({ t.settings with waitingReply := none } : SettingsStore) = { u.settings with waitingReply := none } :=
    congrArg State.settings h
  calc t.settings = { t.settings with waitingReply := none } := by rw [← ht]
    _ = { u.settings with waitingReply := none } := hset
    _ = u.settings := by rw [← hu]

/-- A position after a CLEAR's event, its light aside (R142). -/
theorem Position.Cleared.unlighted {ms : Ms} {x y z : Position} (h : Position.Cleared ms x y) (hz : z.unlighted = y.unlighted) :
    Position.Cleared ms x { z with light := x.light } := by
  obtain ⟨hcore, hlock, hholder, hstate⟩ := h
  have hzy : { z with light := y.light } = y := congrArg (fun q : Position => { q with light := y.light }) hz
  have hlight : y.light = x.light := congrArg (fun c => c.2.2.2.2.2.2) hcore
  rw [← hlight, hzy]
  exact ⟨hcore, hlock, hholder, hstate⟩

/-- What a CLEAR says of one position: the lock free, the rest kept but for a CLOSING one with a binding, which swaps. -/
theorem Position.Cleared.shows {ms : Ms} {x y : Position} (h : Position.Cleared ms x y)
    (hclosing : y.state = .closing → y.binding = none) :
    (y.lock = none ∧ y.binding = x.binding ∧ y.fill = x.fill ∧ y.floor = x.floor ∧ y.lastHolder = x.lastHolder) ∧
      y.present = x.present ∧ (x.state = .closing → x.binding ≠ none → y.state = .swapping ∧ y.swapTimer = some ms) ∧
      (x.state ≠ .closing → y.state = x.state ∧ y.swapTimer = x.swapTimer) := by
  obtain ⟨hcore, hlock, hholder, hstate⟩ := h
  simp only [Position.core, Prod.mk.injEq] at hcore
  obtain ⟨hbinding, hfill, hfloor, hpresent, _⟩ := hcore
  refine ⟨⟨hlock, hbinding, hfill, hfloor, hholder⟩, hpresent, fun hx hb => ?_, fun hx => ?_⟩
  · obtain ⟨hsame, _⟩ | ⟨_, hswap⟩ := hstate
    · exact absurd (hbinding.symm.trans (hclosing (hsame.trans hx))) hb
    · exact hswap
  · exact hstate.resolve_right fun hs => hx hs.1

/-- No STORE reply waits after an answer where none waited before (R159). -/
theorem State.answer_noneWaits {u : State} {r : Req} {k : ReqKind} {c : Reason} (h : u.settings.waitingReply = none) :
    (u.answer r k c).settings.waitingReply = none := by
  rw [State.answer, State.conclude]
  refine State.pumpAll_noneWaits ?_
  rw [(driveLights_ports _).2, State.reply_settings]
  exact h

/-- An answer is no matter of the cursors (R171). -/
theorem State.answer_cursor (u : State) (r : Req) (k : ReqKind) (c : Reason) (l : Link) :
    ((u.answer r k c).port l).cursor = (u.port l).cursor := by
  rw [State.answer, State.conclude, State.pumpAll, State.pump_cursor, State.pump_cursor, State.pump_cursor,
    (driveLights_ports _).1]
  unfold State.reply
  split
  · rfl
  · by_cases hl : l = r.link
    · subst hl
      rw [State.port_updPort]
    · rw [State.port_updPort_ne _ hl]

/-- What a window of a released bench has sent in the end (R94, R142). -/
theorem Window.Cleared.sent {u : State} {w : Win} {x : Window} {ms : Ms} (h : Window.Cleared ms x (u.win w)) (hspent : u.Spent w)
    {id : ToteId} {rest : List ToteId} (hx : x.lift = id :: rest) :
    if x.holds.line = false ∧ x.holds.fault = false ∧ x.ret = none then
      (u.win w).lift = rest ∧ (u.win w).ret = some ⟨id, ms⟩
    else (u.win w).lift = id :: rest ∧ (u.win w).ret = x.ret := by
  obtain ⟨hlift, _, hret, _⟩ | ⟨top, below, htop, hmay, hlift, _, hret, _⟩ := h.cases
  · rw [if_neg]
    · exact ⟨hlift.trans hx, hret⟩
    · rintro ⟨hline, hfault, hnone⟩
      obtain hs | hs | hs := hspent
      · exact hs (hret.trans hnone)
      · rw [State.held, h.lines.1] at hs
        simp [Holds.released, Holds.any, hline, hfault] at hs
      · cases (hx.symm.trans hlift.symm).trans hs
  · obtain ⟨rfl, rfl⟩ := List.cons.inj (hx.symm.trans htop)
    exact (if_pos hmay).mpr ⟨hlift, hret⟩

/-- A tote's record after a CLEAR (R142). -/
theorem Tote.Cleared.shows {s : State} {x y : Tote} (h : Tote.Cleared s.clearLane x y) :
    match x.state with
    | .inLane _ => { y with orphanTimer := x.orphanTimer } = x
    | .onLift _ => { y with state := x.state, finished := x.finished } = x
    | _ => y = x := by
  unfold Tote.Cleared at h
  revert h
  cases x.state with
  | inLane l => exact fun h => by rw [h]; rfl
  | onLift w => exact fun h => h.2
  | _ => exact fun h => h

/-- Hearing a frame is no matter of what a CLEAR keeps. -/
theorem Cleared.of_heard {s u : State} {l : Link} (h : Cleared (s.heard l) u) : Cleared s u := by
  have hms : (s.heard l).returnMs = s.returnMs := by
    rw [State.returnMs, State.setting, State.item]
    rfl
  obtain ⟨htasks, hwindows, hpositions, hlane, harrival, hmode, hset, horder, hbench⟩ := h
  rw [hms] at hwindows hpositions
  exact ⟨htasks, hwindows, hpositions, hlane, harrival, hmode, hset, horder, hbench⟩

/-- Settles O49: the work of a CLEAR marks, sends back and swaps out and nothing else; its answer takes the frames. -/
theorem clear : Obligations.Clear := by
  refine fun r s hl h => ⟨exec_clear_busy hl h, fun hjob => ⟨_, exec_clear hl h hjob, ?_⟩⟩
  have hfree := (listens_iff.1 h).2
  obtain ⟨hc, hblock, hclosing⟩ := (s.heard .order).clearBench_cleared.settle_ends
  obtain ⟨hphase, hexposure, hline⟩ := (s.heard .order).clearBench_settle_keeps
  have hwatches := (s.heard .order).clearBench_watches
  have hcursor : ∀ l, ((s.heard .order).clearBench.settle.port l).cursor = ⟨(s.port l).cursor.kind, 0⟩ := fun l => by
    rw [(s.heard .order).clearBench_cursor l]
    cases l <;> rfl
  have hsends : (s.heard .order).clearBench.settle.base.sends = s.base.sends :=
    (congrArg Base.sends (settle_base _)).trans ((sends_clearBench _).trans (sends_heard s .order))
  have hledger : (s.heard .order).clearBench.settle.ledger = s.ledger :=
    (settle_ledger _).trans (clearBench_ledger (s.heard .order))
  have hplaces : s.totesWf → s.placesWf → RecordsCleared s.clearLane s (s.heard .order).clearBench.settle ∧
      ∀ w, (s.heard .order).clearBench.settle.Spent w := fun htotes hwf => by
    obtain ⟨hp, hn⟩ := (placesWf_iff htotes.1).1 hwf
    have hp' : Placed (s.heard .order) := hp.congr rfl rfl (fun _ => rfl) fun _ => rfl
    have hstart := State.clearBench_records hp' hn
    obtain ⟨hplaced, hnumbered, hend⟩ := State.clearBench_settle_records hp' hn
    exact ⟨⟨hplaced, hnumbered, hend⟩, (s.heard .order).clearBench_cleared.settle_spent hstart.placed hstart.numbered⟩
  replace hc := hc.of_heard
  generalize (s.heard .order).clearBench.settle = u at *
  have hwait : u.settings.waitingReply = none := (sends_port hsends .order).2.trans (State.waiting_of_free hfree rfl)
  obtain ⟨⟨htasks, hmode, hcounters, hexp, hph, hhl, htotes, hwat, hlane, harrival⟩, hwin, hpos⟩ :=
    State.shows_of_tables (u.answer_tables r .clear .ok)
  have hcursors : ∀ l, ((u.answer r .clear .ok).port l).cursor = ⟨(s.port l).cursor.kind, 0⟩ := fun l => by
    rw [State.answer_cursor, hcursor]
  have hnotices := fun hs => State.clear_sends hl hs hfree hsends hc.orderQueue hc.benchQueue
  have hsettings := (State.settings_of_tables (u.answer_tables r .clear .ok) hwait (State.answer_noneWaits hwait)).trans hc.settings
  generalize u.answer r .clear .ok = t at *
  have hposition : ∀ p, _ := fun p => ((hc.positions p).unlighted (hpos p)).shows fun hp =>
    (congrArg (fun q : Position => q.binding) (hpos p)).trans
      (hclosing p ((congrArg (fun q : Position => q.state) (hpos p)).symm.trans hp))
  have hwindow : ∀ w, Window.Cleared s.returnMs (s.win w) (t.win w) := fun w => hwin w ▸ hc.windows w
  have hrecord : s.totesWf → s.placesWf → ∀ (id : ToteId) (x : Tote), s.tote? id = some x →
      ∃ y, t.tote? id = some y ∧ Tote.Cleared s.clearLane x y := fun hwf hp id x hx => by
    rw [State.tote?, htotes]
    exact (hplaces hwf hp).1.records id x hx
  refine ⟨htasks.trans hc.tasks, hmode.trans hc.mode, hcounters.trans (congrArg Prod.fst hledger :), hsettings,
    hexp.trans hexposure, hph.trans hphase, hhl.trans hline, ?_, fun w => ?_, fun p => (hposition p).1, fun n => ?_, hcursors,
    hlane.trans hc.lane, harrival.trans hc.arrival, fun w => (hwindow w).lines.2.2, fun p => (hposition p).2.1, hnotices,
    fun hwf hp id x l hx hst => ?_, fun p => (hposition p).2.2.1, fun p => (hposition p).2.2.2,
    fun hwf hp w id rest hlift => ?_, fun w => ⟨?_, (hwindow w).fetch_confirms⟩, fun hwf hp id x hx => ?_⟩
  · rw [htotes]
    exact (congrArg Prod.snd hledger :)
  · have hglow := (hwindow w).glow
    simp only [Window.glow, Prod.mk.injEq] at hglow
    obtain ⟨hlit, hconfirm, hguard, hlast⟩ := hglow
    obtain ⟨hholds, hcause, _⟩ := (hwindow w).lines
    exact ⟨hlit, hconfirm, hguard, hlast, hcause, hholds⟩
  · rw [hwat]
    exact hwatches n
  · obtain ⟨y, hy, hxy⟩ := hrecord hwf hp id x hx
    obtain rfl := (State.mem_of_tote? hx).2
    simp only [Tote.Cleared, hst] at hxy
    rw [hy, hxy]
    rfl
  · rw [hwin]
    exact (hc.windows w).sent ((hplaces hwf hp).2 w) hlift
  · rw [hwin]
    exact hblock w
  · obtain ⟨y, hy, hxy⟩ := hrecord hwf hp id x hx
    exact ⟨y, hy, hxy.shows⟩

end Sys2Proof.Machine

/-! PROOFS. What is lit where (R11, R40, R48, R60 to R62, R68, R114) in the course of an event: the clauses of O59 as facts about
single records, with what an event that is not done yet may leave open. -/

namespace Sys2Proof.Machine

/-! ### The tables underneath -/

/-- The ground on which records find each other: totes in their places, every record with an id and a number of its own. -/
structure Ground (s : State) : Prop where
  placed : Placed s
  numbered : Numbered s.totes
  distinct : s.tasksDistinct
  ascending : (s.tasks.map fun t => t.recNo).Pairwise (· < ·)
  below : ∀ t ∈ s.tasks, t.recNo < Config.taskRecords

/-- Moves end tasks and keep their cores, and keep totes in their places. -/
theorem Moves.ground {s t : State} (h : Moves s t) (hs : Ground s) : Ground t := by
  obtain ⟨hp, hn⟩ := h.placed hs.placed hs.numbered
  have hcores := h.frame.tasks
  refine ⟨hp, hn, ?_, ?_, fun x hx => ?_⟩
  · have hids := hcores.map fun c => c.2.1
    simp only [List.map_map] at hids
    exact hs.distinct.sublist hids
  · have hnos := hcores.map fun c => c.1
    simp only [List.map_map] at hnos
    exact hs.ascending.sublist hnos
  · obtain ⟨y, hy, hyx⟩ := List.mem_map.1 (hcores.subset (List.mem_map_of_mem hx))
    have hno : y.recNo = x.recNo := congrArg Prod.fst hyx
    exact hno ▸ hs.below y hy

/-- A live task's record is the one that its id finds. -/
theorem Ground.task?_of_mem {s : State} (h : Ground s) {t : Task} (ht : t ∈ s.tasks) : s.task? t.id = some t := by
  cases hfound : s.task? t.id with
  | none => exact absurd (List.find?_eq_none.1 hfound t ht) (by simp)
  | some x =>
    have hx := List.mem_of_find?_eq_some hfound
    rw [List.inj_on_of_nodup_map h.distinct hx ht (State.id_of_task? hfound)]

theorem State.mem_of_task? {s : State} {id : TaskId} {t : Task} (h : s.task? id = some t) : t ∈ s.tasks :=
  List.mem_of_find?_eq_some h

theorem State.named_iff {s : State} {id : ToteId} : s.named id = true ↔ ∃ t ∈ s.tasks, t.tote = id := by
  simp [State.named]

theorem State.named_of_task? {s : State} {l : TaskId} {t : Task} (h : s.task? l = some t) : s.named t.tote = true :=
  State.named_iff.2 ⟨t, State.mem_of_task? h, rfl⟩

/-- The top of a window stands on its lift (R78). -/
theorem Ground.place_of_top {s : State} (h : Ground s) {w : Win} {id : ToteId} (htop : s.top? w = some id) :
    s.place id = some (.onLift w) := (h.placed.agree id (.onLift w)).1 (List.mem_of_mem_head? htop)

/-- No tote is the top of two windows. -/
theorem Ground.top_inj {s : State} (h : Ground s) {v w : Win} {id : ToteId} (hv : s.top? v = some id)
    (hw : s.top? w = some id) : v = w :=
  ToteState.onLift.inj (Option.some.inj ((h.place_of_top hv).symm.trans (h.place_of_top hw)))

theorem Moves.positionOf {s t : State} (h : Moves s t) (k : OrderToteId) : t.positionOf k = s.positionOf k :=
  State.positionOf_congr (fun p => congrArg Prod.fst (h.frame.positions p)) k

/-! ### What is open within an event -/

/-- What an event that is not done yet leaves open: totes whose owners are at work (condemned, expired, entering the lane), totes
whose orphan timer is still to start, a position whose lock is still to be given back, windows whose task is still to be unlit. -/
structure Gap where
  tote : ToteId → Prop
  orphan : ToteId → Prop
  lock : Option Pos
  dim : Win → Prop

/-- Nothing is open. -/
def Gap.closed : Gap := ⟨fun _ => False, fun _ => False, none, fun _ => False⟩

/-- Does a window have the task lit (R114)? -/
def State.Lit (s : State) (l : TaskId) : Prop := ∃ w : Win, (s.win w).lit = some l

theorem State.litAt_isSome_iff {s : State} {l : TaskId} : (s.litAt l).isSome = true ↔ s.Lit l := by
  rw [Option.isSome_iff_ne_none, ne_eq, State.litAt_eq_none_iff]
  simp [State.Lit]

/-- Is the tote on its way out of the lane (R13)? -/
def ToteState.leavesLane : ToteState → Bool
  | .leavingLane _ => true
  | _ => false

/-- A live task is LIT where a window has it lit, and has otherwise the state of its tote's place (R40, R44 to R48, R50). -/
structure Task.Fits (g : Gap) (s : State) (t : Task) : Prop where
  lit : s.Lit t.id → t.state = .lit
  unlit : ¬ s.Lit t.id → t.state = taskStateAt (s.place t.tote) ∨ (g.tote t.tote ∧ t.state = .waiting)
  await : t.awaitTimer.isSome = true ↔ t.state = .waiting
  expired : ∀ x, s.tote? t.tote = some x → x.expired = true → t.state = .waiting ∨ g.tote t.tote

/-- The timers of a tote record (R11, R13). -/
structure Tote.Fits (g : Gap) (s : State) (x : Tote) : Prop where
  orphan : x.orphanTimer.isSome = true → x.state.inLaneNow = true ∧ s.named x.id = false
  alone : x.state.inLaneNow = true → s.named x.id = false → x.orphanTimer.isSome = true ∨ g.orphan x.id
  leaving : x.laneReturnTimer.isSome = x.state.leavesLane

/-- Window `w` has task `t` lit to position `p` (R40, R62, R114). -/
structure State.Shines (s : State) (w : Win) (t : Task) (p : Pos) : Prop where
  lit : (s.win w).lit = some t.id
  task : s.task? t.id = some t
  top : s.top? w = some t.tote
  pos : s.positionOf t.orderTote = some p
  lock : (s.pos p).lock = some w
  timer : (s.win w).confirmTimer.isSome = true ∨ t.overdue = true

/-- The conditions under which it may have it lit (R40, R91, R92, R118). -/
structure State.Bright (g : Gap) (s : State) (w : Win) (t : Task) (p : Pos) : Prop where
  fetch : (s.win w).fetch = none
  held : s.held w = false
  top : s.topFinished w = false ∨ g.tote t.tote
  pos : (s.pos p).state = .bound ∨ (s.pos p).state = .closing

/-- What a window shows: nothing lit and no timer, or a task lit as it may be. -/
structure State.WinFits (g : Gap) (s : State) (w : Win) : Prop where
  dark : (s.win w).lit = none → (s.win w).confirmTimer = none ∧ (s.win w).guardTimer = none
  lit : ∀ l, (s.win w).lit = some l → ∃ t p, s.Shines w t p ∧ g.lock ≠ some p ∧ (¬ g.dim w → s.Bright g w t p)

/-- What a position shows (R60 to R62, R68). -/
structure State.PosFits (g : Gap) (s : State) (p : Pos) : Prop where
  bound : (s.pos p).binding.isSome = true ↔ (s.pos p).state ≠ .empty
  names : ∀ b, (s.pos p).binding = some b → s.positionOf b.orderTote = some p
  swap : (s.pos p).swapTimer.isSome = true ↔ (s.pos p).state = .swapping
  pull : (s.pos p).beforePull.isSome = true ↔ (s.pos p).state = .pulled
  lock : ∀ w, (s.pos p).lock = some w → g.lock = some p ∨ ∃ t, s.Shines w t p

/-- Tasks, totes, windows and positions agree but for what is open. -/
structure Fits (g : Gap) (s : State) : Prop where
  task : ∀ l t, s.task? l = some t → t.Fits g s
  tote : ∀ id x, s.tote? id = some x → x.Fits g s
  win : ∀ w, s.WinFits g w
  pos : ∀ p, s.PosFits g p

/-- What the work at the end of an event makes good: no block timer beside a task lit to a BOUND position, and no CLOSING position
with a free lock (R68, R93). -/
structure Sharp (s : State) : Prop where
  block : ∀ w p, (s.win w).lit ≠ none → (s.pos p).lock = some w → (s.win w).blockTimer = none ∨ (s.pos p).state = .closing
  closing : ∀ p, (s.pos p).state = .closing → (s.pos p).lock ≠ none

/-! ### The clauses of the statement -/

theorem State.taskFits_iff {s : State} {t : Task} : s.taskFits t = true ↔ t.Fits .closed s := by
  have hplace : taskStateAt ((s.tote? t.tote).map fun x => x.state) = taskStateAt (s.place t.tote) := rfl
  have hexp : ((s.tote? t.tote).all fun x => !x.expired || t.state == .waiting) = true ↔
      ∀ x, s.tote? t.tote = some x → x.expired = true → t.state = .waiting := by
    cases s.tote? t.tote with
    | none => simp
    | some x =>
      simp only [Option.all_some, Bool.or_eq_true, Bool.not_eq_true', beq_iff_eq, Option.some.injEq, forall_eq']
      cases x.expired <;> simp
  have hawait : (t.awaitTimer.isSome == (t.state == .waiting)) = true ↔ (t.awaitTimer.isSome = true ↔ t.state = .waiting) := by
    rw [beq_iff_eq, Bool.eq_iff_iff, beq_iff_eq]
  have hstate : (t.state == if (s.litAt t.id).isSome then TaskState.lit
      else taskStateAt ((s.tote? t.tote).map fun x => x.state)) = true ↔
        (s.Lit t.id → t.state = .lit) ∧ (¬ s.Lit t.id → t.state = taskStateAt (s.place t.tote)) := by
    rw [beq_iff_eq, hplace]
    by_cases hl : s.Lit t.id
    · rw [if_pos (State.litAt_isSome_iff.2 hl)]
      simp [hl]
    · rw [if_neg fun h => hl (State.litAt_isSome_iff.1 h)]
      simp [hl]
  rw [State.taskFits, Bool.and_eq_true, Bool.and_eq_true, hexp, hawait, hstate]
  constructor
  · rintro ⟨⟨⟨hlit, hunlit⟩, haw⟩, hx⟩
    exact ⟨hlit, fun h => .inl (hunlit h), haw, fun x hx' he => .inl (hx x hx' he)⟩
  · rintro ⟨hlit, hunlit, haw, hx⟩
    exact ⟨⟨⟨hlit, fun h => (hunlit h).resolve_right fun h => h.1⟩, haw⟩, fun x hx' he => (hx x hx' he).resolve_right id⟩

theorem State.toteTimersFit_iff {s : State} {x : Tote} : s.toteTimersFit x = true ↔ x.Fits .closed s := by
  have hunfold : s.toteTimersFit x = ((x.orphanTimer.isSome == (x.state.inLaneNow && !s.named x.id)) &&
      (x.laneReturnTimer.isSome == x.state.leavesLane)) := by
    unfold State.toteTimersFit
    cases x.state <;> rfl
  rw [hunfold, Bool.and_eq_true, beq_iff_eq, beq_iff_eq]
  constructor
  · rintro ⟨horphan, hleave⟩
    refine ⟨fun h => ?_, fun h hn => .inl ?_, hleave⟩
    · rw [horphan] at h
      simpa using h
    · rw [horphan, h, hn]
      rfl
  · rintro ⟨horphan, halone, hleave⟩
    refine ⟨?_, hleave⟩
    rw [Bool.eq_iff_iff, Bool.and_eq_true, Bool.not_eq_true']
    exact ⟨horphan, fun h => (halone h.1 h.2).resolve_right id⟩

/-- A lit window's clause, with the one about the block timer. -/
theorem State.litFits_iff {s : State} {w : Win} : s.litFits w = true ↔ s.WinFits .closed w ∧
    ∀ t p, s.Shines w t p → (s.win w).blockTimer = none ∨ (s.pos p).state = .closing := by
  unfold State.litFits
  cases hlit : (s.win w).lit with
  | none =>
    simp only [Bool.and_eq_true, Option.isNone_iff_eq_none]
    constructor
    · exact fun h => ⟨⟨fun _ => h, fun l hl => by rw [hlit] at hl; cases hl⟩, fun t p h => by
        rw [h.lit] at hlit; cases hlit⟩
    · exact fun h => h.1.dark hlit
  | some l =>
    simp only [Option.any_eq_true, Bool.and_eq_true, Bool.or_eq_true, beq_iff_eq, Bool.not_eq_true', Option.isNone_iff_eq_none]
    constructor
    · rintro ⟨t, ht, ⟨⟨⟨⟨htop, hfetch⟩, hheld⟩, hfin⟩, htimer⟩, p, hp, ⟨hlock, hstate⟩, hblock⟩
      have hid := State.id_of_task? ht
      have hshines : s.Shines w t p := ⟨by rw [hlit, hid], by rw [hid, ht], htop, hp, hlock, htimer⟩
      refine ⟨⟨fun h => (by rw [hlit] at h; cases h), fun l' _ => ⟨t, p, hshines, nofun, fun _ =>
        ⟨hfetch, hheld, .inl hfin, hstate⟩⟩⟩, fun t' p' h => ?_⟩
      have hid' : t'.id = l := Option.some.inj (h.lit.symm.trans hlit)
      obtain rfl : t' = t := Option.some.inj (h.task.symm.trans (hid'.symm ▸ ht))
      obtain rfl : p' = p := Option.some.inj (h.pos.symm.trans hp)
      exact hblock
    · rintro ⟨hfits, hblock⟩
      obtain ⟨t, p, h, _, hbright⟩ := hfits.lit l hlit
      obtain ⟨hfetch, hheld, hfin, hstate⟩ := hbright id
      have hid : t.id = l := Option.some.inj (h.lit.symm.trans hlit)
      exact ⟨t, hid ▸ h.task, ⟨⟨⟨⟨h.top, hfetch⟩, hheld⟩, hfin.resolve_right id⟩, h.timer⟩, p, h.pos,
        ⟨h.lock, hstate⟩, hblock t p h⟩

theorem State.litTask_eq_some {s : State} {w : Win} {t : Task} :
    s.litTask w = some t ↔ (s.win w).lit = some t.id ∧ s.task? t.id = some t := by
  rw [State.litTask, Option.bind_eq_some_iff]
  constructor
  · rintro ⟨l, hl, ht⟩
    rw [State.id_of_task? ht]
    exact ⟨hl, ht⟩
  · rintro ⟨hl, ht⟩
    exact ⟨t.id, hl, ht⟩

/-- A position's clause, given those of the windows, with the one about a CLOSING position. -/
theorem State.positionFits_iff {s : State} (hwin : ∀ w, s.WinFits .closed w) {p : Pos} : s.positionFits p = true ↔
    s.PosFits .closed p ∧ ((s.pos p).state = .closing → (s.pos p).lock ≠ none) := by
  have hbound : ∀ a : Bool, ∀ q : PosState, (a == ((s.pos p).state == q)) = true ↔ (a = true ↔ (s.pos p).state = q) := fun a q => by
    rw [beq_iff_eq, Bool.eq_iff_iff, beq_iff_eq]
  have hempty : ((s.pos p).binding.isSome == ((s.pos p).state != .empty)) = true ↔
      ((s.pos p).binding.isSome = true ↔ (s.pos p).state ≠ .empty) := by
    rw [beq_iff_eq, Bool.eq_iff_iff, bne_iff_ne]
  have hlock : ((s.pos p).lock.elim ((s.pos p).state != .closing) fun w =>
      (s.litTask w).any fun t => s.positionOf t.orderTote == some p) = true ↔
        (∀ w, (s.pos p).lock = some w → ∃ t, s.Shines w t p) ∧ ((s.pos p).state = .closing → (s.pos p).lock ≠ none) := by
    cases hl : (s.pos p).lock with
    | none => simp
    | some w =>
      simp only [Option.elim_some, Option.any_eq_true, beq_iff_eq, Option.some.injEq, forall_eq', ne_eq, reduceCtorEq,
        not_false_iff, implies_true, and_true, State.litTask_eq_some]
      constructor
      · rintro ⟨t, ⟨hlit, ht⟩, hp⟩
        obtain ⟨t', p', h, _, _⟩ := (hwin w).lit t.id hlit
        have hid : t'.id = t.id := Option.some.inj (h.lit.symm.trans hlit)
        obtain rfl : t' = t := Option.some.inj (h.task.symm.trans (hid ▸ ht))
        obtain rfl : p' = p := Option.some.inj (h.pos.symm.trans hp)
        exact ⟨t', h⟩
      · rintro ⟨t, h⟩
        exact ⟨t, ⟨h.lit, h.task⟩, h.pos⟩
  have hnames : ((s.pos p).binding.all fun b => s.positionOf b.orderTote == some p) = true ↔
      ∀ b, (s.pos p).binding = some b → s.positionOf b.orderTote = some p := by
    cases (s.pos p).binding <;> simp
  have hunfold : s.positionFits p = (((s.pos p).binding.isSome == ((s.pos p).state != .empty)) &&
      ((s.pos p).binding.all fun b => s.positionOf b.orderTote == some p) &&
      ((s.pos p).swapTimer.isSome == ((s.pos p).state == .swapping)) &&
      ((s.pos p).beforePull.isSome == ((s.pos p).state == .pulled)) &&
      ((s.pos p).lock.elim ((s.pos p).state != .closing) fun w =>
        (s.litTask w).any fun t => s.positionOf t.orderTote == some p)) := by
    unfold State.positionFits
    cases (s.pos p).lock <;> rfl
  rw [hunfold]
  simp only [Bool.and_eq_true]
  rw [hempty, hnames, hbound, hbound, hlock]
  constructor
  · rintro ⟨⟨⟨⟨hb, hn⟩, hs⟩, hp⟩, hl, hc⟩
    exact ⟨⟨hb, hn, hs, hp, fun w hw => .inr (hl w hw)⟩, hc⟩
  · rintro ⟨⟨hb, hn, hs, hp, hl⟩, hc⟩
    exact ⟨⟨⟨⟨hb, hn⟩, hs⟩, hp⟩, fun w hw => (hl w hw).resolve_left nofun, hc⟩

/-- On its ground the statement's invariant is: everything fits, nothing open, and the end of the event is made good. -/
theorem State.litWf_iff {s : State} (hplaced : Placed s) (hnumbered : Numbered s.totes) (hdistinct : s.tasksDistinct) :
    s.litWf ↔ Ground s ∧ Fits .closed s ∧ Sharp s := by
  constructor
  · rintro ⟨htasks, htotes, hw0, hw1, hpos, hasc, hbelow⟩
    have hw : ∀ w, s.litFits w = true := fun w => by cases w <;> assumption
    have hwin : ∀ w, s.WinFits .closed w := fun w => (State.litFits_iff.1 (hw w)).1
    refine ⟨⟨hplaced, hnumbered, hdistinct, hasc, hbelow⟩, ⟨fun l t ht => ?_, fun id x hx => ?_, hwin, fun p => ?_⟩,
      ⟨fun w p _ hp => ?_, fun p => ?_⟩⟩
    · exact State.taskFits_iff.1 (htasks t (State.mem_of_task? ht))
    · exact State.toteTimersFit_iff.1 (htotes x (State.mem_of_tote? hx).1)
    · exact ((State.positionFits_iff hwin).1 (hpos p)).1
    · obtain ⟨t, ht⟩ := (((State.positionFits_iff hwin).1 (hpos p)).1.lock w hp).resolve_left nofun
      exact (State.litFits_iff.1 (hw w)).2 t p ht
    · exact ((State.positionFits_iff hwin).1 (hpos p)).2
  · rintro ⟨hg, hf, hs⟩
    have hw : ∀ w, s.litFits w = true := fun w => State.litFits_iff.2 ⟨hf.win w, fun t p ht =>
      hs.block w p (by rw [ht.lit]; nofun) ht.lock⟩
    refine ⟨fun t ht => ?_, fun x hx => ?_, hw .w0, hw .w1, fun p => ?_, hg.ascending, hg.below⟩
    · exact State.taskFits_iff.2 (hf.task t.id t (hg.task?_of_mem ht))
    · exact State.toteTimersFit_iff.2 (hf.tote x.id x (State.tote?_eq_of_mem hg.numbered.ids hx))
    · exact (State.positionFits_iff hf.win).2 ⟨hf.pos p, hs.closing p⟩

end Sys2Proof.Machine

/-! PROOFS. What is lit where under changes of the tote table, and under SENDBACKs (R11, R92, R94). -/

namespace Sys2Proof.Machine

/-! ### Clauses that a change leaves alone -/

/-- Window `w` has the same task lit in `t` as in `s`, on the same top, with its timers or its OVERDUE mark. -/
structure Keeps (s t : State) (w : Win) : Prop where
  lit : (t.win w).lit = (s.win w).lit
  confirm : (s.win w).confirmTimer = none → (t.win w).confirmTimer = none
  guard : (s.win w).guardTimer = none → (t.win w).guardTimer = none
  task : ∀ x, (s.win w).lit = some x.id → s.task? x.id = some x → ∃ y, t.task? x.id = some y ∧ y.tote = x.tote ∧
    y.orderTote = x.orderTote ∧ ((s.win w).confirmTimer.isSome = true ∨ x.overdue = true →
      (t.win w).confirmTimer.isSome = true ∨ y.overdue = true)
  top : (s.win w).lit ≠ none → t.top? w = s.top? w

/-- The same confirm timer. -/
theorem Keeps.of_same {s t : State} {w : Win} (hlit : (t.win w).lit = (s.win w).lit)
    (hconfirm : (t.win w).confirmTimer = (s.win w).confirmTimer) (hguard : (s.win w).guardTimer = none → (t.win w).guardTimer = none)
    (htask : ∀ x, (s.win w).lit = some x.id → s.task? x.id = some x → ∃ y, t.task? x.id = some y ∧ y.tote = x.tote ∧
      y.orderTote = x.orderTote ∧ (x.overdue = true → y.overdue = true))
    (htop : (s.win w).lit ≠ none → t.top? w = s.top? w) : Keeps s t w := by
  refine ⟨hlit, hconfirm.trans, hguard, fun x hl hx => ?_, htop⟩
  obtain ⟨y, hy, htote, horder, hover⟩ := htask x hl hx
  exact ⟨y, hy, htote, horder, fun k => k.imp (fun hc => by rw [hconfirm]; exact hc) hover⟩

theorem Keeps.of_eq {s t : State} (hw : t.windows = s.windows) (ht : t.tasks = s.tasks) (w : Win) : Keeps s t w := by
  have hwin : t.win w = s.win w := by rw [State.win, hw]; rfl
  refine .of_same (by rw [hwin]) (by rw [hwin]) (fun hg => by rw [hwin]; exact hg) (fun x _ hx => ⟨x, ?_, rfl, rfl, fun k => k⟩)
    fun _ => by rw [State.top?, hwin]; rfl
  rw [State.task?, ht]
  exact hx

section
variable {g g' : Gap} {s t : State}

theorem Task.Fits.congr {x : Task} (h : x.Fits g s) (hlit : t.Lit x.id ↔ s.Lit x.id)
    (hplace : taskStateAt (t.place x.tote) = taskStateAt (s.place x.tote))
    (hexp : ∀ y, t.tote? x.tote = some y → y.expired = true →
      (∃ z, s.tote? x.tote = some z ∧ z.expired = true) ∨ g'.tote x.tote)
    (hg : g.tote x.tote → g'.tote x.tote) : x.Fits g' t where
  lit hl := h.lit (hlit.1 hl)
  unlit hl := by
    rw [hplace]
    exact (h.unlit fun k => hl (hlit.2 k)).imp_right fun k => ⟨hg k.1, k.2⟩
  await := h.await
  expired y hy he := by
    obtain ⟨z, hz, hze⟩ | hgap := hexp y hy he
    · exact (h.expired z hz hze).imp_right hg
    · exact .inr hgap

theorem Tote.Fits.congr {x : Tote} (h : x.Fits g s) (hnamed : t.named x.id = s.named x.id)
    (hg : g.orphan x.id → g'.orphan x.id) : x.Fits g' t where
  orphan := by rw [hnamed]; exact h.orphan
  alone := by rw [hnamed]; exact fun hl hn => (h.alone hl hn).imp_right hg
  leaving := h.leaving

/-- A task lit in `s` is lit in `t`, its record perhaps changed. -/
theorem State.Shines.keep {w : Win} {x : Task} {p : Pos} (h : s.Shines w x p) (hk : Keeps s t w)
    (hbinding : ∀ q, (t.pos q).binding = (s.pos q).binding) (hlock : (t.pos p).lock = some w) :
    ∃ y, t.Shines w y p ∧ y.id = x.id ∧ y.tote = x.tote := by
  obtain ⟨y, hy, htote, horder, hover⟩ := hk.task x h.lit h.task
  have hid : y.id = x.id := State.id_of_task? hy
  refine ⟨y, ⟨?_, by rw [hid]; exact hy, ?_, ?_, hlock, ?_⟩, hid, htote⟩
  · rw [hk.lit, h.lit, hid]
  · rw [hk.top (by rw [h.lit]; nofun), h.top, htote]
  · rw [State.positionOf_congr hbinding, horder, h.pos]
  · exact hover h.timer

theorem State.Bright.of_tote {w : Win} {x y : Task} {p : Pos} (h : s.Bright g w x p) (hxy : y.tote = x.tote) : s.Bright g w y p :=
  ⟨h.fetch, h.held, hxy ▸ h.top, h.pos⟩

theorem State.WinFits.keep {w : Win} (h : s.WinFits g w) (hk : Keeps s t w)
    (hbinding : ∀ q, (t.pos q).binding = (s.pos q).binding)
    (hlock : ∀ x p, s.Shines w x p → g.lock ≠ some p → (t.pos p).lock = some w ∧ g'.lock ≠ some p)
    (hbright : ∀ x p, s.Shines w x p → ¬ g'.dim w → ¬ g.dim w ∧ (s.Bright g w x p → t.Bright g' w x p)) : t.WinFits g' w where
  dark := by
    rw [hk.lit]
    exact fun hl => (h.dark hl).imp hk.confirm hk.guard
  lit l hl := by
    obtain ⟨x, p, hx, hp, hb⟩ := h.lit l (hk.lit ▸ hl)
    obtain ⟨hl, hgap⟩ := hlock x p hx hp
    obtain ⟨y, hy, hid, htote⟩ := hx.keep hk hbinding hl
    refine ⟨y, p, hy, hgap, fun hd => ?_⟩
    obtain ⟨hdim, hmap⟩ := hbright x p hx hd
    exact (hmap (hb hdim)).of_tote htote

/-- A position whose record is kept as far as it counts. -/
theorem State.PosFits.keep {p : Pos} (h : s.PosFits g p) (hbinding : ∀ q, (t.pos q).binding = (s.pos q).binding)
    (hstate : (t.pos p).state = (s.pos p).state) (hswap : (t.pos p).swapTimer = (s.pos p).swapTimer)
    (hpull : (t.pos p).beforePull = (s.pos p).beforePull)
    (hlock : ∀ w, (t.pos p).lock = some w → g'.lock = some p ∨ (g.lock ≠ some p ∧ (s.pos p).lock = some w ∧ Keeps s t w)) :
    t.PosFits g' p where
  bound := by rw [hbinding, hstate]; exact h.bound
  names b hb := by
    rw [State.positionOf_congr hbinding]
    exact h.names b (hbinding p ▸ hb)
  swap := by rw [hswap, hstate]; exact h.swap
  pull := by rw [hpull, hstate]; exact h.pull
  lock w hw := by
    refine (hlock w hw).imp id fun ⟨hgap, hl, hk⟩ => ?_
    obtain ⟨x, hx⟩ := (h.lock w hl).resolve_left hgap
    obtain ⟨y, hy, _⟩ := hx.keep hk hbinding hw
    exact ⟨y, hy⟩

/-- A position whose record is the same, under the same lit tasks. -/
theorem State.PosFits.same {p : Pos} (h : s.PosFits g p) (hpos : ∀ q, t.pos q = s.pos q) (hk : ∀ w, Keeps s t w)
    (hg : g'.lock = g.lock) : t.PosFits g' p := by
  refine h.keep (fun q => by rw [hpos]) (by rw [hpos]) (by rw [hpos]) (by rw [hpos]) fun w hw => ?_
  rw [hg]
  by_cases hp : g.lock = some p
  · exact .inl hp
  · exact .inr ⟨hp, hpos p ▸ hw, hk w⟩

/-- The same windows have the same tasks lit. -/
theorem State.lit_congr (hlit : ∀ w, (t.win w).lit = (s.win w).lit) (l : TaskId) : t.Lit l ↔ s.Lit l := by
  simp only [State.Lit, hlit]

/-- What is written beside tasks, totes, windows and positions is no matter here. -/
theorem Fits.congr (h : Fits g s) (htasks : t.tasks = s.tasks) (htotes : t.totes = s.totes) (hwindows : t.windows = s.windows)
    (hpositions : t.positions = s.positions) : Fits g t := by
  have hkeeps : ∀ w, Keeps s t w := Keeps.of_eq hwindows htasks
  have hwin : ∀ w, t.win w = s.win w := fun w => by rw [State.win, hwindows]; rfl
  have hpos : ∀ p, t.pos p = s.pos p := fun p => by rw [State.pos, hpositions]; rfl
  have htote : ∀ id, t.tote? id = s.tote? id := fun id => by rw [State.tote?, htotes]; rfl
  have hfin : ∀ w, t.topFinished w = s.topFinished w := fun w => by
    rw [State.topFinished, State.topTote?, State.top?, hwin, show t.tote? = s.tote? from funext htote]
    rfl
  refine ⟨fun l x hx => ?_, fun id x hx => ?_, fun w => ?_, fun p => ?_⟩
  · rw [State.task?, htasks] at hx
    refine (h.task l x hx).congr (State.lit_congr (fun w => by rw [hwin]) _) (by rw [State.place, htote]; rfl) (fun y hy he =>
      .inl ⟨y, htote _ ▸ hy, he⟩) id
  · rw [htote] at hx
    exact (h.tote id x hx).congr (by rw [State.named, htasks]; rfl) fun k => k
  · refine (h.win w).keep (hkeeps w) (fun q => by rw [hpos]) (fun x p hx hp => ⟨by rw [hpos]; exact hx.lock, hp⟩)
      fun x p _ hd => ⟨hd, fun hb => ⟨by rw [hwin]; exact hb.fetch, ?_, ?_, by rw [hpos]; exact hb.pos⟩⟩
    · rw [State.held, hwin]
      exact hb.held
    · rw [hfin]
      exact hb.top
  · exact (h.pos p).same hpos hkeeps rfl

/-! ### A tote that moves -/

/-- Tote `id` moves, and `f` is what its live tasks do; nothing is lit on it. -/
structure Relocates (s t : State) (id : ToteId) (f : Task → Task) : Prop where
  totes : ∀ x, x ≠ id → t.tote? x = s.tote? x
  tasks : ∀ l, t.task? l = (s.task? l).map f
  off : ∀ x, x.tote ≠ id → f x = x
  named : ∀ a, t.named a = s.named a
  positions : ∀ p, t.pos p = s.pos p
  glow : ∀ v, (t.win v).glow = (s.win v).glow
  top : ∀ v, (s.win v).lit ≠ none → t.top? v = s.top? v
  dark : ∀ v x p, s.Shines v x p → x.tote ≠ id

/-- What fits, fits after the move of a tote, when it does so of its own record and its tasks. -/
theorem Fits.relocate (h : Fits g s) {id : ToteId} {f : Task → Task} (hr : Relocates s t id f)
    (hT : ∀ x, x ≠ id → g.tote x → g'.tote x) (hO : ∀ x, g.orphan x → g'.orphan x) (hL : g'.lock = g.lock)
    (htask : ∀ x, s.task? x.id = some x → x.tote = id → x.Fits g s → ¬ s.Lit x.id → (f x).Fits g' t)
    (htote : ∀ x, t.tote? id = some x → x.Fits g' t)
    (hwin : ∀ v, (s.win v).lit ≠ none → ¬ g'.dim v → ¬ g.dim v ∧ ((s.win v).fetch = none → (t.win v).fetch = none) ∧
      t.held v = s.held v) : Fits g' t := by
  have hlit : ∀ v, (t.win v).lit = (s.win v).lit := fun v => Window.lit_of_glow (hr.glow v)
  have htimers : ∀ v, (t.win v).confirmTimer = (s.win v).confirmTimer ∧ (t.win v).guardTimer = (s.win v).guardTimer := fun v => by
    have hglow := hr.glow v
    simp only [Window.glow, Prod.mk.injEq] at hglow
    exact ⟨hglow.2.1, hglow.2.2.1⟩
  have hshines : ∀ {v x}, (s.win v).lit = some x.id → s.task? x.id = some x → x.tote ≠ id := fun {v x} hl hx => by
    obtain ⟨y, p, hy, _⟩ := (h.win v).lit _ hl
    have hid : y.id = x.id := Option.some.inj (hy.lit.symm.trans hl)
    obtain rfl : y = x := Option.some.inj (hy.task.symm.trans (hid ▸ hx))
    exact hr.dark v y p hy
  have hkeeps : ∀ v, Keeps s t v := fun v =>
    .of_same (hlit v) (htimers v).1 (fun hg => (htimers v).2.trans hg) (fun x hl hx => ⟨x, by
      rw [hr.tasks, hx, Option.map_some, hr.off x (hshines hl hx)], rfl, rfl, fun k => k⟩) (hr.top v)
  refine ⟨fun l x hx => ?_, fun y x hx => ?_, fun v => ?_, fun p => (h.pos p).same hr.positions hkeeps hL⟩
  · rw [hr.tasks] at hx
    obtain ⟨z, hz, rfl⟩ := Option.map_eq_some_iff.1 hx
    have hzid := State.id_of_task? hz
    have hz' : s.task? z.id = some z := by rw [hzid]; exact hz
    by_cases hid : z.tote = id
    · refine htask z hz' hid (h.task l z hz) ?_
      rintro ⟨v, hv⟩
      exact hshines hv hz' hid
    · rw [hr.off z hid]
      refine (h.task l z hz).congr (State.lit_congr hlit _) ?_ (fun y hy he => .inl ⟨y, ?_, he⟩) (hT _ hid)
      · rw [State.place, hr.totes _ hid]
        rfl
      · rwa [hr.totes _ hid] at hy
  · by_cases hy : y = id
    · exact htote x (hy ▸ hx)
    · rw [hr.totes y hy] at hx
      exact (h.tote y x hx).congr (hr.named _) (hO _)
  · refine (h.win v).keep (hkeeps v) (fun q => by rw [hr.positions]) (fun x p hx hp => ⟨by rw [hr.positions]; exact hx.lock, by
      rw [hL]; exact hp⟩) fun x p hx hd => ?_
    obtain ⟨hdim, hfetch, hheld⟩ := hwin v (by rw [hx.lit]; nofun) hd
    refine ⟨hdim, fun hb => ⟨hfetch hb.fetch, hheld.trans hb.held, ?_, by rw [hr.positions]; exact hb.pos⟩⟩
    refine hb.top.imp (fun hfin => ?_) (hT _ (hr.dark v x p hx))
    rw [State.topFinished, State.topTote?, hr.top v (by rw [hx.lit]; nofun), hx.top, Option.bind_some, hr.totes _ (hr.dark v x p hx)]
    rwa [State.topFinished, State.topTote?, hx.top, Option.bind_some] at hfin

/-! ### The tote table -/

/-- A change of tote records that leaves them where they are. -/
theorem Fits.mapTotes (h : Fits g s) {T O : ToteId → Prop} (f : Tote → Tote) (hf : ∀ x, (f x).id = x.id ∧ (f x).state = x.state)
    (hexp : ∀ x, s.tote? x.id = some x → (f x).expired = true → x.expired = true ∨ T x.id)
    (hfin : ∀ w y p x, s.Shines w y p → s.tote? y.tote = some x → (f x).finished = true → x.finished = true ∨ T x.id)
    (hfits : ∀ x, s.tote? x.id = some x → x.Fits g s → (f x).Fits { g with tote := T, orphan := O } s)
    (hT : ∀ id, g.tote id → T id) :
    Fits { g with tote := T, orphan := O } { s with totes := s.totes.map f } := by
  have hmap := s.tote?_mapTotes f fun x => (hf x).1
  have hself : ∀ {id x}, s.tote? id = some x → x.id = id ∧ s.tote? x.id = some x := fun hx => by
    have hid := (State.mem_of_tote? hx).2
    exact ⟨hid, hid.symm ▸ hx⟩
  have hkeeps : ∀ w, Keeps s { s with totes := s.totes.map f } w := Keeps.of_eq rfl rfl
  refine ⟨fun l x hx => ?_, fun id x hx => ?_, fun w => ?_, fun p => ?_⟩
  · refine (h.task l x hx).congr Iff.rfl (congrArg taskStateAt (s.place_mapTotes f hf _)) (fun y hy he => ?_) (hT _)
    rw [hmap] at hy
    obtain ⟨z, hz, rfl⟩ := Option.map_eq_some_iff.1 hy
    obtain ⟨hid, hz'⟩ := hself hz
    exact (hexp z hz' he).imp (fun hze => ⟨z, hz, hze⟩) fun ht => hid ▸ ht
  · rw [hmap] at hx
    obtain ⟨z, hz, rfl⟩ := Option.map_eq_some_iff.1 hx
    exact (hfits z (hself hz).2 (h.tote id z hz)).congr rfl fun k => k
  · refine (h.win w).keep (hkeeps w) (fun _ => rfl) (fun _ _ hx hp => ⟨hx.lock, hp⟩) fun x p hx hd => ⟨hd, fun hb =>
      ⟨hb.fetch, hb.held, ?_, hb.pos⟩⟩
    rw [← Bool.not_eq_true, State.topFinished_iff]
    by_contra hno
    simp only [not_or, not_not] at hno
    obtain ⟨⟨id, y, htop, hy, hyfin⟩, hgap⟩ := hno
    obtain rfl : x.tote = id := Option.some.inj (hx.top.symm.trans htop)
    rw [hmap] at hy
    obtain ⟨z, hz, rfl⟩ := Option.map_eq_some_iff.1 hy
    obtain ⟨hid, _⟩ := hself hz
    obtain hzfin | ht := hfin w x p z hx hz hyfin
    · have hfin : s.topFinished w = true := (s.topFinished_iff w).2 ⟨x.tote, z, hx.top, hz, hzfin⟩
      exact hgap (hT _ (hb.top.resolve_left (by rw [hfin]; nofun)))
    · exact hgap (hid ▸ ht)
  · exact (h.pos p).same (fun _ => rfl) hkeeps rfl

/-- A change of one tote's record that leaves it where it is, and neither expires nor finishes it. -/
theorem Fits.updTote (h : Fits g s) (id : ToteId) (f : Tote → Tote) (hf : ∀ x, (f x).id = x.id ∧ (f x).state = x.state ∧
      (f x).expired = x.expired ∧ (f x).finished = x.finished)
    (hfits : ∀ x, s.tote? id = some x → x.Fits g s → (f x).Fits g s) : Fits g (s.updTote id f) := by
  refine h.mapTotes (T := g.tote) (O := g.orphan) (fun x => if x.id = id then f x else x) (fun x => ?_) (fun x _ he => .inl ?_)
    (fun _ _ _ x _ _ he => .inl ?_) (fun x hx hxf => ?_) fun _ k => k
  · split
    · exact ⟨(hf x).1, (hf x).2.1⟩
    · exact ⟨rfl, rfl⟩
  · split at he
    · exact (hf x).2.2.1 ▸ he
    · exact he
  · split at he
    · exact (hf x).2.2.2 ▸ he
    · exact he
  · split
    next hid => exact hfits x (hid ▸ hx) hxf
    next => exact hxf

/-- What is open of the totes is a matter of the tasks and of their own records. -/
theorem Fits.regap (h : Fits g s) {T O : ToteId → Prop} (hT : ∀ id, g.tote id → T id)
    (hfits : ∀ x, s.tote? x.id = some x → x.Fits g s → x.Fits { g with tote := T, orphan := O } s) :
    Fits { g with tote := T, orphan := O } s := by
  have hmap := h.mapTotes (T := T) (O := O) id (fun _ => ⟨rfl, rfl⟩) (fun _ _ => .inl) (fun _ _ _ _ _ _ => .inl) hfits hT
  exact hmap.congr rfl (by simp) rfl rfl

/-- More may be open of the totes. -/
theorem Fits.widen (h : Fits g s) {T O : ToteId → Prop} (hT : ∀ id, g.tote id → T id) (hO : ∀ id, g.orphan id → O id) :
    Fits { g with tote := T, orphan := O } s := h.regap hT fun _ _ hx => hx.congr rfl (hO _)

/-- The orphan timer of a tote starts where it was still to start (R11). -/
theorem Fits.startOrphan {O : ToteId → Prop} (id : ToteId) (h : Fits { g with orphan := fun x => O x ∨ x = id } s) :
    Fits { g with orphan := O } (s.startOrphan id) := by
  have hclose : (∀ x, s.tote? id = some x → x.Fits { g with orphan := O } s) → Fits { g with orphan := O } s := fun hid => by
    refine h.regap (fun _ k => k) fun x hx hxf => ?_
    by_cases hx' : x.id = id
    · exact hid x (hx' ▸ hx)
    · exact hxf.congr rfl fun k => k.resolve_right hx'
  unfold State.startOrphan
  split
  next x hx =>
    have hxid := (State.mem_of_tote? hx).2
    split
    next l hst =>
      split
      next hnamed =>
        refine hclose fun y hy => ?_
        obtain rfl := Option.some.inj (hx.symm.trans hy)
        have hfit := h.tote id x hx
        exact ⟨hfit.orphan, fun _ hn => absurd hn (by rw [hxid, hnamed]; nofun), hfit.leaving⟩
      next hnamed =>
        refine h.mapTotes (T := g.tote) (O := O) (fun y => if y.id = id then { y with orphanTimer := some s.orphanMs } else y)
          (fun y => ?_) (fun y _ he => .inl ?_) (fun _ _ _ y _ _ he => .inl ?_) (fun y hy hyf => ?_) fun _ k => k
        · split <;> exact ⟨rfl, rfl⟩
        · split at he <;> exact he
        · split at he <;> exact he
        · split
          next hid =>
            obtain rfl : x = y := Option.some.inj (hx.symm.trans (hid ▸ hy))
            exact ⟨fun _ => ⟨by simp [hst, ToteState.inLaneNow], by simpa [hxid] using hnamed⟩, fun _ _ => .inl rfl, hyf.leaving⟩
          next hid => exact hyf.congr rfl fun k => k.resolve_right hid
    next hst =>
      refine hclose fun y hy => ?_
      obtain rfl := Option.some.inj (hx.symm.trans hy)
      have hfit := h.tote id x hx
      refine ⟨hfit.orphan, fun hl _ => ?_, hfit.leaving⟩
      cases hs : x.state with
      | inLane l => exact absurd hs (hst l)
      | _ => rw [hs] at hl; cases hl
  next hx => exact hclose fun y hy => by rw [hx] at hy; cases hy

end

end Sys2Proof.Machine

/-! PROOFS. What is lit where under FINISHED marks, ends of tasks and SENDBACKs (R13, R46, R54, R92, R94). -/

namespace Sys2Proof.Machine

section
variable {g : Gap} {s : State}

/-! ### Lit tasks -/

/-- What a window has lit is lit at no other. -/
theorem Fits.shines_of_lit (h : Fits g s) {w : Win} {l : TaskId} (hl : (s.win w).lit = some l) :
    ∃ x p, s.Shines w x p ∧ x.id = l := by
  obtain ⟨x, p, hx, _⟩ := (h.win w).lit l hl
  exact ⟨x, p, hx, Option.some.inj (hx.lit.symm.trans hl)⟩

theorem State.Shines.same {w : Win} {x y : Task} {p q : Pos} (h : s.Shines w x p) (k : s.Shines w y q) : x = y ∧ p = q := by
  have hid : x.id = y.id := Option.some.inj (h.lit.symm.trans k.lit)
  obtain rfl : x = y := Option.some.inj (h.task.symm.trans (hid ▸ k.task))
  exact ⟨rfl, Option.some.inj (h.pos.symm.trans k.pos)⟩

/-- A lit task is in the state LIT (R40). -/
theorem Fits.state_of_shines (h : Fits g s) {w : Win} {x : Task} {p : Pos} (hx : s.Shines w x p) : x.state = .lit :=
  (h.task _ x hx.task).lit ⟨w, hx.lit⟩

/-- The tote of a lit task is the top of its window alone. -/
theorem State.Shines.win_of_tote (hs : Ground s) {v w : Win} {x : Task} {p : Pos} {id : ToteId} (hx : s.Shines v x p)
    (hid : x.tote = id) (htop : s.top? w = some id) : v = w := hs.top_inj hx.top (hid ▸ htop)

/-- A task has at most one window. -/
theorem State.Shines.win_of_lit (hs : Ground s) (h : Fits g s) {v w : Win} {x : Task} {p : Pos} (hx : s.Shines v x p)
    (hw : (s.win w).lit = some x.id) : v = w := by
  obtain ⟨y, q, hy, hid⟩ := h.shines_of_lit hw
  obtain rfl : x = y := Option.some.inj (hx.task.symm.trans (hid ▸ hy.task))
  exact hs.top_inj hx.top hy.top

/-- A task without a window with its tote on top is not lit. -/
theorem Fits.not_lit (h : Fits g s) {l : TaskId} {x : Task} (hx : s.task? l = some x)
    (htop : ∀ w, (s.win w).lit ≠ none → s.top? w ≠ some x.tote) : ¬ s.Lit l := by
  rintro ⟨w, hw⟩
  obtain ⟨y, q, hy, hid⟩ := h.shines_of_lit hw
  obtain rfl : x = y := Option.some.inj (hx.symm.trans (hid ▸ hy.task))
  exact htop w (by rw [hw]; nofun) hy.top

/-! ### FINISHED (R92) -/

/-- A top may be FINISHED where nothing is lit, or its owners are at work. -/
theorem Fits.markFinished (hs : Ground s) (h : Fits g s) (w : Win) (hlit : ∀ x p, s.Shines w x p → g.tote x.tote) :
    Fits g (s.markFinished w) := by
  cases htop : s.top? w with
  | none => simpa only [State.markFinished, htop] using h
  | some id =>
    rw [State.markFinished_of_top htop]
    refine h.mapTotes (T := g.tote) (O := g.orphan) (fun x => if x.id = id then { x with finished := true } else x) (fun x => ?_)
      (fun x _ he => .inl ?_) (fun v y p x hy hx he => ?_) (fun x hx hxf => ?_) fun _ k => k
    · split <;> exact ⟨rfl, rfl⟩
    · split at he <;> exact he
    · split at he
      next hid =>
        have hxid := (State.mem_of_tote? hx).2
        obtain rfl := hy.win_of_tote hs (hxid.symm.trans hid) htop
        exact .inr (hxid ▸ hlit y p hy)
      next => exact .inl he
    · split
      · exact ⟨hxf.orphan, hxf.alone, hxf.leaving⟩
      · exact hxf

/-- The FINISHED test finds nothing lit on a top that no task names, or that is EXPIRED and not at work (R50, R92). -/
theorem Fits.finishTest (hs : Ground s) (h : Fits g s) (w : Win) : Fits g (s.finishTest w) := by
  unfold State.finishTest
  split
  next t ht =>
    split
    next hends =>
      refine h.markFinished hs w fun x p hx => ?_
      obtain ⟨id, htop, htote⟩ := Option.bind_eq_some_iff.1 ht
      obtain rfl : id = x.tote := Option.some.inj (htop.symm.trans hx.top)
      have hid := (State.mem_of_tote? htote).2
      rw [Bool.or_eq_true, Bool.not_eq_true', hid, State.named_of_task? hx.task] at hends
      refine ((h.task _ x hx.task).expired t htote (hends.resolve_right nofun)).resolve_left fun hwait => ?_
      rw [h.state_of_shines hx] at hwait
      cases hwait
    next => exact h
  next => exact h

/-! ### The end of a record (R54, step 5) -/

theorem State.named_dropTask (hs : Ground s) {l : TaskId} {t : Task} (ht : s.task? l = some t) {id : ToteId} (hid : id ≠ t.tote) :
    (s.dropTask l).named id = s.named id := by
  rw [Bool.eq_iff_iff, State.named_iff, State.named_iff]
  constructor
  · rintro ⟨x, hx, hxid⟩
    exact ⟨x, List.mem_of_mem_filter hx, hxid⟩
  · rintro ⟨x, hx, hxid⟩
    refine ⟨x, List.mem_filter.2 ⟨hx, ?_⟩, hxid⟩
    rw [bne_iff_ne]
    rintro rfl
    exact hid (hxid ▸ congrArg Task.tote (Option.some.inj ((hs.task?_of_mem hx).symm.trans ht)))

/-- A task that is not lit leaves the table; its tote may then be without one. -/
theorem Fits.dropTask (hs : Ground s) (h : Fits g s) {l : TaskId} {t : Task} (ht : s.task? l = some t) (hl : ¬ s.Lit l) :
    Fits { g with orphan := fun x => g.orphan x ∨ x = t.tote } (s.dropTask l) := by
  have htask : ∀ {k x}, (s.dropTask l).task? k = some x → k ≠ l ∧ s.task? k = some x := fun {k x} hx => by
    rw [s.task?_dropTask l k] at hx
    split at hx
    · cases hx
    next hne => exact ⟨hne, hx⟩
  have hkeeps : ∀ w, Keeps s (s.dropTask l) w := fun w => .of_same rfl rfl (fun k => k) (fun x hlit hx => ⟨x, by
    rw [s.task?_dropTask l x.id, if_neg fun he : x.id = l => hl ⟨w, he ▸ hlit⟩, hx], rfl, rfl, fun k => k⟩) fun _ => rfl
  refine ⟨fun k x hx => ?_, fun id x hx => ?_, fun w => ?_, fun p => ?_⟩
  · exact (h.task k x (htask hx).2).congr Iff.rfl rfl (fun y hy he => .inl ⟨y, hy, he⟩) fun k => k
  · have hxf := h.tote id x hx
    by_cases hid : x.id = t.tote
    · refine ⟨fun ho => ?_, fun _ _ => .inr (.inr hid), hxf.leaving⟩
      have hfree := (hxf.orphan ho).2
      rw [hid, State.named_of_task? ht] at hfree
      cases hfree
    · exact hxf.congr (State.named_dropTask hs ht hid) .inl
  · exact (h.win w).keep (hkeeps w) (fun _ => rfl) (fun _ _ hx hp => ⟨hx.lock, hp⟩) fun x p _ hd => ⟨hd, fun hb =>
      ⟨hb.fetch, hb.held, hb.top, hb.pos⟩⟩
  · exact (h.pos p).same (fun _ => rfl) hkeeps rfl

/-! ### SENDBACKs (R13, R94) -/

/-- Each task of a tote going WAITING, found by its id (R46). -/
theorem State.task?_tasksToWaiting (s : State) (id : ToteId) (l : TaskId) : (s.tasksToWaiting id).task? l =
    (s.task? l).map fun t => if t.tote = id then { t with state := .waiting, awaitTimer := some s.awaitMs } else t :=
  s.task?_mapTasks _ (fun t => by split <;> rfl) l

/-- The records of a SENDBACK at a window with nothing lit. -/
theorem Fits.sendRecords (hs : Ground s) (h : Fits g s) {w : Win} {id : ToteId} {rest : List ToteId}
    (hlift : (s.win w).lift = id :: rest) (hdark : (s.win w).lit = none) : Fits g (s.sendRecords w id rest) := by
  have htop : s.top? w = some id := by rw [State.top?, hlift]; rfl
  obtain ⟨old, hold, hst⟩ := State.place_eq_some.1 (hs.place_of_top htop)
  have hself := s.sendRecords_win w id rest
  have hother : ∀ {v}, v ≠ w → (s.sendRecords w id rest).win v = s.win v := fun hv => s.sendRecords_win_ne hv id rest
  have htote := s.sendRecords_tote? w id rest
  have hlitNe : ∀ {v}, (s.win v).lit ≠ none → v ≠ w := fun hv he => hv (he ▸ hdark)
  have hglow : ∀ v, ((s.sendRecords w id rest).win v).glow = (s.win v).glow := fun v => by
    by_cases hv : v = w
    · subst hv; rw [hself]; rfl
    · rw [hother hv]
  have hr : Relocates s (s.sendRecords w id rest) id fun t =>
      if t.tote = id then { t with state := .waiting, awaitTimer := some s.awaitMs } else t := by
    refine ⟨fun x hx => by rw [htote, if_neg hx], fun l => s.task?_tasksToWaiting id l, fun x hx => if_neg hx,
      fun a => s.tasksToWaiting_named id a, fun p => rfl, hglow, fun v hv => by rw [State.top?, hother (hlitNe hv)]; rfl,
      fun v x p hx hid => ?_⟩
    exact hlitNe (v := v) (by rw [hx.lit]; nofun) (hx.win_of_tote hs hid htop)
  refine h.relocate hr (fun _ _ k => k) (fun _ k => k) rfl (fun x hx hid _ hl => ?_) (fun x hx => ?_) fun v hv hd => ⟨hd, fun hf => ?_, ?_⟩
  · rw [if_pos hid]
    refine ⟨fun k => absurd ((State.lit_congr (fun v => Window.lit_of_glow (hglow v)) x.id).1 k) hl, fun _ => .inl ?_, by simp,
      fun _ _ _ => .inl rfl⟩
    rw [State.place, htote, if_pos hid, hid, hold]
    rfl
  · rw [htote, if_pos rfl, hold] at hx
    obtain rfl := Option.some.inj hx
    have hof := h.tote id old hold
    refine ⟨fun ho => ?_, nofun, ?_⟩
    · have hlane := (hof.orphan ho).1
      rw [hst] at hlane
      cases hlane
    · have hleave := hof.leaving
      rw [hst] at hleave
      exact hleave
  · rw [hother (hlitNe hv)]
    exact hf
  · rw [State.held, hother (hlitNe hv)]
    rfl

theorem Fits.direct (h : Fits g s) (d : Direction) : Fits g (s.direct d) := by
  unfold State.direct
  split
  · exact h.congr rfl rfl rfl rfl
  · exact h

theorem Fits.sendBack (hs : Ground s) (h : Fits g s) {w : Win} (hret : (s.win w).ret = none) (hdark : (s.win w).lit = none) :
    Fits g (s.sendBack w) := by
  cases hlift : (s.win w).lift with
  | nil => simpa only [State.sendBack, hlift] using h
  | cons id rest =>
    rw [State.sendBack_of_lift hlift]
    have hd : Ground (s.direct (.sendBack id (.window w))) := (Moves.direct s _).ground hs
    refine Fits.finishTest ?_ ((h.direct _).sendRecords hd (by simpa using hlift) (by simpa using hdark)) w
    exact (Moves.single (.send w id rest (by simpa using hlift) (by simpa using hret))).ground hd

/-- A FINISHED top is sent back with nothing lit on it. -/
theorem Fits.sendIfDue (hs : Ground s) (h : Fits g s) (w : Win) (hdark : s.topFinished w = true → (s.win w).lit = none) :
    Fits g (s.sendIfDue w) := by
  unfold State.sendIfDue
  split
  next hdue =>
    have hfin : s.topFinished w = true := by
      simp only [State.sendBackDue, Bool.and_eq_true] at hdue
      exact hdue.1.1
    exact h.sendBack hs (s.sendBackDue_ret hdue) (hdark hfin)
  next => exact h

/-- Where nothing is open of totes and windows, nothing is lit on a FINISHED top. -/
theorem Fits.dark_of_finished (h : Fits g s) (hg : ∀ id, ¬ g.tote id) (hd : ∀ w, ¬ g.dim w) {w : Win}
    (hfin : s.topFinished w = true) : (s.win w).lit = none := by
  by_contra hlit
  obtain ⟨l, hl⟩ := Option.ne_none_iff_exists'.1 hlit
  obtain ⟨x, p, _, _, hb⟩ := (h.win w).lit l hl
  have hno := (hb (hd w)).top.resolve_right (hg _)
  rw [hfin] at hno
  cases hno

/-- A tote without a live task is the top of no window with a task lit. -/
theorem Fits.dark_of_unnamed (h : Fits g s) {id : ToteId} (hn : s.named id = false) {w : Win} (htop : s.top? w = some id) :
    (s.win w).lit = none := by
  by_contra hlit
  obtain ⟨l, hl⟩ := Option.ne_none_iff_exists'.1 hlit
  obtain ⟨x, p, hx, _⟩ := h.shines_of_lit hl
  obtain rfl : x.tote = id := Option.some.inj (hx.top.symm.trans htop)
  rw [State.named_of_task? hx.task] at hn
  cases hn

theorem State.finishTest_lit (s : State) (v w : Win) : ((s.finishTest v).win w).lit = (s.win w).lit :=
  (congrArg (fun u : State => (u.win w).lit) (s.finishTest_totes v) :)

theorem Fits.finishAndSend (hs : Ground s) (h : Fits g s) (w : Win) (hdark : (s.win w).lit = none) :
    Fits g (s.finishAndSend w) :=
  (h.finishTest hs w).sendIfDue ((Moves.finishTest s w).ground hs) w fun _ => by rw [s.finishTest_lit]; exact hdark

theorem Fits.finishIfTop (hs : Ground s) (h : Fits g s) (id : ToteId) : Fits g (s.finishIfTop id) := by
  unfold State.finishIfTop
  split
  · exact h
  next hn =>
    have hn : s.named id = false := by simpa using hn
    split
    next htop => exact h.finishAndSend hs .w0 (h.dark_of_unnamed hn htop)
    split
    next htop => exact h.finishAndSend hs .w1 (h.dark_of_unnamed hn htop)
    next => exact h

/-- The release of a tote closes what its task's end has opened (R46, R54 step 6). -/
theorem Fits.releaseTote (hs : Ground s) {O : ToteId → Prop} (id : ToteId)
    (h : Fits { g with orphan := fun x => O x ∨ x = id } s) : Fits { g with orphan := O } (s.releaseTote id) :=
  (h.startOrphan id).finishIfTop ((Moves.startOrphan s id).ground hs) id

/-- A lane tote leaves the lane: no live task names it (R12, R13, R50). -/
theorem Fits.laneSendBack (h : Fits g s) {id : ToteId} (hn : s.named id = false) : Fits g (s.laneSendBack id) := by
  cases ht : s.tote? id with
  | none => simpa only [State.laneSendBack, ht] using h
  | some t =>
    cases hst : t.state with
    | inLane slot =>
      rw [State.laneSendBack_of_inLane ht hst]
      have hd := h.direct (.sendBack id (.lane slot))
      have htd : (s.direct (.sendBack id (.lane slot))).tote? id = some t := by simpa using ht
      have hnd : (s.direct (.sendBack id (.lane slot))).named id = false := by rw [State.named, State.direct_tasks]; exact hn
      generalize s.direct (.sendBack id (.lane slot)) = u at *
      have htote : ∀ x, (u.laneSendRecords id slot).tote? x = if x = id then (u.tote? x).map fun t => { t with
          state := .leavingLane slot, orphanTimer := none, laneReturnTimer := some u.returnMs } else u.tote? x := fun x =>
        u.tote?_updTote id x (fun t => { t with
          state := .leavingLane slot, orphanTimer := none, laneReturnTimer := some u.returnMs }) fun _ => rfl
      have hneTote : ∀ {l x}, u.task? l = some x → x.tote ≠ id := fun hx he => by
        rw [← he, State.named_of_task? hx] at hnd
        cases hnd
      have hr : Relocates u (u.laneSendRecords id slot) id fun t => t :=
        ⟨fun x hx => by rw [htote, if_neg hx], fun l => Option.map_id'.symm, fun _ _ => rfl, fun _ => rfl, fun _ => rfl, fun _ => rfl,
          fun _ _ => rfl, fun _ _ _ hx => hneTote hx.task⟩
      refine hd.relocate hr (fun _ _ k => k) (fun _ k => k) rfl (fun x hx hid => absurd hid (hneTote hx)) (fun x hx => ?_)
        fun v _ hdim => ⟨hdim, fun k => k, rfl⟩
      rw [htote, if_pos rfl, htd] at hx
      obtain rfl := Option.some.inj hx
      exact ⟨nofun, nofun, rfl⟩
    | _ => simpa only [State.laneSendBack, ht, hst] using h

end

end Sys2Proof.Machine

/-! PROOFS. What is lit where under unlightings, ends of tasks and swap-outs (R54, R68, R69, R126). -/

namespace Sys2Proof.Machine

section
variable {g : Gap} {s : State}

/-! ### Notices and events -/

/-- An offered event queues notices alone (R149). -/
theorem State.offer_queues (s : State) (ev : WatchEvent) :
    s.offer ev = { s with orderQueue := (s.offer ev).orderQueue, benchQueue := (s.offer ev).benchQueue } := by
  have hone : ∀ (n : Fin 4) (u : State), u = { s with orderQueue := u.orderQueue, benchQueue := u.benchQueue } →
      State.offerTo ev n u = { s with
        orderQueue := (State.offerTo ev n u).orderQueue, benchQueue := (State.offerTo ev n u).benchQueue } := by
    intro n u hu
    unfold State.offerTo State.noteOwner
    rw [hu]
    repeat' split
    all_goals rfl
  exact hone 3 _ (hone 2 _ (hone 1 _ (hone 0 s rfl)))

theorem Fits.offer (h : Fits g s) (ev : WatchEvent) : Fits g (s.offer ev) := by
  have hq := s.offer_queues ev
  exact h.congr (congrArg State.tasks hq :) (congrArg State.totes hq :) (congrArg State.windows hq :) (congrArg State.positions hq :)

theorem State.offerTaskEnd_queues (s : State) (o : TaskOutcome) (t : Task) : s.offerTaskEnd o t = { s with
    orderQueue := (s.offerTaskEnd o t).orderQueue, benchQueue := (s.offerTaskEnd o t).benchQueue } := by
  unfold State.offerTaskEnd
  split
  · exact s.offer_queues _
  · rfl

/-- The terminal notice and the task event are no matter here (R54). -/
theorem State.notedEnd_records (s : State) (n : Notice) (o : TaskOutcome) (t : Task) :
    ((s.noteOrder n).offerTaskEnd o t).tasks = s.tasks ∧ ((s.noteOrder n).offerTaskEnd o t).totes = s.totes ∧
      ((s.noteOrder n).offerTaskEnd o t).windows = s.windows ∧ ((s.noteOrder n).offerTaskEnd o t).positions = s.positions := by
  have hq := (s.noteOrder n).offerTaskEnd_queues o t
  exact ⟨(congrArg State.tasks hq :), (congrArg State.totes hq :), (congrArg State.windows hq :), (congrArg State.positions hq :)⟩

theorem Fits.notedEnd (h : Fits g s) (n : Notice) (o : TaskOutcome) (t : Task) : Fits g ((s.noteOrder n).offerTaskEnd o t) := by
  obtain ⟨htasks, htotes, hwindows, hpositions⟩ := s.notedEnd_records n o t
  exact h.congr htasks htotes hwindows hpositions

/-! ### Unlighting (R126) -/

/-- The records of an unlighting: the task back to ACTIVE, the window dark. -/
theorem Fits.unlightFirst (hs : Ground s) (h : Fits g s) {w : Win} {t : Task} {p : Pos} (ht : s.Shines w t p)
    (hg : g.lock = none) (ending : Bool) :
    Fits { g with lock := some p, dim := fun v => v ≠ w ∧ g.dim v } (s.unlightFirst w ending) := by
  rw [State.unlightFirst_of_lit ending ht.lit]
  generalize hf : (fun x : Window => { x with
    lit := none, confirmTimer := none, guardTimer := none, lastEnded := if ending then some t.id else x.lastEnded }) = f
  generalize hu : (s.updTask t.id fun t => { t with state := .active }).updWin w f = u
  have hself : (u.win w).Dark := by rw [← hu, State.win_updWin, ← hf]; exact ⟨rfl, rfl, rfl⟩
  have hcore : (u.win w).core = (s.win w).core := by rw [← hu, State.win_updWin, ← hf]; rfl
  have hother : ∀ {v}, v ≠ w → u.win v = s.win v := fun hv => by rw [← hu, State.win_updWin_ne _ hv]; rfl
  have htask : ∀ l, u.task? l = if l = t.id then (s.task? l).map fun t => { t with state := .active } else s.task? l := fun l => by
    rw [← hu]
    exact s.task?_updTask t.id l _ fun _ => rfl
  have htote : u.tote? = s.tote? := by rw [← hu]; rfl
  have hpos : ∀ q, u.pos q = s.pos q := fun q => by rw [← hu]; rfl
  have hnamed : ∀ id, u.named id = s.named id := fun id => by
    rw [← hu]
    simp only [State.named, State.updWin, State.updTask, List.any_map]
    refine congrArg (fun f => s.tasks.any f) (funext fun x => ?_)
    simp only [Function.comp_apply]
    split <;> rfl
  have hlit : ∀ l, u.Lit l ↔ s.Lit l ∧ l ≠ t.id := fun l => by
    constructor
    · rintro ⟨v, hv⟩
      have hvw : v ≠ w := fun he => by rw [he, hself.1] at hv; cases hv
      rw [hother hvw] at hv
      exact ⟨⟨v, hv⟩, fun he => hvw (ht.win_of_lit hs h (he ▸ hv)).symm⟩
    · rintro ⟨⟨v, hv⟩, hne⟩
      have hvw : v ≠ w := fun he => by rw [he, ht.lit] at hv; exact hne (Option.some.inj hv).symm
      exact ⟨v, by rw [hother hvw]; exact hv⟩
  have hkeeps : ∀ {v}, v ≠ w → Keeps s u v := fun {v} hv => by
    refine .of_same (by rw [hother hv]) (by rw [hother hv]) (by rw [hother hv]; exact fun k => k)
      (fun x hx hxt => ⟨x, ?_, rfl, rfl, fun k => k⟩) fun _ => by rw [State.top?, hother hv]; rfl
    rw [htask, if_neg fun he => hv (ht.win_of_lit hs h (by rw [← he]; exact hx)).symm, hxt]
  have hbinding : ∀ q, (u.pos q).binding = (s.pos q).binding := fun q => by rw [hpos]
  refine ⟨fun l x hx => ?_, fun id x hx => ?_, fun v => ?_, fun q => ?_⟩
  · rw [htask] at hx
    split at hx
    next hl =>
      rw [hl, ht.task] at hx
      obtain rfl := Option.some.inj hx
      have htf := h.task t.id t ht.task
      have hstate := h.state_of_shines ht
      refine ⟨fun k => absurd rfl ((hlit t.id).1 k).2, fun _ => .inl ?_, ⟨fun k => ?_, nofun⟩, fun y hy he => ?_⟩
      · rw [State.place, htote]
        have hplace := hs.place_of_top ht.top
        rw [State.place] at hplace
        rw [hplace]
        rfl
      · rw [htf.await.1 k] at hstate
        cases hstate
      · rw [htote] at hy
        exact .inr ((htf.expired y hy he).resolve_left (by rw [hstate]; nofun))
    next hl =>
      have hxid := State.id_of_task? hx
      refine (h.task l x hx).congr ⟨fun k => ((hlit _).1 k).1, fun k => (hlit _).2 ⟨k, hxid.symm ▸ hl⟩⟩ ?_ ?_ fun k => k
      · rw [State.place, htote]
        rfl
      · rw [htote]
        exact fun y hy he => .inl ⟨y, hy, he⟩
  · rw [htote] at hx
    exact (h.tote id x hx).congr (hnamed _) fun k => k
  · by_cases hv : v = w
    · subst hv
      exact ⟨fun _ => hself.2, fun l hl => by rw [hself.1] at hl; cases hl⟩
    · refine (h.win v).keep (hkeeps hv) hbinding (fun x q hx hq => ⟨by rw [hpos]; exact hx.lock, fun he => hv ?_⟩) fun x q _ hd =>
        ⟨fun k => hd ⟨hv, k⟩, fun hb => ⟨by rw [hother hv]; exact hb.fetch, by rw [State.held, hother hv]; exact hb.held, ?_, by
          rw [hpos]; exact hb.pos⟩⟩
      · obtain rfl := Option.some.inj he
        exact Option.some.inj (hx.lock.symm.trans ht.lock)
      · rw [State.topFinished, State.topTote?, State.top?, hother hv, htote]
        exact hb.top
  · refine (h.pos q).keep hbinding (by rw [hpos]) (by rw [hpos]) (by rw [hpos]) fun v hv => ?_
    rw [hpos] at hv
    by_cases hq : p = q
    · exact .inl (congrArg some hq)
    · refine .inr ⟨by rw [hg]; nofun, hv, hkeeps ?_⟩
      rintro rfl
      obtain ⟨y, hy⟩ := ((h.pos q).lock v hv).resolve_left (by rw [hg]; nofun)
      exact hq (ht.same hy).2

/-- A lock given back (R62). -/
theorem Fits.releaseLock {p : Pos} (h : Fits { g with lock := some p } s) :
    Fits { g with lock := none } (s.releaseLock (some p)) := by
  generalize hu : s.releaseLock (some p) = u
  have hself : u.pos p = { s.pos p with lock := none } := by rw [← hu]; exact s.pos_updPos p _
  have hother : ∀ {q}, q ≠ p → u.pos q = s.pos q := fun hq => by rw [← hu]; exact s.pos_updPos_ne hq _
  have hrecords : u.tasks = s.tasks ∧ u.totes = s.totes ∧ u.windows = s.windows := by rw [← hu]; exact ⟨rfl, rfl, rfl⟩
  obtain ⟨htasks, htotes, hwindows⟩ := hrecords
  have hpos : ∀ q, (u.pos q).binding = (s.pos q).binding ∧ (u.pos q).state = (s.pos q).state ∧
      (u.pos q).swapTimer = (s.pos q).swapTimer ∧ (u.pos q).beforePull = (s.pos q).beforePull := fun q => by
    by_cases hq : q = p
    · subst hq; rw [hself]; exact ⟨rfl, rfl, rfl, rfl⟩
    · rw [hother hq]; exact ⟨rfl, rfl, rfl, rfl⟩
  have hkeeps : ∀ w, Keeps s u w := Keeps.of_eq hwindows htasks
  have hwin : ∀ w, u.win w = s.win w := fun w => by rw [State.win, hwindows]; rfl
  have htote : u.tote? = s.tote? := funext fun id => by rw [State.tote?, htotes]; rfl
  refine ⟨fun l x hx => ?_, fun id x hx => ?_, fun w => ?_, fun q => ?_⟩
  · rw [State.task?, htasks] at hx
    refine (h.task l x hx).congr (State.lit_congr (fun w => by rw [hwin]) _) (by rw [State.place, htote]; rfl) ?_ fun k => k
    rw [htote]
    exact fun y hy he => .inl ⟨y, hy, he⟩
  · rw [htote] at hx
    exact (h.tote id x hx).congr (by rw [State.named, htasks]; rfl) fun k => k
  · refine (h.win w).keep (hkeeps w) (fun q => (hpos q).1) (fun x q hx hq => ⟨?_, nofun⟩) fun x q _ hd => ⟨hd, fun hb =>
      ⟨by rw [hwin]; exact hb.fetch, by rw [State.held, hwin]; exact hb.held, ?_, by rw [(hpos q).2.1]; exact hb.pos⟩⟩
    · rw [hother fun he => hq (congrArg some he.symm)]
      exact hx.lock
    · rw [State.topFinished, State.topTote?, State.top?, hwin, htote]
      exact hb.top
  · refine (h.pos q).keep (fun q => (hpos q).1) (hpos q).2.1 (hpos q).2.2.1 (hpos q).2.2.2 fun w hw => .inr ?_
    have hq : q ≠ p := fun he => by rw [he, hself] at hw; cases hw
    rw [hother hq] at hw
    exact ⟨fun he => hq (Option.some.inj he).symm, hw, hkeeps w⟩

theorem Fits.unlightLast {w : Win} {p : Pos} (h : Fits { g with lock := some p } s) (t : Task) (c : UnlitCause) :
    Fits { g with lock := none } (s.unlightLast w (some p) t c) := h.releaseLock.congr rfl rfl rfl rfl

/-- A window's task goes out and gives the lock back: the window is dim no more. -/
theorem Fits.unlight (hs : Ground s) {w : Win} (c : UnlitCause) (hg : g.lock = none) (h : Fits g s) :
    Fits { g with dim := fun v => v ≠ w ∧ g.dim v } (s.unlight w c) := by
  have hgap : ({ g with lock := none } : Gap) = g := by rw [← hg]
  unfold State.unlight
  split
  next t ht =>
    obtain ⟨l, hl, htl⟩ := Option.bind_eq_some_iff.1 ht
    obtain ⟨x, p, hx, hid⟩ := h.shines_of_lit hl
    obtain rfl : t = x := Option.some.inj (htl.symm.trans (hid ▸ hx.task))
    rw [hx.pos]
    have hfirst := Fits.unlightLast (g := { g with dim := fun v => v ≠ w ∧ g.dim v }) (w := w) (h.unlightFirst hs hx hg false) t c
    rw [← hg] at hfirst
    exact hfirst
  next hno =>
    have hdark : (s.win w).lit = none := by
      by_contra hlit
      obtain ⟨l, hl⟩ := Option.ne_none_iff_exists'.1 hlit
      obtain ⟨x, p, hx, hid⟩ := h.shines_of_lit hl
      rw [hl, Option.bind_some, ← hid, hx.task] at hno
      cases hno
    refine ⟨fun l x hx => ?_, fun id x hx => ?_, fun v => ?_, fun p => ?_⟩
    · exact (h.task l x hx).congr Iff.rfl rfl (fun y hy he => .inl ⟨y, hy, he⟩) fun k => k
    · exact (h.tote id x hx).congr rfl fun k => k
    · refine (h.win v).keep (.of_eq rfl rfl v) (fun _ => rfl) (fun _ _ hx hp => ⟨hx.lock, hp⟩) fun x p hx hd => ⟨fun k => hd
        ⟨fun hv => ?_, k⟩, fun hb => ⟨hb.fetch, hb.held, hb.top, hb.pos⟩⟩
      rw [hv] at hx
      cases hdark.symm.trans hx.lit
    · exact (h.pos p).same (fun _ => rfl) (Keeps.of_eq rfl rfl) rfl

/-! ### The end of a task (R54) -/

/-- The end of a record lit nowhere. -/
theorem Fits.endRecord_unlit (hs : Ground s) (h : Fits g s) (o : TaskOutcome) {t : Task} (ht : s.task? t.id = some t)
    (hl : ¬ s.Lit t.id) : Fits { g with orphan := fun x => g.orphan x ∨ x = t.tote } (s.endRecord o none t) := by
  obtain ⟨htasks, _, hwindows, _⟩ := s.notedEnd_records (.taskEnded o (t.beforeEnd none) (s.positionOf t.orderTote)) o t
  have hnoted := h.notedEnd (.taskEnded o (t.beforeEnd none) (s.positionOf t.orderTote)) o t
  have hground : Ground ((s.noteOrder (.taskEnded o (t.beforeEnd none) (s.positionOf t.orderTote))).offerTaskEnd o t) :=
    ((Moves.noteOrder _ _).trans (.offerTaskEnd _ o t)).ground hs
  unfold State.endRecord
  dsimp only
  generalize (s.noteOrder _).offerTaskEnd o t = u at *
  refine hnoted.dropTask hground ?_ ?_
  · rw [State.task?, htasks]
    exact ht
  · refine fun k => hl ((State.lit_congr (fun w => ?_) _).1 k)
    rw [State.win, hwindows]
    rfl

/-- The end of a lit record, with its lock given back. Its window may have gone dark before (R99). -/
theorem Fits.endRecord_lit (hs : Ground s) (h : Fits g s) (o : TaskOutcome) (c : UnlitCause) {w : Win} {t : Task} {p : Pos}
    (hp : s.positionOf t.orderTote = some p) (ht : s.task? t.id = some t)
    (hlit : (g.lock = none ∧ s.Shines w t p) ∨ (g.lock = some p ∧ (s.win w).lit = none ∧ ¬ s.Lit t.id)) (hd : ∀ v, ¬ g.dim v) :
    Fits { g with lock := none, orphan := fun x => g.orphan x ∨ x = t.tote }
      ((s.endRecord o (some w) t).unlightLast w (s.positionOf t.orderTote) t c) := by
  have hfirst : Fits { g with lock := some p } (s.unlightFirst w true) ∧ ¬ (s.unlightFirst w true).Lit t.id ∧
      ∃ y, (s.unlightFirst w true).task? t.id = some y ∧ y.tote = t.tote := by
    obtain ⟨hg, hx⟩ | ⟨hg, hdark, hl⟩ := hlit
    · have hfits := h.unlightFirst hs hx hg true
      have hdim : (fun v => v ≠ w ∧ g.dim v) = g.dim := funext fun v => propext ⟨fun k => k.2, fun k => absurd k (hd v)⟩
      rw [hdim] at hfits
      refine ⟨hfits, ?_, ?_⟩
      · rintro ⟨v, hv⟩
        rw [State.unlightFirst_of_lit true hx.lit] at hv
        by_cases hvw : v = w
        · subst hvw
          rw [State.win_updWin] at hv
          cases hv
        · rw [State.win_updWin_ne _ hvw] at hv
          exact hvw (hx.win_of_lit hs h hv).symm
      · refine ⟨{ t with state := .active }, ?_, rfl⟩
        rw [State.unlightFirst_of_lit true hx.lit]
        refine (s.task?_updTask t.id t.id (fun t => { t with state := .active }) fun _ => rfl).trans ?_
        rw [if_pos rfl, ht]
        rfl
    · have hsame : s.unlightFirst w true = s := by simp only [State.unlightFirst, hdark]
      rw [hsame]
      have hgap : ({ g with lock := some p } : Gap) = g := by rw [← hg]
      rw [hgap]
      exact ⟨h, hl, t, ht, rfl⟩
  obtain ⟨hfits, hl, y, hy, hyt⟩ := hfirst
  have hground := (Moves.unlightFirst s w true).ground hs
  rw [hp]
  unfold State.endRecord
  dsimp only
  rw [hp]
  generalize s.unlightFirst w true = u at *
  obtain ⟨htasks, _, hwindows, _⟩ := u.notedEnd_records (.taskEnded o (t.beforeEnd (some w)) (some p)) o t
  have hnoted := hfits.notedEnd (.taskEnded o (t.beforeEnd (some w)) (some p)) o t
  have hgroundv : Ground ((u.noteOrder (.taskEnded o (t.beforeEnd (some w)) (some p))).offerTaskEnd o t) :=
    ((Moves.noteOrder _ _).trans (.offerTaskEnd _ o t)).ground hground
  generalize (u.noteOrder _).offerTaskEnd o t = v at *
  have hdrop := hnoted.dropTask hgroundv (l := t.id) (t := y) (by rw [State.task?, htasks]; exact hy) fun k =>
    hl ((State.lit_congr (fun w => by rw [State.win, hwindows]; rfl) _).1 k)
  rw [hyt] at hdrop
  exact hdrop.unlightLast (g := { g with orphan := fun x => g.orphan x ∨ x = t.tote }) t c

/-- What a position does when its lock is freed keeps everything fitting. -/
def SwapFits (swap : Pos → State → State) : Prop := ∀ (g : Gap) (u : State) (p : Pos), Ground u → Fits g u → g.lock = none →
  (∀ v, ¬ g.dim v) → (u.pos p).state = .closing → (u.pos p).lock = none → Fits g (swap p u)

theorem Fits.swapIfReady {swap : Pos → State → State} (hswap : SwapFits swap) (hs : Ground s) (h : Fits g s) (hg : g.lock = none)
    (hd : ∀ v, ¬ g.dim v) (p : Option Pos) : Fits g (s.swapIfReady swap p) := by
  unfold State.swapIfReady
  split
  next q =>
    split
    next hready =>
      simp only [State.swapReady, Option.any_some, Bool.and_eq_true, beq_iff_eq, Option.isNone_iff_eq_none] at hready
      exact hswap g s q hs h hg hd hready.1 hready.2
    next => exact h
  next => exact h

/-- Step 6 of R54, in either order. -/
theorem Fits.afterUnlit {swap : Pos → State → State} (hswap : SwapFits swap) (hmoves : ∀ p s, Moves s (swap p s)) (hs : Ground s)
    {O : ToteId → Prop} {id : ToteId} (h : Fits { g with orphan := fun x => O x ∨ x = id } s) (hg : g.lock = none)
    (hd : ∀ v, ¬ g.dim v) (o : TaskOutcome) (p : Option Pos) : Fits { g with orphan := O } (s.afterUnlit swap o p id) := by
  have hfirst : ∀ u, Ground u → Fits { g with orphan := fun x => O x ∨ x = id } u →
      Fits { g with orphan := O } ((u.swapIfReady swap p).releaseTote id) := fun u hu huf =>
    Fits.releaseTote ((Moves.swapIfReady hmoves p u).ground hu) id (huf.swapIfReady hswap hu hg hd p)
  unfold State.afterUnlit
  split
  · have hfree : Ground { s with free := s.free + 1 } := (Moves.free s _).ground hs
    have hfreef : Fits { g with orphan := fun x => O x ∨ x = id } { s with free := s.free + 1 } := h.congr rfl rfl rfl rfl
    unfold State.eitherOrder
    split
    · exact hfirst _ hfree hfreef
    · refine Fits.swapIfReady (g := { g with orphan := O }) hswap ((Moves.releaseTote _ id).ground hfree) ?_ hg hd p
      exact Fits.releaseTote hfree id hfreef
  · exact hfirst s hs h

/-- The end of a task keeps everything fitting (R54, R126). -/
theorem Fits.endWith {swap : Pos → State → State} (hswap : SwapFits swap) (hmoves : ∀ p s, Moves s (swap p s)) (hs : Ground s)
    (h : Fits g s) (hg : g.lock = none) (hd : ∀ v, ¬ g.dim v) (o : TaskOutcome) (c : UnlitCause) (id : TaskId) :
    Fits g (s.endWith swap o c (s.litAt id) id) := by
  unfold State.endWith
  split
  · exact h
  next t ht =>
  have hid := State.id_of_task? ht
  subst hid
  cases hlit : s.litAt t.id with
  | none =>
    have hl : ¬ s.Lit t.id := fun k => by rw [← State.litAt_isSome_iff, hlit] at k; cases k
    have hrelease := Fits.releaseTote ((Moves.endRecord s o none t).ground hs) t.tote (h.endRecord_unlit hs o ht hl)
    exact hrelease
  | some w =>
    obtain ⟨x, p, hx, hid⟩ := h.shines_of_lit (State.lit_of_litAt hlit)
    obtain rfl : t = x := Option.some.inj (ht.symm.trans (hid ▸ hx.task))
    have hend := h.endRecord_lit hs o c hx.pos ht (.inl ⟨hg, hx⟩) hd
    have hgap : ({ g with lock := none } : Gap) = g := by rw [← hg]
    refine Fits.afterUnlit hswap hmoves (((Moves.endRecord s o (some w) t).trans (.unlightLast _ w _ t c)).ground hs) ?_ hg hd o
      (s.positionOf t.orderTote)
    rw [← hg] at hend
    exact hend

/-- Ending tasks one by one keeps everything fitting. -/
theorem Fits.endAll {f : TaskId → State → State} (hmoves : ∀ id s, Moves s (f id s))
    (hf : ∀ (u : State) (id : TaskId), Ground u → Fits g u → Fits g (f id u)) (ids : List TaskId) (hs : Ground s) (h : Fits g s) :
    Fits g (s.endAll f ids) := by
  unfold State.endAll
  induction ids generalizing s with
  | nil => exact h
  | cons id ids ih => exact ih ((hmoves id s).ground hs) (hf s id hs h)

/-! ### The swap-out (R52, R69) -/

/-- A CLOSING position with a free lock goes SWAPPING, and a SWAPPING one may start afresh. -/
theorem Fits.enterSwapping (h : Fits g s) {p : Pos} (hstate : (s.pos p).state = .closing ∨ (s.pos p).state = .swapping)
    (hlock : (s.pos p).lock = none) (ms : Ms) :
    Fits g (s.updPos p fun q => { q with state := .swapping, swapTimer := some ms }) := by
  generalize hu : (s.updPos p fun q => { q with state := .swapping, swapTimer := some ms }) = u
  have hself : u.pos p = { s.pos p with state := .swapping, swapTimer := some ms } := by rw [← hu]; exact s.pos_updPos p _
  have hother : ∀ {q}, q ≠ p → u.pos q = s.pos q := fun hq => by rw [← hu]; exact s.pos_updPos_ne hq _
  have hrecords : u = { s with positions := u.positions } := by rw [← hu]; rfl
  have hbinding : ∀ q, (u.pos q).binding = (s.pos q).binding := fun q => by
    by_cases hq : q = p
    · subst hq; rw [hself]
    · rw [hother hq]
  have hkeeps : ∀ w, Keeps s u w := Keeps.of_eq (congrArg State.windows hrecords :) (congrArg State.tasks hrecords :)
  have hne : ∀ {w x q}, s.Shines w x q → q ≠ p := fun hx he => by
    subst he
    rw [hx.lock] at hlock
    cases hlock
  refine ⟨fun l x hx => ?_, fun id x hx => ?_, fun w => ?_, fun q => ?_⟩
  · rw [hrecords] at hx
    refine (h.task l x hx).congr ?_ ?_ ?_ fun k => k <;> rw [hrecords]
    · exact Iff.rfl
    · rfl
    · exact fun y hy he => .inl ⟨y, hy, he⟩
  · rw [hrecords] at hx
    refine (h.tote id x hx).congr ?_ fun k => k
    rw [hrecords]
    rfl
  · refine (h.win w).keep (hkeeps w) hbinding (fun x q hx hq => ⟨by rw [hother (hne hx)]; exact hx.lock, hq⟩) fun x q hx hd =>
      ⟨hd, fun hb => ⟨?_, ?_, ?_, by rw [hother (hne hx)]; exact hb.pos⟩⟩ <;> rw [hrecords]
    · exact hb.fetch
    · exact hb.held
    · exact hb.top
  · by_cases hq : q = p
    · subst hq
      have hpf := h.pos q
      refine ⟨?_, fun b hb => ?_, ?_, ?_, fun w hw => ?_⟩
      · rw [hself]
        exact ⟨fun _ => nofun, fun _ => hpf.bound.2 (by obtain k | k := hstate <;> rw [k] <;> nofun)⟩
      · rw [State.positionOf_congr hbinding]
        exact hpf.names b (hbinding q ▸ hb)
      · rw [hself]
        exact ⟨fun _ => rfl, fun _ => rfl⟩
      · rw [hself]
        exact ⟨fun k => absurd (hpf.pull.1 k) (by obtain k | k := hstate <;> rw [k] <;> nofun), nofun⟩
      · rw [hself, hlock] at hw
        cases hw
    · refine (h.pos q).keep hbinding (by rw [hother hq]) (by rw [hother hq]) (by rw [hother hq]) fun w hw => ?_
      rw [hother hq] at hw
      by_cases hg : g.lock = some q
      · exact .inl hg
      · exact .inr ⟨hg, hw, hkeeps w⟩

theorem Fits.endInSwap (hs : Ground s) (h : Fits g s) (hg : g.lock = none) (hd : ∀ v, ¬ g.dim v) (id : TaskId) :
    Fits g (s.endInSwap id) :=
  h.endWith (fun _ _ _ _ hf _ _ _ _ => hf) (fun _ _ => .refl) hs hg hd _ _ id

/-- The swap-out of a CLOSING position with a free lock, or of one that is SWAPPING already (R69). -/
theorem Fits.swapOut_of {p : Pos} (hs : Ground s) (h : Fits g s) (hg : g.lock = none) (hd : ∀ v, ¬ g.dim v)
    (hstate : (s.pos p).state = .closing ∨ (s.pos p).state = .swapping) (hlock : (s.pos p).lock = none) : Fits g (s.swapOut p) := by
  cases hb : (s.pos p).binding with
  | none => simpa only [State.swapOut, hb] using h
  | some b =>
    rw [State.swapOut_of_binding hb]
    have hdir := (Moves.direct s (.swapOut p b.orderTote)).ground hs
    have hpos : (s.direct (.swapOut p b.orderTote)).pos p = s.pos p := by
      unfold State.direct
      split <;> rfl
    refine Fits.endAll Moves.endInSwap (fun u id hu hf => hf.endInSwap hu hg hd id) _ ?_ ((h.direct _).enterSwapping (by
      rw [hpos]; exact hstate) (by rw [hpos]; exact hlock) _)
    exact (Moves.updPos _ p _ fun _ => by rfl).ground hdir

theorem Fits.swapOut : SwapFits State.swapOut := fun _ _ _ hs h hg hd hstate hlock => h.swapOut_of hs hg hd (.inl hstate) hlock

theorem Fits.endTask (hs : Ground s) (h : Fits g s) (hg : g.lock = none) (hd : ∀ v, ¬ g.dim v) (o : TaskOutcome) (id : TaskId) :
    Fits g (s.endTask o id) := h.endWith Fits.swapOut Moves.swapOut hs hg hd o _ id

theorem Fits.endTasks (hs : Ground s) (h : Fits g s) (hg : g.lock = none) (hd : ∀ v, ¬ g.dim v) (o : TaskOutcome)
    (ids : List TaskId) : Fits g (s.endAll (State.endTask o) ids) :=
  Fits.endAll (Moves.endTask o) (fun _ id hu hf => hf.endTask hu hg hd o id) ids hs h

end

end Sys2Proof.Machine

/-! PROOFS. What is lit where under the work of the windows at the end of an event (R68, R81, R92 to R94, R108, R116). -/

namespace Sys2Proof.Machine

section
variable {g : Gap} {s : State}

/-! ### Changes of a window's record -/

/-- A change of window `w`'s record that leaves its lit task and its top. -/
theorem Fits.updWin (h : Fits g s) (w : Win) (f : Window → Window) {D : Win → Prop} (hlit : (f (s.win w)).lit = (s.win w).lit)
    (hconfirm : (f (s.win w)).confirmTimer = (s.win w).confirmTimer)
    (hguard : (s.win w).guardTimer = none → (f (s.win w)).guardTimer = none)
    (htop : (s.win w).lit ≠ none → (f (s.win w)).lift.head? = (s.win w).lift.head?) (hdim : ∀ v, g.dim v → D v)
    (hwin : (s.win w).lit ≠ none → ¬ D w → ((s.win w).fetch = none → (f (s.win w)).fetch = none) ∧
      ((s.win w).holds.any = false → (f (s.win w)).holds.any = false)) : Fits { g with dim := D } (s.updWin w f) := by
  have hself : (s.updWin w f).win w = f (s.win w) := s.win_updWin w f
  have hother : ∀ {v}, v ≠ w → (s.updWin w f).win v = s.win v := fun hv => s.win_updWin_ne hv f
  have hlits : ∀ v, ((s.updWin w f).win v).lit = (s.win v).lit := fun v => by
    by_cases hv : v = w
    · subst hv; rw [hself, hlit]
    · rw [hother hv]
  have htops : ∀ v, (s.win v).lit ≠ none → (s.updWin w f).top? v = s.top? v := fun v hl => by
    by_cases hv : v = w
    · subst hv; rw [State.top?, hself]; exact htop hl
    · rw [State.top?, hother hv]; rfl
  have hkeeps : ∀ v, Keeps s (s.updWin w f) v := fun v => by
    refine .of_same (hlits v) ?_ ?_ (fun x _ hx => ⟨x, hx, rfl, rfl, fun k => k⟩) (htops v)
    · by_cases hv : v = w
      · subst hv; rw [hself, hconfirm]
      · rw [hother hv]
    · by_cases hv : v = w
      · subst hv; rw [hself]; exact hguard
      · rw [hother hv]; exact fun k => k
  refine ⟨fun l x hx => ?_, fun id x hx => ?_, fun v => ?_, fun p => (h.pos p).same (fun _ => rfl) hkeeps rfl⟩
  · exact (h.task l x hx).congr (State.lit_congr hlits _) rfl (fun y hy he => .inl ⟨y, hy, he⟩) fun k => k
  · exact (h.tote id x hx).congr rfl fun k => k
  · refine (h.win v).keep (hkeeps v) (fun _ => rfl) (fun _ _ hx hp => ⟨hx.lock, hp⟩) fun x p hx hd => ⟨fun k => hd (hdim v k), fun hb => ?_⟩
    have hl : (s.win v).lit ≠ none := by rw [hx.lit]; nofun
    have hfin : (s.updWin w f).topFinished v = s.topFinished v := by
      rw [State.topFinished, State.topTote?, htops v hl]
      rfl
    by_cases hv : v = w
    · subst hv
      obtain ⟨hfetch, hheld⟩ := hwin hl hd
      exact ⟨by rw [hself]; exact hfetch hb.fetch, by rw [State.held, hself]; exact hheld hb.held, by rw [hfin]; exact hb.top, hb.pos⟩
    · exact ⟨by rw [hother hv]; exact hb.fetch, by rw [State.held, hother hv]; exact hb.held, by rw [hfin]; exact hb.top, hb.pos⟩

/-- The block timer is no matter here (R93). -/
theorem Fits.setBlock (hs : Ground s) (h : Fits .closed s) (w : Win) : Fits .closed (s.setBlock w) := by
  have htimer : ∀ ms : Option Ms, Fits .closed (s.updWin w fun x => { x with blockTimer := ms }) := fun ms =>
    h.updWin w _ rfl rfl (fun k => k) (fun _ => rfl) (fun _ k => k) fun _ _ => ⟨fun k => k, fun k => k⟩
  unfold State.setBlock
  split
  · split
    · exact h
    · split
      next hend => exact h.markFinished hs w fun x p hx => by cases hend.2.symm.trans hx.lit
      next => exact htimer _
  · exact htimer _

/-! ### Lighting (R116, R118) -/

/-- The lighting of a litable task. -/
theorem Fits.light (hs : Ground s) (h : Fits .closed s) {w : Win} {c : Task × Pos} (hc : s.choice w = some c) :
    Fits .closed (s.light w c) := by
  obtain ⟨hch, hmem, _⟩ := State.choice_first hc
  obtain ⟨_, hfetch, hheld, hfin, hdark⟩ := (s.chooses_iff w).1 hch
  obtain ⟨t, p⟩ := c
  obtain ⟨ht, hactive, htop, _, hpos, hbound, hlock⟩ := State.mem_litable.1 hmem
  have htask := hs.task?_of_mem ht
  have hfree : (s.pos p).lock = none := by
    cases hl : (s.pos p).lock with
    | none => rfl
    | some v =>
      obtain ⟨x, hx⟩ := ((h.pos p).lock v hl).resolve_left nofun
      by_cases hv : v = w
      · subst hv; cases hdark.symm.trans hx.lit
      · obtain rfl : v = w.other := by cases v <;> cases w <;> trivial
        exact absurd hl hlock
  have hunlit : ¬ s.Lit t.id := h.not_lit htask fun v hv hvt => hv (hs.top_inj hvt htop ▸ hdark)
  have hlit := State.light_task? (w := w) (c := (t, p)) htask
  have hself := s.light_win w (t, p)
  have hother : ∀ {v}, v ≠ w → (s.light w (t, p)).win v = s.win v := fun hv => s.light_win_ne (t, p) hv
  have hposp := s.light_pos w (t, p)
  have hposq : ∀ {q}, q ≠ p → (s.light w (t, p)).pos q = s.pos q := fun hq => s.light_pos_ne w hq
  have htaskne : ∀ {l}, l ≠ t.id → (s.light w (t, p)).task? l = s.task? l := fun {l} hl => by
    refine (s.task?_updTask t.id l (fun x => { x with state := .lit, crush := x.crush || s.conflicts t p }) fun _ => rfl).trans ?_
    exact if_neg hl
  have hnamed : ∀ id, (s.light w (t, p)).named id = s.named id := fun id => by
    simp only [State.named, State.light, State.noteBench, State.updWin, State.updPos, State.updTask, List.any_map]
    refine congrArg (fun f => s.tasks.any f) (funext fun x => ?_)
    simp only [Function.comp_apply]
    split <;> rfl
  have htote : (s.light w (t, p)).tote? = s.tote? := rfl
  generalize s.light w (t, p) = u at *
  have hrecord : ∀ q, (u.pos q).binding = (s.pos q).binding ∧ (u.pos q).state = (s.pos q).state ∧
      (u.pos q).swapTimer = (s.pos q).swapTimer ∧ (u.pos q).beforePull = (s.pos q).beforePull := fun q => by
    by_cases hq : q = p
    · subst hq; rw [hposp]; exact ⟨rfl, rfl, rfl, rfl⟩
    · rw [hposq hq]; exact ⟨rfl, rfl, rfl, rfl⟩
  have hbinding : ∀ q, (u.pos q).binding = (s.pos q).binding := fun q => (hrecord q).1
  have hlits : ∀ l, u.Lit l ↔ s.Lit l ∨ l = t.id := fun l => by
    constructor
    · rintro ⟨v, hv⟩
      by_cases hvw : v = w
      · rw [hvw, hself] at hv
        exact .inr (Option.some.inj hv).symm
      · exact .inl ⟨v, hother hvw ▸ hv⟩
    · rintro (⟨v, hv⟩ | rfl)
      · have hvw : v ≠ w := fun he => by subst he; cases hdark.symm.trans hv
        exact ⟨v, by rw [hother hvw]; exact hv⟩
      · exact ⟨w, by rw [hself]⟩
  have hkeeps : ∀ {v}, v ≠ w → Keeps s u v := fun {v} hv => by
    refine .of_same (by rw [hother hv]) (by rw [hother hv]) (by rw [hother hv]; exact fun k => k)
      (fun x hx hxt => ⟨x, ?_, rfl, rfl, fun k => k⟩) fun _ => by rw [State.top?, hother hv]; rfl
    rw [htaskne fun he => hunlit ⟨v, he ▸ hx⟩, hxt]
  have htopw : u.top? w = s.top? w := by rw [State.top?, hself]; rfl
  have hfinv : ∀ v, u.top? v = s.top? v → u.topFinished v = s.topFinished v := fun v hv => by
    rw [State.topFinished, State.topTote?, hv, htote]
    rfl
  have hshines : u.Shines w { t with state := .lit, crush := t.crush || s.conflicts t p } p :=
    ⟨by rw [hself], hlit, htopw.trans htop, (State.positionOf_congr hbinding _).trans hpos, by rw [hposp], .inl (by rw [hself]; rfl)⟩
  refine ⟨fun l x hx => ?_, fun id x hx => ?_, fun v => ?_, fun q => ?_⟩
  · have htf := h.task t.id t htask
    by_cases hl : l = t.id
    · subst hl
      rw [hlit] at hx
      obtain rfl := Option.some.inj hx
      refine ⟨fun _ => rfl, fun hno => absurd ((hlits t.id).2 (.inr rfl)) hno, ⟨fun k => ?_, nofun⟩, fun y hy he => ?_⟩
      · have hwait := htf.await.1 k
        rw [hactive] at hwait
        cases hwait
      · rw [htote] at hy
        exact .inr ((htf.expired y hy he).resolve_left (by rw [hactive]; nofun))
    · rw [htaskne hl] at hx
      have hxid := State.id_of_task? hx
      refine (h.task l x hx).congr ((hlits _).trans (or_iff_left (by rw [hxid]; exact hl))) (by rw [State.place, htote]; rfl) ?_
        fun k => k
      rw [htote]
      exact fun y hy he => .inl ⟨y, hy, he⟩
  · rw [htote] at hx
    exact (h.tote id x hx).congr (hnamed _) fun k => k
  · by_cases hv : v = w
    · subst hv
      refine ⟨fun hn => (by rw [hself] at hn; cases hn), fun _ _ => ⟨_, p, hshines, nofun, fun _ => ⟨?_, ?_, .inl ?_, .inl ?_⟩⟩⟩
      · rw [hself]
        exact hfetch
      · rw [State.held, hself]
        exact hheld
      · rw [hfinv v htopw]
        exact hfin
      · rw [hposp]
        exact hbound
    · refine (h.win v).keep (hkeeps hv) hbinding (fun x q hx hq => ⟨?_, hq⟩) fun x q _ hd => ⟨hd, fun hb =>
        ⟨by rw [hother hv]; exact hb.fetch, by rw [State.held, hother hv]; exact hb.held, ?_, by rw [(hrecord q).2.1]; exact hb.pos⟩⟩
      · have hqp : q ≠ p := fun he => by subst he; cases hfree.symm.trans hx.lock
        rw [hposq hqp]
        exact hx.lock
      · rw [hfinv v (by rw [State.top?, hother hv]; rfl)]
        exact hb.top
  · obtain ⟨_, hstate, hswap, hpull⟩ := hrecord q
    by_cases hq : q = p
    · subst hq
      have hqf := h.pos q
      refine ⟨by rw [hbinding, hstate]; exact hqf.bound, fun b hb => ?_, by rw [hswap, hstate]; exact hqf.swap, by
        rw [hpull, hstate]; exact hqf.pull, fun v hv => .inr ?_⟩
      · rw [State.positionOf_congr hbinding]
        exact hqf.names b (hbinding q ▸ hb)
      · rw [hposp] at hv
        obtain rfl := Option.some.inj hv
        exact ⟨_, hshines⟩
    · refine (h.pos q).keep hbinding hstate hswap hpull fun v hv => .inr ⟨nofun, hposq hq ▸ hv, hkeeps fun he => ?_⟩
      subst he
      rw [hposq hq] at hv
      obtain ⟨x, hx⟩ := ((h.pos q).lock v hv).resolve_left nofun
      cases hdark.symm.trans hx.lit

/-! ### The FETCH (R81, R82) -/

/-- The records of a FETCH: its window is dim until its task is unlit. -/
theorem Fits.fetchRecords (hs : Ground s) (h : Fits .closed s) {w : Win} {t : Tote} {slot : Slot} (ht : s.tote? t.id = some t)
    (hst : t.state = .inLane slot) : Fits { Gap.closed with dim := fun v => v = w } (s.fetchRecords w t.id slot) := by
  have htote : ∀ x, (s.fetchRecords w t.id slot).tote? x = if x = t.id then (s.tote? x).map fun x => { x with
      state := .fetching w, rush := false, orphanTimer := none } else s.tote? x := fun x =>
    s.tote?_updTote t.id x (fun x => { x with state := .fetching w, rush := false, orphanTimer := none }) fun _ => rfl
  have hself := s.fetchRecords_win w t.id slot
  have hother : ∀ {v}, v ≠ w → (s.fetchRecords w t.id slot).win v = s.win v := fun hv => s.fetchRecords_win_ne hv t.id slot
  have hplace : s.place t.id = some (.inLane slot) := by rw [State.place, ht, Option.map_some, hst]
  have hglow : ∀ v, ((s.fetchRecords w t.id slot).win v).glow = (s.win v).glow ∧
      ((s.fetchRecords w t.id slot).win v).lift = (s.win v).lift := fun v => by
    by_cases hv : v = w
    · subst hv; rw [hself]; exact ⟨rfl, rfl⟩
    · rw [hother hv]; exact ⟨rfl, rfl⟩
  have hr : Relocates s (s.fetchRecords w t.id slot) t.id fun x => x := by
    refine ⟨fun x hx => by rw [htote, if_neg hx], fun l => Option.map_id'.symm, fun _ _ => rfl, fun _ => rfl, fun _ => rfl,
      fun v => (hglow v).1, fun v _ => by rw [State.top?, (hglow v).2]; rfl, fun v x p hx hid => ?_⟩
    have hlift := hs.place_of_top hx.top
    rw [hid, hplace] at hlift
    cases hlift
  refine h.relocate hr (fun _ _ k => k) (fun _ k => k) rfl (fun x hx hid hxf _ => ?_) (fun x hx => ?_) fun v _ hd => ?_
  · refine hxf.congr (State.lit_congr (fun v => Window.lit_of_glow (hglow v).1) _) ?_ (fun y hy he => ?_) fun k => k
    · rw [State.place, htote, if_pos hid, hid, ht, hplace]
      rfl
    · rw [htote, if_pos hid, hid, ht] at hy
      obtain rfl := Option.some.inj hy
      exact .inl ⟨t, hid.symm ▸ ht, he⟩
  · rw [htote, if_pos rfl, ht] at hx
    obtain rfl := Option.some.inj hx
    have hleave := (h.tote t.id t ht).leaving
    rw [hst] at hleave
    exact ⟨nofun, nofun, hleave⟩
  · rw [hother hd, State.held, hother hd]
    exact ⟨nofun, fun k => k, rfl⟩

/-- A fetch stands the top down (R82). -/
theorem Fits.issueFetch (hs : Ground s) (h : Fits .closed s) {w : Win} {t : Tote} (hchoice : s.fetchChoice w = some t) :
    Fits .closed (s.issueFetch w t) := by
  have ht := (State.fetchChoice_candidate hchoice).1
  cases hst : t.state with
  | inLane slot =>
    rw [State.issueFetch_of_inLane hst]
    have hground := (Moves.direct s (.fetch t.id slot w)).ground hs
    have hrecords := (h.direct (.fetch t.id slot w)).fetchRecords hground (w := w) (by simpa using ht) hst
    have hmoved := (Moves.single (.fetch w t slot (by simpa using hchoice) hst)).ground hground
    have hunlit := hrecords.unlight hmoved (w := w) .preempt rfl
    have hdim : (fun v => v ≠ w ∧ v = w) = Gap.closed.dim := funext fun v => propext ⟨fun k => k.1 k.2, False.elim⟩
    rw [hdim] at hunlit
    exact hunlit
  | _ => simpa only [State.issueFetch, hst] using h

/-! ### The work -/

theorem Fits.workStep {t : State} (hs : Ground s) (h : Fits .closed s) (hstep : WorkStep s t) : Fits .closed t := by
  cases hstep with
  | free n => exact h.congr rfl rfl rfl rfl
  | swap p hp =>
    rw [State.swapOwed, Bool.and_eq_true] at hp
    obtain ⟨hready, _⟩ := hp
    simp only [State.swapReady, Option.any_some, Bool.and_eq_true, beq_iff_eq, Option.isNone_iff_eq_none] at hready
    exact Fits.swapOut .closed s p hs h rfl (fun _ k => k) hready.1 hready.2
  | finish w => exact h.finishTest hs w
  | send w hdue =>
    have hsend := h.sendIfDue hs w fun hfin => h.dark_of_finished (fun _ k => k) (fun _ k => k) hfin
    rwa [State.sendIfDue, if_pos hdue] at hsend
  | choose w c hc => exact h.light hs hc
  | block w => exact h.setBlock hs w
  | fetch w t hchoice => exact h.issueFetch hs hchoice

theorem WorkSteps.fits {t : State} (hsteps : WorkSteps s t) (hs : Ground s) (h : Fits .closed s) : Ground t ∧ Fits .closed t :=
  hsteps.keep (P := fun u => Ground u ∧ Fits .closed u) (fun hstep hu => ⟨hstep.moves.ground hu.1, hu.2.workStep hu.1 hstep⟩) ⟨hs, h⟩

end

end Sys2Proof.Machine

/-! PROOFS. What the work at the end of an event has done in the end: no CLOSING position keeps a free lock, and no block timer runs
beside a task lit to a BOUND position (R68, R93). A round of the work that leaves something to do pays a debt, of which there are
ten at most. -/

namespace Sys2Proof.Machine

/-! ### What ends of tasks and SENDBACKs do to positions and windows -/

/-- Window `w` has a send-back in flight, or owes one (R94). -/
def State.Owes (s : State) (w : Win) : Prop := (s.win w).ret ≠ none ∨ (s.topFinished w = true ∧ s.held w = false)

/-- What work does that is no choice and no fetch: positions go from CLOSING to SWAPPING alone, locks are given back alone, and
what a window owes it pays. -/
structure Works (s t : State) : Prop where
  moves : Moves s t
  state : ∀ p, (t.pos p).state = (s.pos p).state ∨ ((s.pos p).state = .closing ∧ (t.pos p).state = .swapping)
  lock : ∀ p, (s.pos p).lock = none → (t.pos p).lock = none
  owes : Ground s → ∀ w, s.Owes w → t.Owes w

theorem Works.refl (s : State) : Works s s := ⟨.refl, fun _ => .inl rfl, fun _ h => h, fun _ _ h => h⟩

theorem Works.trans {s t u : State} (h : Works s t) (k : Works t u) : Works s u where
  moves := h.moves.trans k.moves
  state p := by
    obtain hst | ⟨hst, htu⟩ := h.state p
    · obtain ktu | ⟨kt, ku⟩ := k.state p
      · exact .inl (ktu.trans hst)
      · exact .inr ⟨hst ▸ kt, ku⟩
    · obtain ktu | ⟨kt, _⟩ := k.state p
      · exact .inr ⟨hst, ktu.trans htu⟩
      · cases htu.symm.trans kt
  lock p hp := k.lock p (h.lock p hp)
  owes hs w hw := k.owes (h.moves.ground hs) w (h.owes hs w hw)

/-- What a window owes rests on its lift, its return, its hold sources and the FINISHED top. -/
theorem State.Owes.congr {s t : State} {w : Win} (h : s.Owes w) (hret : (t.win w).ret = (s.win w).ret)
    (hheld : (t.win w).holds = (s.win w).holds) (hfin : s.topFinished w = true → t.topFinished w = true) : t.Owes w := by
  unfold State.Owes State.held at *
  rw [hret, hheld]
  exact h.imp_right fun k => ⟨hfin k.1, k.2⟩

theorem State.topFinished_congr {s t : State} {w : Win} (hlift : (t.win w).lift = (s.win w).lift) (htotes : t.totes = s.totes) :
    t.topFinished w = s.topFinished w := by
  have htote : t.tote? = s.tote? := funext fun id => by rw [State.tote?, htotes]; rfl
  rw [State.topFinished, State.topTote?, State.top?, hlift, htote]
  rfl

/-- Work on totes and tasks at unchanged positions and windows. -/
theorem Works.of_records {s t : State} (hm : Moves s t) (hpos : t.positions = s.positions) (htotes : t.totes = s.totes)
    (hwin : ∀ w, (t.win w).core = (s.win w).core) : Works s t := by
  have hpos : ∀ p, t.pos p = s.pos p := fun p => by rw [State.pos, hpos]; rfl
  refine ⟨hm, fun p => .inl (by rw [hpos]), fun p hp => by rw [hpos]; exact hp, fun _ w hw => ?_⟩
  have hcore := hwin w
  simp only [Window.core, Prod.mk.injEq] at hcore
  obtain ⟨hlift, _, hret, _, hholds, _⟩ := hcore
  exact hw.congr hret hholds fun hf => by rw [State.topFinished_congr hlift htotes]; exact hf

theorem Works.finishTest (s : State) (v : Win) : Works s (s.finishTest v) where
  moves := .finishTest s v
  state p := .inl (congrArg (fun u : State => (u.pos p).state) (s.finishTest_totes v) :)
  lock p hp := (congrArg (fun u : State => (u.pos p).lock) (s.finishTest_totes v) :).trans hp
  owes _ w hw := hw.congr (congrArg (fun u : State => (u.win w).ret) (s.finishTest_totes v) :)
    (congrArg (fun u : State => (u.win w).holds) (s.finishTest_totes v) :) State.finishTest_keeps_topFinished

/-- The start of an orphan timer writes one record at most (R11). -/
theorem State.startOrphan_cases (s : State) (id : ToteId) :
    s.startOrphan id = s ∨ ∃ ms, s.startOrphan id = s.updTote id fun t => { t with orphanTimer := ms } := by
  unfold State.startOrphan
  split
  · split
    · split
      · exact .inl rfl
      · exact .inr ⟨_, rfl⟩
    · exact .inl rfl
  · exact .inl rfl

theorem Works.startOrphan (s : State) (id : ToteId) : Works s (s.startOrphan id) := by
  obtain h | ⟨ms, h⟩ := s.startOrphan_cases id
  · rw [h]
    exact .refl s
  · have hm := Moves.startOrphan s id
    rw [h] at hm ⊢
    refine ⟨hm, fun _ => .inl rfl, fun _ hp => hp, fun _ w hw => hw.congr rfl rfl fun hf => ?_⟩
    obtain ⟨top, x, htop, hx, hfin⟩ := (s.topFinished_iff w).1 hf
    refine (State.topFinished_iff _ w).2 ?_
    by_cases hid : top = id
    · exact ⟨top, { x with orphanTimer := ms }, htop, by rw [s.tote?_updTote id top _ (by exact fun _ => rfl), if_pos hid, hx]; rfl, hfin⟩
    · exact ⟨top, x, htop, by rw [s.tote?_updTote id top _ (by exact fun _ => rfl), if_neg hid, hx], hfin⟩

theorem State.sendIfDue_positions (s : State) (v : Win) : (s.sendIfDue v).positions = s.positions := by
  unfold State.sendIfDue
  split
  · cases hlift : (s.win v).lift with
    | nil => simp only [State.sendBack, hlift]
    | cons id rest =>
      rw [State.sendBack_of_lift hlift]
      refine ((congrArg State.positions (State.finishTest_totes _ v) :)).trans ?_
      change (s.direct _).positions = _
      unfold State.direct
      split <;> rfl
  · rfl

theorem Move.ret {s t : State} (h : Move s t) {w : Win} (hs : (s.win w).ret ≠ none) : (t.win w).ret ≠ none := by
  cases h with
  | windows ws hws =>
    have hcore := hws w
    simp only [Window.core, Prod.mk.injEq] at hcore
    obtain ⟨_, _, hret, _⟩ := hcore
    simp only [State.win, hret]
    exact hs
  | send v id rest hlift hret =>
    by_cases hv : w = v
    · subst hv
      rw [State.sendRecords_win]
      exact nofun
    · rw [State.sendRecords_win_ne _ hv]
      exact hs
  | fetch v t slot =>
    by_cases hv : w = v
    · subst hv
      rw [State.fetchRecords_win]
      exact hs
    · rw [State.fetchRecords_win_ne _ hv]
      exact hs
  | _ => exact hs

/-- A return in flight stays so. -/
theorem Moves.ret {s t : State} (h : Moves s t) {w : Win} (hs : (s.win w).ret ≠ none) : (t.win w).ret ≠ none :=
  h.keep (P := fun u => (u.win w).ret ≠ none) (fun hmove hu => hmove.ret hu) hs

theorem Move.fetching {s t : State} (h : Move s t) {w : Win} (hs : (s.win w).fetch ≠ none) : (t.win w).fetch ≠ none := by
  cases h with
  | windows ws hws =>
    have hcore := hws w
    simp only [Window.core, Prod.mk.injEq] at hcore
    obtain ⟨_, hfetch, _⟩ := hcore
    simp only [State.win, hfetch]
    exact hs
  | send v id rest hlift hret =>
    by_cases hv : w = v
    · subst hv
      rw [State.sendRecords_win, ← Option.isSome_iff_ne_none, fetchAfterPop_isSome, Option.isSome_iff_ne_none]
      exact hs
    · rw [State.sendRecords_win_ne _ hv]
      exact hs
  | fetch v t slot =>
    by_cases hv : w = v
    · subst hv
      rw [State.fetchRecords_win]
      exact nofun
    · rw [State.fetchRecords_win_ne _ hv]
      exact hs
  | _ => exact hs

/-- A fetch in flight stays so. -/
theorem Moves.fetching {s t : State} (h : Moves s t) {w : Win} (hs : (s.win w).fetch ≠ none) : (t.win w).fetch ≠ none :=
  h.keep (P := fun u => (u.win w).fetch ≠ none) (fun hmove hu => hmove.fetching hu) hs

/-- A window that owes a send-back sends it (R94). -/
theorem State.Owes.sendIfDue {s : State} {w : Win} (h : s.Owes w) : ((s.sendIfDue w).win w).ret ≠ none := by
  by_cases hret : (s.win w).ret = none
  · obtain ⟨hfin, hheld⟩ := h.resolve_left (fun k => k hret)
    obtain ⟨id, _, htop, _⟩ := (s.topFinished_iff w).1 hfin
    obtain ⟨rest, hlift⟩ := List.head?_eq_some_iff.1 htop
    have hdue : s.sendBackDue w = true := by simp [State.sendBackDue, hfin, hheld, hret]
    rw [State.sendIfDue, if_pos hdue, State.sendBack_of_lift hlift]
    refine (Moves.finishTest _ w).ret ?_
    rw [State.sendRecords_win]
    exact nofun
  · exact (Moves.sendIfDue s w).ret hret

theorem Works.sendIfDue (s : State) (v : Win) : Works s (s.sendIfDue v) where
  moves := .sendIfDue s v
  state p := .inl (by rw [State.pos, State.sendIfDue_positions]; rfl)
  lock p hp := by
    rw [State.pos, State.sendIfDue_positions]
    exact hp
  owes hs w hw := by
    by_cases hv : w = v
    · subst hv
      exact .inl hw.sendIfDue
    · obtain hret | ⟨hfin, hheld⟩ := hw
      · exact .inl ((Moves.sendIfDue s v).ret hret)
      · refine .inr ⟨?_, (congrArg Holds.any ((Moves.sendIfDue s v).frame.holds w)).trans hheld⟩
        unfold State.sendIfDue
        split
        next hdue =>
          cases hlift : (s.win v).lift with
          | nil => simpa only [State.sendBack, hlift] using hfin
          | cons id rest =>
            rw [State.sendBack_of_lift hlift]
            refine State.finishTest_keeps_topFinished ?_
            obtain ⟨top, t, htop, ht, hf⟩ := (s.topFinished_iff w).1 hfin
            have hother : top ≠ id := fun he => hv (hs.top_inj htop (by rw [State.top?, hlift, he]; rfl))
            refine (State.topFinished_iff _ w).2 ⟨top, t, ?_, ?_, hf⟩
            · rw [State.top?, State.sendRecords_win_ne _ hv, State.direct_win]
              exact htop
            · rw [State.sendRecords_tote?, if_neg hother, State.direct_tote?]
              exact ht
        next => exact hfin

section
variable (s : State)

theorem Works.releaseTote (id : ToteId) : Works s (s.releaseTote id) := by
  have hfinish : ∀ u : State, Works u (u.finishIfTop id) := fun u => by
    unfold State.finishIfTop
    split
    · exact .refl u
    split
    · exact (Works.finishTest u .w0).trans (.sendIfDue _ .w0)
    split
    · exact (Works.finishTest u .w1).trans (.sendIfDue _ .w1)
    · exact .refl u
  exact (Works.startOrphan s id).trans (hfinish _)

theorem Works.unlightFirst (w : Win) (ending : Bool) : Works s (s.unlightFirst w ending) := by
  refine .of_records (.unlightFirst s w ending) ?_ ?_ fun v => ?_ <;> unfold State.unlightFirst
  · split <;> rfl
  · split <;> rfl
  · split
    next id hid =>
      by_cases hv : v = w
      · subst hv; rw [State.win_updWin]; rfl
      · rw [State.win_updWin_ne _ hv]; rfl
    next => rfl

theorem Works.notedEnd (n : Notice) (o : TaskOutcome) (t : Task) : Works s (((s.noteOrder n).offerTaskEnd o t).dropTask t.id) := by
  obtain ⟨_, htotes, hwindows, hpositions⟩ := s.notedEnd_records n o t
  refine .of_records (((Moves.noteOrder s n).trans (.offerTaskEnd _ o t)).trans (.dropTask _ _)) hpositions htotes fun w => ?_
  rw [State.win]
  exact congrArg (fun ws : PerWin Window => (ws.get w).core) hwindows

theorem Works.endRecord (o : TaskOutcome) (lit : Option Win) (t : Task) : Works s (s.endRecord o lit t) := by
  unfold State.endRecord
  dsimp only
  split
  · exact (Works.unlightFirst s _ true).trans (.notedEnd _ _ o t)
  · exact .notedEnd s _ o t

/-- A change of one position that keeps its state or takes it from CLOSING to SWAPPING, and locks nothing. -/
theorem Works.updPos {s : State} (p : Pos) (f : Position → Position) (hcore : ∀ q, (f q).core = q.core)
    (hstate : (f (s.pos p)).state = (s.pos p).state ∨ ((s.pos p).state = .closing ∧ (f (s.pos p)).state = .swapping))
    (hlock : (s.pos p).lock = none → (f (s.pos p)).lock = none) : Works s (s.updPos p f) := by
  refine ⟨.updPos s p f hcore, fun q => ?_, fun q hq => ?_, fun _ w hw => hw.congr rfl rfl fun k => k⟩
  all_goals
    by_cases hqp : q = p
    · subst hqp; rw [State.pos_updPos]; tauto
    · rw [State.pos_updPos_ne _ hqp]; tauto

theorem Works.unlightLast (w : Win) (p : Option Pos) (t : Task) (c : UnlitCause) : Works s (s.unlightLast w p t c) := by
  have hrelease : Works s (s.releaseLock p) := by
    cases p with
    | none => exact .refl s
    | some p => exact .updPos p (fun q => { q with lock := none }) (fun _ => rfl) (.inl rfl) fun _ => rfl
  exact hrelease.trans (.of_records (.noteBench _ _) rfl rfl fun _ => rfl)

end

theorem Works.swapIfReady {swap : Pos → State → State} (hs : ∀ p s, s.swapReady (some p) = true → Works s (swap p s)) (p : Option Pos)
    (s : State) : Works s (s.swapIfReady swap p) := by
  unfold State.swapIfReady
  split
  · split
    next h => exact hs _ s h
    next => exact .refl s
  · exact .refl s

theorem Works.endWith {swap : Pos → State → State} (hs : ∀ p s, s.swapReady (some p) = true → Works s (swap p s)) (o : TaskOutcome)
    (c : UnlitCause) (lit : Option Win) (id : TaskId) (s : State) : Works s (s.endWith swap o c lit id) := by
  have hfree : ∀ (u : State) (n : Nat), Works u { u with free := n } := fun u n => .of_records (.free u n) rfl rfl fun _ => rfl
  unfold State.endWith
  split
  · exact .refl s
  next t _ =>
  split
  · exact (Works.endRecord s o none t).trans (.releaseTote _ _)
  next w =>
    refine ((Works.endRecord s o (some w) t).trans (.unlightLast _ w (s.positionOf t.orderTote) t c)).trans ?_
    unfold State.afterUnlit
    split
    · unfold State.eitherOrder
      split
      · exact (hfree _ _).trans ((Works.swapIfReady hs _ _).trans (.releaseTote _ _))
      · exact (hfree _ _).trans ((Works.releaseTote _ _).trans (.swapIfReady hs _ _))
    · exact (Works.swapIfReady hs _ _).trans (.releaseTote _ _)

/-- A swap-out of a CLOSING position: its state is SWAPPING in the end. -/
theorem Works.swapOut {s : State} {p : Pos} (h : s.swapReady (some p) = true) :
    Works s (s.swapOut p) ∧ ((s.pos p).binding.isSome = true → ((s.swapOut p).pos p).state = .swapping) := by
  have hclosing : (s.pos p).state = .closing := by
    simp only [State.swapReady, Option.any_some, Bool.and_eq_true, beq_iff_eq] at h
    exact h.1
  have hall : ∀ (ids : List TaskId) (u : State), Works u (u.endAll State.endInSwap ids) := by
    intro ids
    induction ids with
    | nil => exact .refl
    | cons id ids ih => exact fun u => (Works.endWith (fun _ s _ => .refl s) _ _ _ id u).trans (ih _)
  cases hb : (s.pos p).binding with
  | none =>
    simp only [State.swapOut, hb]
    exact ⟨.refl s, nofun⟩
  | some b =>
    rw [State.swapOut_of_binding hb]
    have hdir : Works s (s.direct (.swapOut p b.orderTote)) := by
      refine .of_records (.direct s _) ?_ ?_ fun w => by rw [State.direct_win]
      all_goals
        unfold State.direct
        split <;> rfl
    have hpos : ((s.direct (.swapOut p b.orderTote)).pos p).state = .closing := by
      unfold State.direct
      split <;> exact hclosing
    have hswap : Works (s.direct (.swapOut p b.orderTote)) ((s.direct (.swapOut p b.orderTote)).updPos p fun q => { q with
        state := .swapping, swapTimer := some s.returnMs }) :=
      .updPos p _ (fun _ => rfl) (.inr ⟨hpos, rfl⟩) fun k => k
    refine ⟨(hdir.trans hswap).trans (hall _ _), fun _ => ?_⟩
    have hend := (hall (ascendingIds (s.tasks.filter fun t => t.orderTote == b.orderTote))
      ((s.direct (.swapOut p b.orderTote)).updPos p fun q => { q with state := .swapping, swapTimer := some s.returnMs })).state p
    rw [State.pos_updPos] at hend
    exact hend.resolve_right nofun

/-- The swap-outs of the work: no CLOSING position with a binding keeps a free lock (R68). -/
theorem Works.swapAll (s : State) : Works s s.swapAll ∧ ∀ p, s.swapOwed p = true → (s.swapAll.pos p).state ≠ .closing := by
  have hat : ∀ (q : Pos) (u : State), Works u (u.swapAt q) := fun q u => by
    unfold State.swapAt
    split
    next h =>
      rw [State.swapOwed, Bool.and_eq_true] at h
      exact (Works.swapOut h.1).1
    next => exact .refl u
  have hall : ∀ (ps : List Pos) (u : State), Works u (ps.foldl State.swapAt u) := by
    intro ps
    induction ps with
    | nil => exact .refl
    | cons q ps ih => exact fun u => (hat q u).trans (ih _)
  have hkeep : ∀ {u v : State} {p : Pos}, Works u v → (u.pos p).state ≠ .closing → (v.pos p).state ≠ .closing := fun hw hne => by
    obtain h | ⟨h, _⟩ := hw.state _
    · rw [h]
      exact hne
    · exact absurd h hne
  refine ⟨hall allPos s, fun p howed => ?_⟩
  have hfold : ∀ (ps : List Pos) (u : State), p ∈ ps → (u.pos p).lock = none → (u.pos p).binding.isSome = true →
      ((ps.foldl State.swapAt u).pos p).state ≠ .closing := by
    intro ps
    induction ps with
    | nil => exact fun _ hp => absurd hp List.not_mem_nil
    | cons q ps ih =>
      intro u hp hlock hbinding
      rw [List.foldl_cons]
      obtain rfl | hmem := List.mem_cons.1 hp
      · refine hkeep (hall ps _) ?_
        unfold State.swapAt
        split
        next h =>
          rw [State.swapOwed, Bool.and_eq_true] at h
          rw [(Works.swapOut h.1).2 h.2]
          exact nofun
        next h =>
          intro hclosing
          exact h (by simp [State.swapOwed, State.swapReady, hclosing, hlock, hbinding])
      · have hw := hat q u
        refine ih (u.swapAt q) hmem (hw.lock p hlock) ?_
        rw [show ((u.swapAt q).pos p).binding = (u.pos p).binding from congrArg Prod.fst (hw.moves.frame.positions p)]
        exact hbinding
  simp only [State.swapOwed, State.swapReady, Option.any_some, Bool.and_eq_true, beq_iff_eq, Option.isNone_iff_eq_none] at howed
  unfold State.swapAll
  exact hfold allPos s (mem_allPos p) howed.1.2 howed.2

/-- The work pays what a window owes (R94). -/
theorem State.Owes.finishBoth {s : State} (hs : Ground s) {w : Win} (h : s.Owes w) : (s.finishBoth.win w).ret ≠ none := by
  have htests : Works s ((s.finishTest .w0).finishTest .w1) := (Works.finishTest s .w0).trans (.finishTest _ .w1)
  have hu := htests.moves.ground hs
  have hw := htests.owes hs w h
  unfold State.finishBoth
  generalize (s.finishTest .w0).finishTest .w1 = u at *
  have hboth : ∀ (x : State), Ground x → x.Owes w → ∀ v, (((x.sendIfDue v).sendIfDue v.other).win w).ret ≠ none := by
    intro x hx hxw v
    by_cases hv : w = v
    · subst hv
      exact (Moves.sendIfDue _ _).ret hxw.sendIfDue
    · obtain rfl : w = v.other := by cases w <;> cases v <;> trivial
      exact ((Works.sendIfDue x v).owes hx _ hxw).sendIfDue
  have hfree : Ground { u with free := u.free + 1 } := (Moves.free u _).ground hu
  unfold State.sendBoth
  split
  · unfold State.bothWays State.eitherOrder
    split
    · exact hboth _ hfree hw .w0
    · exact hboth _ hfree hw .w1
  · exact hboth u hu hw .w0

end Sys2Proof.Machine

/-! PROOFS. The work at the end of an event comes to its end, and leaves nothing due at positions and block timers (R68, R93). -/

namespace Sys2Proof.Machine

/-! ### Unlighting -/

theorem Works.unlight (s : State) (w : Win) (c : UnlitCause) : Works s (s.unlight w c) := by
  unfold State.unlight
  split
  next t _ => exact (Works.unlightFirst s w false).trans (.unlightLast _ w (s.positionOf t.orderTote) t c)
  next => exact .refl s

/-- An unlighting gives at most a lock back. -/
theorem State.unlight_pos (s : State) (w : Win) (c : UnlitCause) (q : Pos) :
    (s.unlight w c).pos q = s.pos q ∨ (s.unlight w c).pos q = { s.pos q with lock := none } := by
  unfold State.unlight
  split
  next t _ =>
    have hfirst : (s.unlightFirst w false).pos q = s.pos q := by
      unfold State.unlightFirst
      split <;> rfl
    rw [← hfirst]
    generalize s.unlightFirst w false = u
    cases s.positionOf t.orderTote with
    | none => exact .inl rfl
    | some p =>
      by_cases hq : q = p
      · subst hq; exact .inr (u.pos_updPos q fun q => { q with lock := none })
      · exact .inl (u.pos_updPos_ne hq fun q => { q with lock := none })
  next => exact .inl rfl

theorem State.unlight_blockTimer (s : State) (w : Win) (c : UnlitCause) :
    ((s.unlight w c).win w).blockTimer = (s.win w).blockTimer := by
  unfold State.unlight
  split
  next t _ =>
    have hlast : ∀ (u : State) (p : Option Pos), (u.unlightLast w p t c).win w = u.win w := fun u p => by cases p <;> rfl
    rw [hlast]
    unfold State.unlightFirst
    split
    · rw [State.win_updWin]
      rfl
    · rfl
  next => rfl

/-! ### What is still to pay -/

/-- What a window may still do at the end of an event: a SENDBACK while none is in flight, a FETCH while none is. -/
def State.debtAt (s : State) (w : Win) : Nat :=
  (if (s.win w).ret.isNone then 1 else 0) + if (s.win w).fetch.isNone then 1 else 0

/-- What positions and windows may still do: with every swap-out, SENDBACK and FETCH it falls. -/
def State.debt (s : State) : Nat :=
  (∑ p : Pos, if (s.pos p).state = .closing then 1 else 0) + (s.debtAt .w0 + s.debtAt .w1)

theorem State.debt_le_ten (s : State) : s.debt ≤ 10 := by
  have hat : ∀ w, s.debtAt w ≤ 2 := fun w => by
    unfold State.debtAt
    split <;> split <;> omega
  have hsum : (∑ p : Pos, if (s.pos p).state = .closing then 1 else 0) ≤ ∑ _p : Pos, 1 := Finset.sum_le_sum fun p _ => by
    split <;> omega
  have h0 := hat .w0
  have h1 := hat .w1
  simp only [Finset.sum_const, Finset.card_univ, Fintype.card_fin, smul_eq_mul] at hsum
  unfold State.debt
  omega

/-- From `s` to `t` no position has come to be CLOSING, and returns and fetches in flight have stayed so. -/
structure Pays (s t : State) : Prop where
  closing : ∀ p, (t.pos p).state = .closing → (s.pos p).state = .closing
  ret : ∀ w, (s.win w).ret ≠ none → (t.win w).ret ≠ none
  fetch : ∀ w, (s.win w).fetch ≠ none → (t.win w).fetch ≠ none

theorem Pays.refl (s : State) : Pays s s := ⟨fun _ h => h, fun _ h => h, fun _ h => h⟩

theorem Pays.trans {s t u : State} (h : Pays s t) (k : Pays t u) : Pays s u :=
  ⟨fun p hp => h.closing p (k.closing p hp), fun w hw => k.ret w (h.ret w hw), fun w hw => k.fetch w (h.fetch w hw)⟩

section
variable {s t : State} (h : Pays s t)
include h

theorem Pays.debtAt_le (w : Win) : t.debtAt w ≤ s.debtAt w := by
  have hret := h.ret w
  have hfetch := h.fetch w
  unfold State.debtAt
  cases hr : (s.win w).ret <;> cases hf : (s.win w).fetch <;> cases hr' : (t.win w).ret <;> cases hf' : (t.win w).fetch <;> simp_all

theorem Pays.sum_le : (∑ p : Pos, if (t.pos p).state = .closing then 1 else 0) ≤
    ∑ p : Pos, if (s.pos p).state = .closing then 1 else 0 := by
  refine Finset.sum_le_sum fun p _ => ?_
  by_cases hp : (t.pos p).state = .closing
  · rw [if_pos hp, if_pos (h.closing p hp)]
  · rw [if_neg hp]
    exact Nat.zero_le _

theorem Pays.debt_le : t.debt ≤ s.debt := Nat.add_le_add h.sum_le (Nat.add_le_add (h.debtAt_le .w0) (h.debtAt_le .w1))

theorem Pays.debt_lt_of_win {w : Win} (hw : t.debtAt w < s.debtAt w) : t.debt < s.debt := by
  refine Nat.add_lt_add_of_le_of_lt h.sum_le ?_
  cases w with
  | w0 => exact Nat.add_lt_add_of_lt_of_le hw (h.debtAt_le .w1)
  | w1 => exact Nat.add_lt_add_of_le_of_lt (h.debtAt_le .w0) hw

/-- A position that is CLOSING no more has paid. -/
theorem Pays.debt_lt_of_closing {p : Pos} (hs : (s.pos p).state = .closing) (ht : (t.pos p).state ≠ .closing) : t.debt < s.debt := by
  refine Nat.add_lt_add_of_lt_of_le ?_ (Nat.add_le_add (h.debtAt_le .w0) (h.debtAt_le .w1))
  refine Finset.sum_lt_sum (fun q _ => ?_) ⟨p, Finset.mem_univ p, by rw [if_neg ht, if_pos hs]; exact Nat.one_pos⟩
  by_cases hq : (t.pos q).state = .closing
  · rw [if_pos hq, if_pos (h.closing q hq)]
  · rw [if_neg hq]
    exact Nat.zero_le _

/-- A window with a SENDBACK in flight that had none has paid. -/
theorem Pays.debt_lt_of_ret {w : Win} (hs : (s.win w).ret = none) (ht : (t.win w).ret ≠ none) : t.debt < s.debt := by
  refine h.debt_lt_of_win (w := w) ?_
  have hfetch := h.fetch w
  unfold State.debtAt
  cases hf : (s.win w).fetch <;> cases hr' : (t.win w).ret <;> cases hf' : (t.win w).fetch <;> simp_all

/-- A window with a FETCH in flight that had none has paid. -/
theorem Pays.debt_lt_of_fetch {w : Win} (hs : (s.win w).fetch = none) (ht : (t.win w).fetch ≠ none) : t.debt < s.debt := by
  refine h.debt_lt_of_win (w := w) ?_
  have hret := h.ret w
  unfold State.debtAt
  cases hf : (s.win w).ret <;> cases hr' : (t.win w).fetch <;> cases hf' : (t.win w).ret <;> simp_all

end

theorem Works.pays {s t : State} (h : Works s t) : Pays s t where
  closing p hp := by
    obtain hst | ⟨hst, _⟩ := h.state p
    · exact hst ▸ hp
    · exact hst
  ret _ := h.moves.ret
  fetch _ := h.moves.fetching

/-- The positions of an unlighting fetch (R82). -/
theorem State.issueFetch_pos (s : State) (w : Win) (t : Tote) (q : Pos) :
    (s.issueFetch w t).pos q = s.pos q ∨ (s.issueFetch w t).pos q = { s.pos q with lock := none } := by
  cases hst : t.state with
  | inLane slot =>
    rw [State.issueFetch_of_inLane hst]
    have hsame : ((s.direct (.fetch t.id slot w)).fetchRecords w t.id slot).pos q = s.pos q := by
      change (s.direct (.fetch t.id slot w)).pos q = s.pos q
      unfold State.direct
      split <;> rfl
    rw [← hsame]
    exact State.unlight_pos _ w _ q
  | _ => exact .inl (by simp only [State.issueFetch, hst])

theorem State.setBlock_positions (s : State) (w : Win) : (s.setBlock w).positions = s.positions := by
  unfold State.setBlock
  split
  · split
    · rfl
    · split
      · exact (congrArg State.positions (s.markFinished_totes w) :)
      · rfl
  · rfl

theorem WorkStep.pays {s t : State} (h : WorkStep s t) : Pays s t := by
  have hm := h.moves
  have hof : (∀ p, (t.pos p).state = .closing → (s.pos p).state = .closing) → Pays s t := fun hp =>
    ⟨hp, fun _ => hm.ret, fun _ => hm.fetching⟩
  cases h with
  | free n => exact hof fun _ hp => hp
  | swap p h =>
    rw [State.swapOwed, Bool.and_eq_true] at h
    exact (Works.swapOut h.1).1.pays
  | finish w => exact (Works.finishTest s w).pays
  | send w h =>
    have hsend := (Works.sendIfDue s w).pays
    rwa [State.sendIfDue, if_pos h] at hsend
  | choose w c h =>
    refine hof fun p hp => ?_
    by_cases hq : p = c.2
    · subst hq
      rw [State.light_pos] at hp
      exact hp
    · rwa [State.light_pos_ne s w hq] at hp
  | block w =>
    refine hof fun p hp => ?_
    rw [State.pos, s.setBlock_positions] at hp
    exact hp
  | fetch w t h =>
    refine hof fun p hp => ?_
    obtain hsame | hfree := s.issueFetch_pos w t p
    · rwa [hsame] at hp
    · rwa [hfree] at hp

theorem WorkSteps.pays {s t : State} (h : WorkSteps s t) : Pays s t :=
  h.keep (P := Pays s) (fun hstep hu => hu.trans hstep.pays) (.refl s)

/-- Nothing that positions and windows must do now is left. -/
theorem State.workDue_iff (s : State) : s.workDue = true ↔ (∃ p, s.swapOwed p = true) ∨ ∃ w, s.sendBackDue w = true := by
  simp only [State.workDue, Bool.or_eq_true, List.any_eq_true, or_assoc]
  constructor
  · rintro (⟨p, _, hp⟩ | h | h)
    exacts [.inl ⟨p, hp⟩, .inr ⟨.w0, h⟩, .inr ⟨.w1, h⟩]
  · rintro (⟨p, hp⟩ | ⟨_ | _, h⟩)
    exacts [.inl ⟨p, mem_allPos p, hp⟩, .inr (.inl h), .inr (.inr h)]

/-- A round that begins with something due pays for it. -/
theorem State.workWindows_debt {s : State} (hs : Ground s) (h : s.workDue = true) : s.workWindows.debt < s.debt := by
  have hswaps := Works.swapAll s
  have hlater : WorkSteps s.swapAll s.workWindows := ((WorkSteps.finishBoth _).trans (.chooseBoth _)).trans
    ((WorkSteps.single (.block .w0)).trans (.single (.block .w1)))
  have hpays : Pays s s.workWindows := (WorkSteps.workWindows s).pays
  obtain ⟨p, hp⟩ | ⟨w, hw⟩ := (s.workDue_iff).1 h
  · refine hpays.debt_lt_of_closing (p := p) ?_ fun hclosing => hswaps.2 p hp (hlater.pays.closing p hclosing)
    simp only [State.swapOwed, State.swapReady, Option.any_some, Bool.and_eq_true, beq_iff_eq] at hp
    exact hp.1.1
  · have howes : s.Owes w := by
      simp only [State.sendBackDue, Bool.and_eq_true, Bool.not_eq_true'] at hw
      exact .inr ⟨hw.1.1, hw.1.2⟩
    have hsent := (hswaps.1.owes hs w howes).finishBoth (hswaps.1.moves.ground hs)
    refine hpays.debt_lt_of_ret (w := w) (s.sendBackDue_ret hw) ?_
    exact ((WorkSteps.chooseBoth _).trans ((WorkSteps.single (.block .w0)).trans (.single (.block .w1)))).pays.ret w hsent

theorem State.issueFetch_fetching {s : State} {w : Win} {t : Tote} {slot : Slot} (hst : t.state = .inLane slot) :
    ((s.issueFetch w t).win w).fetch ≠ none := by
  rw [State.issueFetch_of_inLane hst]
  refine (Moves.unlight _ w _).fetching ?_
  rw [State.fetchRecords_win]
  exact nofun

/-- A round's fetches pay for one at least. -/
theorem State.fetchFirst_debt {s : State} (h : (s.fetchChoice .w0).isSome = true ∨ (s.fetchChoice .w1).isSome = true) :
    s.fetchFirst.debt < s.debt := by
  have htake : ∀ (u : State) (w : Win), (u.fetchChoice w).isSome = true →
      (u.win w).fetch = none ∧ ((u.takeFetch w).win w).fetch ≠ none := fun u w hu => by
    obtain ⟨t, ht⟩ := Option.isSome_iff_exists.1 hu
    have hcand := (State.fetchChoice_candidate ht).2
    refine ⟨(State.fetchChoice_open ht).2.1, ?_⟩
    cases hst : t.state with
    | inLane slot =>
      simp only [State.takeFetch, ht]
      exact State.issueFetch_fetching hst
    | _ => simp [State.candidate, hst] at hcand
  have hdone : ∃ w, (s.win w).fetch = none ∧ (s.fetchFirst.win w).fetch ≠ none := by
    unfold State.fetchFirst
    split
    next hboth =>
      rw [Bool.and_eq_true] at hboth
      unfold State.bothWays State.eitherOrder
      split
      · have h0 := htake { s with free := s.free + 1 } .w0 hboth.1
        exact ⟨.w0, h0.1, (Moves.takeFetch _ .w1).fetching h0.2⟩
      · have h1 := htake { s with free := s.free + 1 } .w1 hboth.2
        exact ⟨.w1, h1.1, (Moves.takeFetch _ .w0).fetching h1.2⟩
    next =>
      by_cases h0 : (s.fetchChoice .w0).isSome = true
      · exact ⟨.w0, (htake s .w0 h0).1, (Moves.takeFetch _ .w1).fetching (htake s .w0 h0).2⟩
      · have hsame : s.takeFetch .w0 = s := by
          simp only [Bool.not_eq_true, Option.isSome_eq_false_iff, Option.isNone_iff_eq_none] at h0
          simp only [State.takeFetch, h0]
        rw [hsame]
        exact ⟨.w1, htake s .w1 (h.resolve_left h0)⟩
  obtain ⟨w, hnone, hsome⟩ := hdone
  exact (WorkSteps.fetchFirst s).pays.debt_lt_of_fetch hnone hsome

/-- Enough rounds leave nothing that positions and windows must do now: each round with something left has paid. -/
theorem State.settleRounds_workDue (n : Nat) {s : State} (hs : Ground s) (h : s.debt + (if s.workDue then 0 else 1) ≤ n) :
    (s.settleRounds n).workDue = false := by
  induction n generalizing s with
  | zero =>
    by_cases hdue : s.workDue = true
    · have hlt := State.workWindows_debt hs hdue
      omega
    · rw [if_neg hdue] at h
      omega
  | succ n ih =>
    have hround : s.workWindows.debt ≤ n := by
      by_cases hdue : s.workDue = true
      · have hlt := State.workWindows_debt hs hdue
        rw [if_pos hdue] at h
        omega
      · have hle := (WorkSteps.workWindows s).pays.debt_le
        rw [if_neg hdue] at h
        omega
    have hground := (Moves.workWindows s).ground hs
    unfold State.settleRounds
    dsimp only
    generalize s.workWindows = u at *
    by_cases hdue : u.workDue = true
    · have hrest : u.restless = true := by simp [State.restless, hdue]
      rw [if_pos hrest, if_pos hdue]
      exact ih hground (by rw [if_pos hdue]; exact hround)
    · by_cases hrest : u.restless = true
      · rw [if_pos hrest, if_neg hdue]
        have hlt : u.fetchFirst.debt < u.debt := State.fetchFirst_debt (by simpa [State.restless, hdue] using hrest)
        refine ih ((Moves.fetchFirst u).ground hground) ?_
        have hone : (if u.fetchFirst.workDue then 0 else 1) ≤ 1 := by split <;> omega
        omega
      · rw [if_neg hrest]
        simpa using hdue

theorem State.settle_workDue {s : State} (hs : Ground s) : s.settle.workDue = false := by
  refine State.settleRounds_workDue 16 hs ?_
  have hten := s.debt_le_ten
  have hone : (if s.workDue then 0 else 1) ≤ 1 := by split <;> omega
  omega

/-! ### The block timers (R93) -/

/-- No block timer runs beside a task lit to a position that is not CLOSING. -/
def State.Calm (s : State) (w : Win) : Prop :=
  ∀ p, (s.win w).lit ≠ none → (s.pos p).lock = some w → (s.win w).blockTimer = none ∨ (s.pos p).state = .closing

/-- A window with a task lit to a BOUND position is not blocked. -/
theorem Fits.setBlock_calm {s : State} (h : Fits .closed s) (w : Win) : (s.setBlock w).Calm w := by
  intro p _ hlock
  rw [State.pos, s.setBlock_positions] at hlock ⊢
  cases hblocked : s.blocked w with
  | false =>
    rw [State.setBlock, hblocked, if_neg Bool.false_ne_true, State.win_updWin]
    exact .inl rfl
  | true =>
    obtain ⟨t, ht⟩ := ((h.pos p).lock w hlock).resolve_left nofun
    obtain ⟨_, q, hq, _, hb⟩ := (h.win w).lit t.id ht.lit
    obtain ⟨rfl, rfl⟩ := ht.same hq
    refine .inr (((hb id).pos).resolve_left fun hbound => ?_)
    simp only [State.blocked, Bool.and_eq_true, ht.top, List.all_eq_true] at hblocked
    have hall := hblocked.2.2 t (List.mem_filter.2 ⟨State.mem_of_task? ht.task, by simp⟩)
    simp [ht.pos, hbound] at hall

theorem State.Calm.setBlock_ne {s : State} {v w : Win} (h : s.Calm w) (hne : w ≠ v) : (s.setBlock v).Calm w := by
  have hwin : (s.setBlock v).win w = s.win w := by
    unfold State.setBlock
    split
    · split
      · rfl
      · split
        · exact (congrArg (fun u : State => u.win w) (s.markFinished_totes v) :)
        · exact State.win_updWin_ne _ hne _
    · exact State.win_updWin_ne _ hne _
  intro p
  rw [hwin, State.pos, s.setBlock_positions]
  exact h p

theorem Fits.workWindows_calm {s : State} (hs : Ground s) (h : Fits .closed s) (w : Win) : s.workWindows.Calm w := by
  obtain ⟨hu, hf⟩ := (((WorkSteps.swapAll s).trans (.finishBoth _)).trans (.chooseBoth _)).fits hs h
  unfold State.workWindows
  generalize s.swapAll.finishBoth.chooseBoth = u at *
  cases w with
  | w0 => exact (hf.setBlock_calm .w0).setBlock_ne (by decide)
  | w1 => exact (hf.setBlock hu .w0).setBlock_calm .w1

theorem State.Calm.takeFetch {s : State} {v w : Win} (h : s.Calm w) : (s.takeFetch v).Calm w := by
  unfold State.takeFetch
  split
  next t _ =>
    intro p hlit hlock
    have hposs := s.issueFetch_pos v t p
    have hpos : (s.pos p).lock = some w ∧ ((s.issueFetch v t).pos p).state = (s.pos p).state := by
      obtain hp | hp := hposs
      · rw [hp] at hlock ⊢
        exact ⟨hlock, rfl⟩
      · rw [hp] at hlock
        cases hlock
    rw [hpos.2]
    cases hst : t.state with
    | inLane slot =>
      rw [State.issueFetch_of_inLane hst] at hlit ⊢
      by_cases hv : w = v
      · subst hv
        left
        rw [State.unlight_blockTimer, State.fetchRecords_win]
      · rw [State.unlight_win_ne _ _ hv, State.fetchRecords_win_ne _ hv, State.direct_win] at hlit ⊢
        exact h p hlit hpos.1
    | _ =>
      simp only [State.issueFetch, hst] at hlit ⊢
      exact h p hlit hpos.1
  next => exact h

theorem State.Calm.fetchFirst {s : State} {w : Win} (h : s.Calm w) : s.fetchFirst.Calm w := by
  have hfree : State.Calm { s with free := s.free + 1 } w := h
  unfold State.fetchFirst
  split
  · unfold State.bothWays State.eitherOrder
    split
    · exact hfree.takeFetch.takeFetch
    · exact hfree.takeFetch.takeFetch
  · exact h.takeFetch.takeFetch

theorem Fits.settleRounds_calm (n : Nat) {s : State} (hs : Ground s) (h : Fits .closed s) (w : Win) :
    (s.settleRounds (n + 1)).Calm w := by
  induction n generalizing s with
  | zero =>
    unfold State.settleRounds State.settleRounds
    dsimp only
    have hcalm := h.workWindows_calm hs w
    generalize s.workWindows = u at *
    split
    · split
      · exact hcalm
      · exact hcalm.fetchFirst
    · exact hcalm
  | succ n ih =>
    unfold State.settleRounds
    dsimp only
    have hcalm := h.workWindows_calm hs w
    obtain ⟨hu, hf⟩ := (WorkSteps.workWindows s).fits hs h
    generalize s.workWindows = u at *
    split
    · split
      · exact ih hu hf
      · obtain ⟨hv, hvf⟩ := (WorkSteps.fetchFirst u).fits hu hf
        exact ih hv hvf
    · exact hcalm

/-! ### The end of an event -/

/-- Nothing is open, and the end of the event is made good. -/
structure Settled (s : State) : Prop where
  ground : Ground s
  fits : Fits .closed s
  sharp : Sharp s

/-- The work settles what fits. -/
theorem Fits.settle {s : State} (hs : Ground s) (h : Fits .closed s) : Settled s.settle := by
  obtain ⟨hg, hf⟩ := (WorkSteps.settle s).fits hs h
  refine ⟨hg, hf, fun w p => Fits.settleRounds_calm 15 hs h w p, fun p hclosing hlock => ?_⟩
  have hdue := State.settle_workDue hs
  have hbinding := (hf.pos p).bound.2 (by rw [hclosing]; nofun)
  have howed : s.settle.swapOwed p = true := by simp [State.swapOwed, State.swapReady, hclosing, hlock, hbinding]
  rw [(s.settle.workDue_iff).2 (.inl ⟨p, howed⟩)] at hdue
  cases hdue

end Sys2Proof.Machine

/-! PROOFS. The ground under the acts of an event: places, bounds and record numbers (R2, R39) as every act keeps them. -/

namespace Sys2Proof.Machine

/-- What every act keeps of places, bounds and the numbers of task records. -/
structure Firm (s : State) : Prop where
  standing : Standing s
  tables : s.tablesWf
  ascending : (s.tasks.map fun t => t.recNo).Pairwise (· < ·)
  below : ∀ t ∈ s.tasks, t.recNo < Config.taskRecords

theorem Firm.ground {s : State} (h : Firm s) : Ground s :=
  ⟨h.standing.placed, h.standing.numbered, h.tables.2.1, h.ascending, h.below⟩

/-- The record numbers of the same tasks. -/
theorem Firm.of_tasks {s t : State} (h : Firm s) (hstanding : Standing t) (htables : t.tablesWf)
    (hnos : (t.tasks.map fun x => x.recNo) = s.tasks.map fun x => x.recNo) : Firm t := by
  refine ⟨hstanding, htables, by rw [hnos]; exact h.ascending, fun x hx => ?_⟩
  have hno : x.recNo ∈ t.tasks.map fun x => x.recNo := List.mem_map_of_mem hx
  rw [hnos] at hno
  obtain ⟨y, hy, hyx⟩ := List.mem_map.1 hno
  exact hyx ▸ h.below y hy

theorem Act.firm {s t : State} (h : Act s t) (hs : Firm s) : Firm t := by
  have hstanding := h.standing hs.standing
  have htables := h.tablesWf hs.tables
  cases h with
  | move t h =>
    have hg := (Moves.single h).ground hs.ground
    exact ⟨hstanding, htables, hg.ascending, hg.below⟩
  | other t h =>
    have htasks : t.tasks = s.tasks := congrArg Stage.tasks h
    exact hs.of_tasks hstanding htables (by rw [htasks])
  | tasks f hid hf =>
    refine hs.of_tasks hstanding htables ?_
    rw [List.map_map]
    exact List.map_congr_left fun t _ => (hid t).2
  | post t hroom hnew hbounds hno =>
    obtain ⟨hfree, hle⟩ := lowestFree_spec (s.tasks.map fun t => t.recNo)
    refine ⟨hstanding, htables, insertByNo_pairwise Task.recNo t s.tasks (by rw [hno]; exact hfree) hs.ascending, fun x hx => ?_⟩
    obtain rfl | hmem := List.mem_cons.1 ((insertByNo_perm Task.recNo t s.tasks).mem_iff.1 hx)
    · rw [List.length_map] at hle
      omega
    · exact hs.below x hmem
  | restart => exact ⟨hstanding, htables, List.Pairwise.nil, nofun⟩
  | _ => exact hs.of_tasks hstanding htables rfl

theorem Acts.firm {s t : State} (h : Acts s t) (hs : Firm s) : Firm t := h.keep Act.firm hs

theorem Acts.ground {s t : State} (h : Acts s t) (hs : Firm s) : Ground t := (h.firm hs).ground

theorem Moves.firm {s t : State} (h : Moves s t) (hs : Firm s) : Firm t := h.acts.firm hs

end Sys2Proof.Machine

/-! PROOFS. What is lit where under the expiry of a tote (R30, R31, R50, R99). -/

namespace Sys2Proof.Machine

section
variable {g : Gap} {s : State}

/-! ### Tasks that end -/

/-- What is open of a tote is closed once its tasks, if any, rightly are WAITING. -/
theorem Fits.narrow (h : Fits g s) {T : ToteId → Prop} (hT : ∀ x ∈ s.tasks, g.tote x.tote →
    T x.tote ∨ (x.state = .waiting ∧ taskStateAt (s.place x.tote) = .waiting)) : Fits { g with tote := T } s := by
  refine ⟨fun l x hx => ?_, fun id x hx => (h.tote id x hx).congr rfl fun k => k, fun w => ⟨(h.win w).dark, fun l hl => ?_⟩,
    fun p => (h.pos p).same (fun _ => rfl) (Keeps.of_eq rfl rfl) rfl⟩
  · have hxf := h.task l x hx
    have hmem := State.mem_of_task? hx
    refine ⟨hxf.lit, fun hl => ?_, hxf.await, fun y hy he => ?_⟩
    · obtain hst | ⟨hg, hst⟩ := hxf.unlit hl
      · exact .inl hst
      · exact (hT x hmem hg).elim (fun k => .inr ⟨k, hst⟩) fun k => .inl (hst.trans k.2.symm)
    · obtain hst | hg := hxf.expired y hy he
      · exact .inl hst
      · exact (hT x hmem hg).elim .inr fun k => .inl k.1
  · obtain ⟨x, p, hx, hp, hb⟩ := (h.win w).lit l hl
    refine ⟨x, p, hx, hp, fun hd => ⟨(hb hd).fetch, (hb hd).held, (hb hd).top.imp id fun hg => ?_, (hb hd).pos⟩⟩
    refine (hT x (State.mem_of_task? hx.task) hg).resolve_right fun hwait => ?_
    cases (h.state_of_shines hx).symm.trans hwait.1

/-- Moves post no task. -/
theorem Moves.task?_none {t : State} (h : Moves s t) {id : TaskId} (hid : s.task? id = none) : t.task? id = none := by
  have hsub := h.frame.tasks.map fun c => c.2.1
  simp only [List.map_map] at hsub
  refine List.find?_eq_none.2 fun x hx => ?_
  obtain ⟨y, hy, hyx⟩ := List.mem_map.1 (hsub.subset (List.mem_map.2 ⟨x, hx, rfl⟩))
  have hne := List.find?_eq_none.1 hid y hy
  rwa [show x.id = y.id from hyx.symm]

/-- A task that ends is live no more (R54, step 5). -/
theorem State.endWith_task? {swap : Pos → State → State} (hmoves : ∀ p s, Moves s (swap p s)) (o : TaskOutcome) (c : UnlitCause)
    (lit : Option Win) (id : TaskId) (s : State) : (s.endWith swap o c lit id).task? id = none := by
  unfold State.endWith
  split
  next hnone => exact hnone
  next t ht =>
    have hid := State.id_of_task? ht
    subst hid
    split
    · exact (Moves.releaseTote _ _).task?_none (s.endRecord_task? o none t)
    · exact ((Moves.unlightLast _ _ _ _ _).trans (.afterUnlit hmoves _ _ _ _)).task?_none (s.endRecord_task? o _ t)

/-- Tasks that end one by one are live no more. -/
theorem State.endAll_task? {f : TaskId → State → State} (hmoves : ∀ id s, Moves s (f id s))
    (hf : ∀ (id : TaskId) (s : State), (f id s).task? id = none) {ids : List TaskId} {id : TaskId} (hid : id ∈ ids) (s : State) :
    (s.endAll f ids).task? id = none := by
  unfold State.endAll
  induction ids generalizing s with
  | nil => cases hid
  | cons i ids ih =>
    obtain rfl | hmem := List.mem_cons.1 hid
    · exact (Moves.endAll hmoves ids (f id s)).task?_none (hf id s)
    · exact ih hmem _

/-- The end of a task that is lit nowhere, a lock still to be given back or not. -/
theorem Fits.endWith_unlit (hs : Ground s) (h : Fits g s) (swap : Pos → State → State) (o : TaskOutcome) (c : UnlitCause)
    {id : TaskId} (hl : ¬ s.Lit id) : Fits g (s.endWith swap o c none id) := by
  unfold State.endWith
  split
  · exact h
  next t ht =>
    have hid := State.id_of_task? ht
    subst hid
    exact Fits.releaseTote ((Moves.endRecord s o none t).ground hs) t.tote (h.endRecord_unlit hs o ht hl)

/-- Its tote keeps a live task: the other tasks are untouched. -/
theorem State.endWith_unlit_task? {swap : Pos → State → State} {o : TaskOutcome} {c : UnlitCause} {l id : TaskId} {y : Task}
    (hy : s.task? l = some y) (hne : l ≠ id) (htote : ∀ x, s.task? id = some x → x.tote = y.tote) :
    (s.endWith swap o c none id).task? l = some y := by
  unfold State.endWith
  split
  · exact hy
  next t ht =>
    have hid := State.id_of_task? ht
    subst hid
    have hkept : (s.endRecord o none t).task? l = some y := by
      obtain ⟨htasks, _⟩ := s.notedEnd_records (.taskEnded o (t.beforeEnd none) (s.positionOf t.orderTote)) o t
      unfold State.endRecord
      dsimp only
      rw [State.task?_dropTask, if_neg hne, State.task?, htasks]
      exact hy
    dsimp only
    rw [State.releaseTote_of_named]
    · exact hkept
    · rw [htote t ht]
      exact State.named_of_task? hkept

/-! ### The task that was lit -/

/-- The course of the ends at an expiry of tote `id`, until the task `l` that was lit at window `w` to position `p` has ended:
it is unlit, and its lock is still to be given back (R99, R126). -/
structure Going (g : Gap) (id : ToteId) (w : Win) (l : TaskId) (p : Pos) (ids : List TaskId) (u : State) : Prop where
  fits : Fits { g with lock := some p } u
  dark : (u.win w).lit = none
  unlit : ∀ i ∈ ids, ¬ u.Lit i
  tote : ∀ i ∈ ids, ∀ x, u.task? i = some x → x.tote = id
  task : ∃ y, u.task? l = some y ∧ u.positionOf y.orderTote = some p

theorem Ends.not_lit {t : State} (h : Ends s t) {l : TaskId} (hl : ¬ s.Lit l) : ¬ t.Lit l := by
  rw [← State.litAt_isSome_iff] at hl ⊢
  rw [h.litAt_none (by simpa using hl)]
  nofun

theorem State.litAt_none_of_not_lit {l : TaskId} (h : ¬ s.Lit l) : s.litAt l = none := by
  rw [← State.litAt_isSome_iff] at h
  simpa using h

theorem Moves.endExpired (was : Option (Win × TaskId)) (id : TaskId) (s : State) : Moves s (s.endExpired was id) :=
  .endWith Moves.swapOut _ _ _ _ _

/-- Another task of the tote ends before it. -/
theorem Going.other {id : ToteId} {w : Win} {l i : TaskId} {p : Pos} {ids : List TaskId} {u : State} (hu : Ground u)
    (h : Going g id w l p (i :: ids) u) (hne : l ≠ i) (hl : l ∈ ids) : Going g id w l p ids (u.endExpired (some (w, l)) i) := by
  have hunlit : ¬ u.Lit i := h.unlit i (by simp)
  have heq : u.endExpired (some (w, l)) i = u.endWith State.swapOut (.failed .expired) .expired none i := by
    simp only [State.endExpired, if_neg hne, State.litAt_none_of_not_lit hunlit]
  have hends := Ends.endExpired (some (w, l)) i u
  obtain ⟨y, hy, hp⟩ := h.task
  have hyid : y.tote = id := h.tote l (by simp [hl]) y hy
  refine ⟨heq ▸ h.fits.endWith_unlit hu _ _ _ hunlit, (hends.lastEnded h.dark).1, fun k hk => hends.not_lit (h.unlit k (by simp [hk])),
    fun k hk x hx => ?_, y, ?_, ?_⟩
  · obtain ⟨z, hz, hzx⟩ := hends.tasks k x hx
    exact (congrArg Task.tote hzx).symm.trans (h.tote k (by simp [hk]) z hz)
  · rw [heq]
    exact State.endWith_unlit_task? hy hne fun x hx => (h.tote i (by simp) x hx).trans hyid.symm
  · rw [(Moves.endExpired _ _ u).positionOf]
    exact hp

/-- Its own end gives the lock back. -/
theorem Going.own {id : ToteId} {w : Win} {l : TaskId} {p : Pos} {ids : List TaskId} {u : State} (hu : Ground u)
    (h : Going g id w l p (l :: ids) u) (hg : g.lock = none) (hd : ∀ v, ¬ g.dim v) : Fits g (u.endExpired (some (w, l)) l) := by
  obtain ⟨y, hy, hp⟩ := h.task
  have hid := State.id_of_task? hy
  subst hid
  have hend := Fits.endRecord_lit hu h.fits (.failed .expired) .expired hp hy (.inr ⟨rfl, h.dark, h.unlit y.id (by simp)⟩) hd
  have hground := ((Moves.endRecord u (.failed .expired) (some w) y).trans (.unlightLast _ w (u.positionOf y.orderTote) y .expired)).ground hu
  have hgap : ({ g with lock := none } : Gap) = g := by rw [← hg]
  have hafter := Fits.afterUnlit (g := { g with lock := none }) Fits.swapOut Moves.swapOut hground hend rfl hd (.failed .expired)
    (u.positionOf y.orderTote)
  rw [hgap] at hafter
  simp only [State.endExpired, if_pos, State.endWith, hy]
  exact hafter

/-- The ends at an expiry after the unlighting of the task that was lit. -/
theorem Fits.endExpired_was {id : ToteId} {w : Win} {l : TaskId} {p : Pos} (hg : g.lock = none) (hd : ∀ v, ¬ g.dim v)
    (ids : List TaskId) {u : State} (hu : Ground u)
    (h : (l ∈ ids ∧ Going g id w l p ids u) ∨ (Fits g u ∧ u.task? l = none)) :
    Fits g (u.endAll (State.endExpired (some (w, l))) ids) := by
  unfold State.endAll
  induction ids generalizing u with
  | nil => exact (h.resolve_left fun k => by cases k.1).1
  | cons i ids ih =>
    refine ih ((Moves.endExpired (some (w, l)) i u).ground hu) ?_
    dsimp only
    obtain ⟨hl, hgoing⟩ | ⟨hf, hnone⟩ := h
    · by_cases hne : l = i
      · subst hne
        exact .inr ⟨hgoing.own hu hg hd, State.endWith_task? Moves.swapOut _ _ _ _ u⟩
      · have hmem := (List.mem_cons.1 hl).resolve_left hne
        exact .inl ⟨hmem, hgoing.other hu hne hmem⟩
    · refine .inr ⟨?_, (Moves.endExpired _ i u).task?_none hnone⟩
      by_cases hne : l = i
      · subst hne
        simpa only [State.endExpired, State.endWith, hnone] using hf
      · have heq : u.endExpired (some (w, l)) i = u.endWith State.swapOut (.failed .expired) .expired (u.litAt i) i := by
          simp only [State.endExpired, if_neg hne]
        rw [heq]
        exact hf.endWith Fits.swapOut Moves.swapOut hu hg hd _ _ _

/-! ### Failing the tasks (R50, R99) -/

theorem State.litTopAt_some {id : ToteId} {v w : Win} {l : TaskId} (h : s.litTopAt id v = some (w, l)) :
    (s.win w).lit = some l ∧ ∃ x, s.task? l = some x ∧ x.tote = id := by
  obtain ⟨x, hx, hif⟩ := Option.bind_eq_some_iff.1 h
  obtain ⟨k, hk, hkx⟩ := Option.bind_eq_some_iff.1 hx
  split at hif
  next hc =>
    obtain ⟨rfl, rfl⟩ := Prod.mk.inj (Option.some.inj hif)
    have hid := State.id_of_task? hkx
    exact ⟨by rw [hid]; exact hk, x, by rw [hid]; exact hkx, hc.1⟩
  next => cases hif

theorem State.litTop_some {id : ToteId} {w : Win} {l : TaskId} (h : s.litTop id = some (w, l)) :
    (s.win w).lit = some l ∧ ∃ x, s.task? l = some x ∧ x.tote = id := by
  rw [State.litTop_eq, Option.or_eq_some_iff] at h
  obtain h | ⟨_, h⟩ := h <;> exact State.litTopAt_some h

theorem State.mem_expiredIds {id : ToteId} {i : TaskId} : i ∈ ascendingIds ((s.tasksOf id).filter fun x => x.state != .waiting) ↔
    ∃ x ∈ s.tasks, x.tote = id ∧ x.state ≠ .waiting ∧ x.id = i := by
  simp [mem_ascendingIds, State.tasksOf, and_assoc, and_left_comm]

theorem Fits.failExpired (hs : Ground s) (h : Fits g s) (hg : g.lock = none) (hd : ∀ v, ¬ g.dim v) (t : Tote) :
    Fits g (s.failExpired t) := by
  unfold State.failExpired
  generalize hids : ascendingIds ((s.tasksOf t.id).filter fun x => x.state != .waiting) = ids
  have hmem : ∀ {i}, i ∈ ids → ∃ x ∈ s.tasks, x.tote = t.id ∧ x.state ≠ .waiting ∧ x.id = i := fun hi =>
    State.mem_expiredIds.1 (hids ▸ hi)
  cases hwas : s.litTop t.id with
  | none =>
    exact Fits.endAll (Moves.endExpired none) (fun u i hu hf => hf.endWith Fits.swapOut Moves.swapOut hu hg hd _ _ i) ids hs h
  | some r =>
    obtain ⟨w, l⟩ := r
    obtain ⟨hlit, x, hx, hxt⟩ := State.litTop_some hwas
    obtain ⟨x', p, hshines, hid⟩ := h.shines_of_lit hlit
    subst hid
    obtain rfl : x = x' := Option.some.inj (hx.symm.trans hshines.task)
    have hdim : (fun v => v ≠ w ∧ g.dim v) = g.dim := funext fun v => propext ⟨fun k => k.2, fun k => absurd k (hd v)⟩
    have hfirst := h.unlightFirst hs hshines hg true
    rw [hdim] at hfirst
    have hground := (Moves.unlightFirst s w true).ground hs
    have hends := Ends.unlightFirst s w true
    have hrec : s.unlightFirst w true = (s.updTask x.id fun t => { t with state := .active }).updWin w fun y => { y with
        lit := none, confirmTimer := none, guardTimer := none, lastEnded := if true then some x.id else y.lastEnded } :=
      State.unlightFirst_of_lit true hlit
    have hdark : ((s.unlightFirst w true).win w).lit = none := by rw [hrec, State.win_updWin]
    change Fits g ((s.unlightFirst w true).endAll _ ids)
    refine Fits.endExpired_was (id := t.id) (p := p) hg hd ids hground (.inl ⟨?_, hfirst, hdark, fun i hi => ?_, fun i hi y hy => ?_, ?_⟩)
    · refine hids ▸ State.mem_expiredIds.2 ⟨x, State.mem_of_task? hx, hxt, ?_, rfl⟩
      rw [h.state_of_shines hshines]
      nofun
    · rintro ⟨v, hv⟩
      have hvw : v ≠ w := fun he => by subst he; cases hdark.symm.trans hv
      rw [hrec, State.win_updWin_ne _ hvw] at hv
      obtain ⟨z, hz, hzt, _, rfl⟩ := hmem hi
      obtain ⟨y, q, hy, hyid⟩ := h.shines_of_lit (w := v) hv
      obtain rfl : y = z := Option.some.inj (hy.task.symm.trans (hyid ▸ hs.task?_of_mem hz))
      exact hvw (hs.top_inj hy.top (by rw [hzt, ← hxt]; exact hshines.top))
    · obtain ⟨z, hz, hzy⟩ := hends.tasks i y hy
      obtain ⟨z', hz', hzt, _, rfl⟩ := hmem hi
      obtain rfl : z = z' := Option.some.inj (hz.symm.trans (hs.task?_of_mem hz'))
      exact (congrArg Task.tote hzy).symm.trans hzt
    · refine ⟨{ x with state := .active }, ?_, ?_⟩
      · rw [hrec]
        refine (s.task?_updTask x.id x.id (fun t => { t with state := .active }) fun _ => rfl).trans ?_
        rw [if_pos rfl, hx]
        rfl
      · rw [(Moves.unlightFirst s w true).positionOf]
        exact hshines.pos

/-- The tasks of the tote that were not WAITING have ended. -/
theorem State.failExpired_task? {t : Tote} {x : Task} (hx : x ∈ s.tasks) (hxt : x.tote = t.id) (hst : x.state ≠ .waiting) :
    (s.failExpired t).task? x.id = none :=
  State.endAll_task? (Moves.endExpired _) (fun _ u => State.endWith_task? Moves.swapOut _ _ _ _ u)
    (State.mem_expiredIds.2 ⟨x, hx, hxt, hst, rfl⟩) _

end

end Sys2Proof.Machine

/-! PROOFS. What is lit where under the threshold test and the accrual pass (R26, R30, R31). -/

namespace Sys2Proof.Machine

/-- What is open of totes alone. -/
def Gap.of (T O : ToteId → Prop) : Gap := ⟨T, O, none, fun _ => False⟩

section
variable {O : ToteId → Prop} {s : State}

/-- A live task was live, its core the same. -/
theorem Moves.mem_tasks {t : State} (h : Moves s t) {x : Task} (hx : x ∈ t.tasks) : ∃ y ∈ s.tasks, y.core = x.core :=
  List.mem_map.1 (h.frame.tasks.subset (List.mem_map_of_mem hx))

theorem Task.of_core {x y : Task} (h : y.core = x.core) : y.id = x.id ∧ y.tote = x.tote := by
  simp only [Task.core, Prod.mk.injEq] at h
  obtain ⟨_, hid, htote, _⟩ := h
  exact ⟨hid, htote⟩

/-- The tasks of a tote whose place makes them WAITING are WAITING. -/
theorem Fits.waiting_of_place {g : Gap} (hs : Ground s) (h : Fits g s) {x : Task} (hx : x ∈ s.tasks)
    (hplace : taskStateAt (s.place x.tote) = .waiting) : x.state = .waiting := by
  have hxf := h.task x.id x (hs.task?_of_mem hx)
  refine (hxf.unlit (h.not_lit (hs.task?_of_mem hx) fun w _ htop => ?_)).elim (fun k => k.trans hplace) fun k => k.2
  rw [hs.place_of_top htop] at hplace
  cases hplace

/-- A task that is WAITING has its tote in a place that makes it so, but for what is open. -/
theorem Fits.place_of_waiting {g : Gap} (hs : Ground s) (h : Fits g s) {x : Task} (hx : x ∈ s.tasks) (hst : x.state = .waiting)
    (hg : ¬ g.tote x.tote) : taskStateAt (s.place x.tote) = .waiting := by
  have hxf := h.task x.id x (hs.task?_of_mem hx)
  obtain hplace | ⟨hgap, _⟩ := hxf.unlit fun hl => by cases (hxf.lit hl).symm.trans hst
  · exact hplace.symm.trans hst
  · exact absurd hgap hg

/-- A tote that has no task that ends at its expiry expires alone. -/
theorem State.failExpired_of_waiting {g : Gap} (hs : Ground s) (h : Fits g s) {t : Tote}
    (hplace : taskStateAt (s.place t.id) = .waiting) : s.failExpired t = s := by
  have hall : ∀ {x}, x ∈ s.tasks → x.tote = t.id → x.state = .waiting := fun hx hxt =>
    h.waiting_of_place hs hx (by rw [hxt]; exact hplace)
  have hids : ascendingIds ((s.tasksOf t.id).filter fun x => x.state != .waiting) = [] := by
    refine List.eq_nil_iff_forall_not_mem.2 fun i hi => ?_
    obtain ⟨x, hx, hxt, hst, _⟩ := State.mem_expiredIds.1 hi
    exact hst (hall hx hxt)
  have hwas : s.litTop t.id = none := by
    cases hwas : s.litTop t.id with
    | none => rfl
    | some r =>
      obtain ⟨hlit, x, hx, hxt⟩ := State.litTop_some (w := r.1) (l := r.2) hwas
      cases ((h.task _ x hx).lit ⟨r.1, State.id_of_task? hx ▸ hlit⟩).symm.trans (hall (State.mem_of_task? hx) hxt)
  rw [State.failExpired, hwas, hids]
  rfl

theorem Fits.leaveExpired (hs : Ground s) (h : Fits (Gap.of (fun _ => False) O) s) {t : Tote} (hn : s.named t.id = false) :
    Fits (Gap.of (fun _ => False) O) (s.leaveExpired t) := by
  unfold State.leaveExpired
  split
  · exact h.laneSendBack hn
  · split
    next htop => exact h.finishAndSend hs _ (h.dark_of_unnamed hn htop)
    next => exact h
  · exact h

/-- What the owners do at the expiry of a tote closes what its EXPIRED mark opens (R50, R99). -/
theorem Fits.ownersExpire (hs : Ground s) {t : Tote} (h : Fits (Gap.of (fun x => x = t.id) O) s) (ht : s.place t.id = some t.state)
    (hwait : ∀ x ∈ s.tasks, x.tote = t.id → x.state = .waiting → taskStateAt (some t.state) = .waiting) :
    Fits (Gap.of (fun _ => False) O) (s.ownersExpire t) := by
  rw [State.ownersExpire_eq]
  by_cases hplace : taskStateAt (some t.state) = .waiting
  · have hplace' : taskStateAt (s.place t.id) = .waiting := by rw [ht]; exact hplace
    rw [State.failExpired_of_waiting hs h hplace']
    have hclosed : Fits (Gap.of (fun _ => False) O) s := h.narrow fun x hx hxt => .inr
      ⟨h.waiting_of_place hs hx (by rw [show x.tote = t.id from hxt]; exact hplace'), by rw [show x.tote = t.id from hxt]; exact hplace'⟩
    have hleave : s.leaveExpired t = s := by
      unfold State.leaveExpired
      cases hst : t.state with
      | inLane l => rw [hst] at hplace; cases hplace
      | onLift w => rw [hst] at hplace; cases hplace
      | _ => rfl
    rw [hleave]
    exact hclosed
  · have hmoves := Moves.failExpired s t
    have hu := hmoves.ground hs
    have hf := h.failExpired hs rfl (fun _ k => k) t
    have hnamed : (s.failExpired t).named t.id = false := by
      rw [← Bool.not_eq_true, State.named_iff]
      rintro ⟨x, hx, hxt⟩
      obtain ⟨y, hy, hyx⟩ := hmoves.mem_tasks hx
      obtain ⟨hid, htote⟩ := Task.of_core hyx
      have hnone := State.failExpired_task? hy (htote.trans hxt) fun hst => hplace (hwait y hy (htote.trans hxt) hst)
      rw [hid, hu.task?_of_mem hx] at hnone
      cases hnone
    refine Fits.leaveExpired hu (hf.narrow fun x hx hxt => ?_) hnamed
    have hyes : (s.failExpired t).named t.id = true := State.named_iff.2 ⟨x, hx, hxt⟩
    rw [hnamed] at hyes
    cases hyes

/-! ### The flags (R30, R31) -/

theorem Fits.noteBoth {g : Gap} (h : Fits g s) (n : Notice) : Fits g (s.noteBoth n) := h.congr rfl rfl rfl rfl

theorem Fits.warn {g : Gap} (h : Fits g s) (t : Tote) (limit : Nat) : Fits g (s.warn t limit) := by
  refine Fits.offer (Fits.noteBoth ?_ _) _
  exact h.updTote t.id (fun x => { x with urgent := true }) (fun _ => ⟨rfl, rfl, rfl, rfl⟩) fun x _ hx =>
    ⟨hx.orphan, hx.alone, hx.leaving⟩

theorem Fits.expire (hs : Firm s) {t : Tote} (h : Fits (Gap.of (fun _ => False) O) s) (ht : s.place t.id = some t.state)
    (limit : Nat) : Fits (Gap.of (fun _ => False) O) (s.expire t limit) := by
  have hmark : Fits (Gap.of (fun x => x = t.id) O) (s.updTote t.id fun x => { x with expired := true }) := by
    refine h.mapTotes (T := fun x => x = t.id) (O := O) (fun x => if x.id = t.id then { x with expired := true } else x)
      (fun x => ?_) (fun x _ he => ?_) (fun _ _ _ x _ _ he => .inl ?_) (fun x _ hxf => ?_) fun _ k => k.elim
    · split <;> exact ⟨rfl, rfl⟩
    · split at he
      next hid => exact .inr hid
      next => exact .inl he
    · split at he <;> exact he
    · split
      · exact ⟨hxf.orphan, hxf.alone, hxf.leaving⟩
      · exact hxf.congr rfl fun k => k
  have hplace : (s.updTote t.id fun x => { x with expired := true }).place t.id = some t.state :=
    (s.place_mapTotes (fun x => if x.id = t.id then { x with expired := true } else x) (fun x => by
      split <;> exact ⟨rfl, rfl⟩) t.id).trans ht
  have hmarked := (Acts.updTote s t.id (fun x => { x with expired := true }) fun _ => ⟨rfl, rfl, rfl⟩).firm hs
  have hwait : ∀ x ∈ s.tasks, x.tote = t.id → x.state = .waiting → taskStateAt (some t.state) = .waiting := fun x hx hxt hst => by
    have hp := h.place_of_waiting hs.ground hx hst fun k => k
    rwa [hxt, ht] at hp
  have htasks : (s.updTote t.id fun x => { x with expired := true }).tasks = s.tasks := rfl
  rw [← htasks] at hwait
  unfold State.expire
  generalize s.updTote t.id (fun x => { x with expired := true }) = u at *
  dsimp only
  have hnoted := (Moves.noteBoth u (.toteExpired (u.exposureInfo t limit))).trans (.offer _ (toteEvent .toteExpired t t.state.atWindow))
  have hcounted : ∀ c : Counters, Firm { (u.noteBoth (.toteExpired (u.exposureInfo t limit))).offer
      (toteEvent .toteExpired t t.state.atWindow) with counters := c } := fun c => (Acts.count _ c).firm (hnoted.firm hmarked)
  have hq := (u.noteBoth (.toteExpired (u.exposureInfo t limit))).offer_queues (toteEvent .toteExpired t t.state.atWindow)
  have hfits := (hmark.noteBoth (.toteExpired (u.exposureInfo t limit))).offer (toteEvent .toteExpired t t.state.atWindow)
  refine Fits.ownersExpire (hcounted _).ground (hfits.congr rfl rfl rfl rfl) ?_ ?_
  · rw [hq]
    exact hplace
  · rw [hq]
    exact hwait

theorem State.place_of_tote? {id : ToteId} {t : Tote} (ht : s.tote? id = some t) : s.place t.id = some t.state := by
  rw [State.place, (State.mem_of_tote? ht).2, ht]
  rfl

theorem Fits.thresholdTest (hs : Firm s) (h : Fits (Gap.of (fun _ => False) O) s) (id : ToteId) :
    Fits (Gap.of (fun _ => False) O) (s.thresholdTest id) := by
  cases ht : s.tote? id with
  | none => simpa only [State.thresholdTest, ht] using h
  | some t =>
    cases hl : s.limit t.cls with
    | none => rwa [State.thresholdTest_of_none ht hl]
    | some limit =>
      rw [State.thresholdTest_of_limit ht hl]
      have hplace := State.place_of_tote? ht
      have hwarned : Firm (s.warn t limit) ∧ (s.warn t limit).place t.id = some t.state := by
        refine ⟨(Acts.warn s t limit).firm hs, ?_⟩
        have hq := (State.noteBoth (s.updTote t.id fun x => { x with urgent := true }) (.exposureWarn
          ((s.updTote t.id fun x => { x with urgent := true }).exposureInfo t limit))).offer_queues
            (toteEvent .toteUrgent t t.state.atWindow)
        rw [State.warn, hq]
        exact (s.place_mapTotes (fun x => if x.id = t.id then { x with urgent := true } else x) (fun x => by
          split <;> exact ⟨rfl, rfl⟩) t.id).trans hplace
      by_cases hurgent : t.urgent = false ∧ s.warnOf limit ≤ t.account
      · rw [if_pos hurgent]
        split
        · exact (h.warn t limit).expire hwarned.1 hwarned.2 limit
        · exact h.warn t limit
      · rw [if_neg hurgent]
        split
        · exact h.expire hs hplace limit
        · exact h

/-! ### The accrual pass (R26) -/

theorem Fits.chargeTote (hs : Firm s) (h : Fits (Gap.of (fun _ => False) O) s) (id : ToteId) :
    Fits (Gap.of (fun _ => False) O) (s.chargeTote id) := by
  unfold State.chargeTote
  split
  · exact h
  next t ht =>
    split
    · exact h
    next w _ =>
      refine Fits.thresholdTest ((Acts.updTote s id _ fun _ => by exact ⟨rfl, rfl, rfl⟩).firm hs) ?_ id
      exact h.updTote id (fun x => x.charge (s.rate t.cls) w) (fun _ => ⟨rfl, rfl, rfl, rfl⟩) fun x _ hx =>
        ⟨hx.orphan, hx.alone, hx.leaving⟩

theorem Fits.settleSensor {g : Gap} (h : Fits g s) (reading : Option (BitVec 16)) : Fits g (s.settleSensor reading) := by
  have hset : ∀ e : Exposure, Fits g { s with exposure := e } := fun e => h.congr rfl rfl rfl rfl
  unfold State.settleSensor
  split
  · dsimp only
    split
    · exact (hset _).noteBoth _
    · exact (hset _).noteBoth _
    · exact hset _
  · dsimp only
    split
    · exact (hset _).noteBoth _
    · exact hset _
  · dsimp only
    split
    · exact (hset _).noteBoth _
    · exact hset _

theorem Fits.accrue (hs : Firm s) (h : Fits (Gap.of (fun _ => False) O) s) (reading : Option (BitVec 16)) :
    Fits (Gap.of (fun _ => False) O) (s.accrue reading) := by
  have hpass : ∀ (ids : List ToteId) (u : State), Firm u → Fits (Gap.of (fun _ => False) O) u →
      Fits (Gap.of (fun _ => False) O) (ids.foldl State.chargeTote u) := by
    intro ids
    induction ids with
    | nil => exact fun _ _ hf => hf
    | cons id ids ih => exact fun u hu hf => ih _ ((Acts.chargeTote u id).firm hu) (hf.chargeTote hu id)
  have hread : Acts s { s with exposure := { s.exposure with readInFlight := false } } := .other rfl
  refine hpass _ _ ((hread.trans (.settleSensor _ reading)).firm hs) (Fits.settleSensor ?_ reading)
  exact h.congr rfl rfl rfl rfl

end

end Sys2Proof.Machine

/-! PROOFS. What is lit where when a tote leaves the table, arrives at a window or enters the lane (R6, R9, R10, R14, R86, R88,
R96). -/

namespace Sys2Proof.Machine

section
variable {g : Gap} {s t : State}

/-- A task rightly WAITING. -/
theorem Task.fits_of_waiting {x : Task} (hst : x.state = .waiting) (hawait : x.awaitTimer.isSome = true) (hl : ¬ s.Lit x.id)
    (hplace : taskStateAt (s.place x.tote) = .waiting) : x.Fits g s :=
  ⟨fun k => absurd k hl, fun _ => .inl (hst.trans hplace.symm), ⟨fun _ => hst, fun _ => hawait⟩, fun _ _ _ => .inl hst⟩

/-- Nothing is lit on a tote that is on no lift. -/
theorem Ground.dark_of_place (hs : Ground s) {id : ToteId} (hplace : ∀ w, s.place id ≠ some (.onLift w)) (v : Win) (x : Task) (p : Pos)
    (hx : s.Shines v x p) : x.tote ≠ id := fun hid => hplace v (hid ▸ hs.place_of_top hx.top)

/-! ### Totes that leave the table -/

/-- Tote `id` leaves the table, and its tasks are WAITING as they are or go WAITING; windows keep what they have lit. -/
structure Departs (s t : State) (id : ToteId) (f : Task → Task) : Prop where
  totes : ∀ x, t.tote? x = if x = id then none else s.tote? x
  tasks : ∀ l, t.task? l = (s.task? l).map f
  named : ∀ a, t.named a = s.named a
  positions : ∀ p, t.pos p = s.pos p
  glow : ∀ v, (t.win v).glow = (s.win v).glow
  lift : ∀ v, (t.win v).lift = (s.win v).lift
  fetch : ∀ v, (s.win v).fetch = none → (t.win v).fetch = none
  holds : ∀ v, (t.win v).holds = (s.win v).holds

theorem Departs.fits {id : ToteId} {f : Task → Task} (hd : Departs s t id f) (hs : Ground s) (h : Fits g s)
    (hplace : ∀ w, s.place id ≠ some (.onLift w)) (hoff : ∀ x, x.tote ≠ id → f x = x)
    (hf : ∀ x, s.task? x.id = some x → x.tote = id → x.Fits g s →
      (f x).id = x.id ∧ (f x).tote = id ∧ (f x).state = .waiting ∧ (f x).awaitTimer.isSome = true) : Fits g t := by
  have hr : Relocates s t id f := ⟨fun x hx => by rw [hd.totes, if_neg hx], hd.tasks, hoff, hd.named, hd.positions, hd.glow,
    fun v _ => by rw [State.top?, hd.lift]; rfl, hs.dark_of_place hplace⟩
  refine h.relocate hr (fun _ _ k => k) (fun _ k => k) rfl (fun x hx hid hxf hl => ?_) (fun x hx => ?_) fun v _ k => ⟨k, hd.fetch v, by
    rw [State.held, hd.holds]; rfl⟩
  · obtain ⟨hfid, htote, hst, haw⟩ := hf x hx hid hxf
    refine Task.fits_of_waiting hst haw (fun k => hl ?_) ?_
    · rw [hfid] at k
      exact (State.lit_congr (fun v => Window.lit_of_glow (hd.glow v)) x.id).1 k
    · rw [State.place, hd.totes, htote, if_pos rfl]
      rfl
  · rw [hd.totes, if_pos rfl] at hx
    cases hx

/-- A tote whose tasks are WAITING leaves the table. -/
theorem Departs.fits_waiting {id : ToteId} (hd : Departs s t id fun x => x) (hs : Ground s) (h : Fits g s) {q : ToteState}
    (hplace : s.place id = some q) (hq : taskStateAt (some q) = .waiting) : Fits g t := by
  refine hd.fits hs h (fun w hw => ?_) (fun _ _ => rfl) fun x hx hid hxf => ⟨rfl, hid, ?_⟩
  · obtain rfl := Option.some.inj (hplace.symm.trans hw)
    cases hq
  · have hst := h.waiting_of_place hs (State.mem_of_task? hx) (by rw [hid, hplace]; exact hq)
    exact ⟨hst, hxf.await.2 hst⟩

/-- A tote leaves the table, its tasks going WAITING. -/
theorem Departs.fits_toWaiting {id : ToteId} {ms : Ms}
    (hd : Departs s t id fun x => if x.tote = id then { x with state := .waiting, awaitTimer := some ms } else x) (hs : Ground s)
    (h : Fits g s) (hplace : ∀ w, s.place id ≠ some (.onLift w)) : Fits g t :=
  hd.fits hs h hplace (fun _ hx => if_neg hx) fun x _ hid _ => by
    rw [if_pos hid]
    exact ⟨rfl, hid, rfl, rfl⟩

/-- A tote is taken out of the lane (R10). -/
theorem Fits.takeOut (hs : Ground s) (h : Fits g s) {id : ToteId} {slot : Slot} (hplace : s.place id = some (.inLane slot)) :
    Fits g ((((s.setSlot slot none).leaveArrival id).tasksToWaiting id).dropTote id) := by
  have hd : Departs s ((((s.setSlot slot none).leaveArrival id).tasksToWaiting id).dropTote id) id fun x =>
      if x.tote = id then { x with state := .waiting, awaitTimer := some s.awaitMs } else x :=
    ⟨fun x => State.tote?_dropTote (((s.setSlot slot none).leaveArrival id).tasksToWaiting id) id x,
      fun l => ((s.setSlot slot none).leaveArrival id).task?_tasksToWaiting id l,
      fun a => ((s.setSlot slot none).leaveArrival id).tasksToWaiting_named id a, fun _ => rfl, fun _ => rfl, fun _ => rfl,
      fun _ k => k, fun _ => rfl⟩
  exact hd.fits_toWaiting hs h fun w hw => by cases hplace.symm.trans hw

/-- A tote leaves the lane for good (R14, R15). -/
theorem Fits.leaveLane (hs : Ground s) (h : Fits g s) {id : ToteId} {slot : Slot} (hplace : s.place id = some (.leavingLane slot)) :
    Fits g ((s.setSlot slot none).dropTote id) := by
  have hd : Departs s ((s.setSlot slot none).dropTote id) id fun x => x :=
    ⟨fun x => State.tote?_dropTote (s.setSlot slot none) id x, fun _ => Option.map_id'.symm, fun _ => rfl,
      fun _ => rfl, fun _ => rfl, fun _ => rfl, fun _ k => k, fun _ => rfl⟩
  exact hd.fits_waiting hs h hplace rfl

/-- A return ends (R96, R97). -/
theorem Fits.returnRecords (hs : Ground s) (h : Fits g s) (w : Win) {id : ToteId} {q : ToteState} (hplace : s.place id = some q)
    (hq : taskStateAt (some q) = .waiting) : Fits g (s.returnRecords w id) := by
  have hwin : ∀ v, (s.returnRecords w id).win v = { s.win v with ret := ((s.returnRecords w id).win v).ret } := fun v => by
    by_cases hv : v = w
    · subst hv; rw [s.returnRecords_win]
    · rw [s.returnRecords_win_ne hv]
  have hd : Departs s (s.returnRecords w id) id fun x => x :=
    ⟨fun x => State.tote?_dropTote (s.updWin w fun x => { x with ret := none }) id x, fun _ => Option.map_id'.symm, fun _ => rfl,
      fun _ => rfl, fun v => (congrArg Window.glow (hwin v) :), fun v => (congrArg Window.lift (hwin v) :),
      fun v => (congrArg Window.fetch (hwin v)).trans, fun v => (congrArg Window.holds (hwin v) :)⟩
  exact hd.fits_waiting hs h hplace hq

/-- A fetch is lost (R88). -/
theorem Fits.loseRecords (hs : Ground s) (h : Fits g s) (w : Win) {id : ToteId} (hplace : s.place id = some (.fetching w)) :
    Fits g ((s.loseRecords w id).tasksToWaiting id) := by
  have hwin : ∀ v, ((s.loseRecords w id).tasksToWaiting id).win v =
      { s.win v with fetch := if v = w then none else (s.win v).fetch } := fun v => by
    change (s.loseRecords w id).win v = _
    by_cases hv : v = w
    · subst hv; rw [s.loseRecords_win, if_pos rfl]
    · rw [s.loseRecords_win_ne hv, if_neg hv]
  have hd : Departs s ((s.loseRecords w id).tasksToWaiting id) id fun x =>
      if x.tote = id then { x with state := .waiting, awaitTimer := some s.awaitMs } else x := by
    refine ⟨fun x => State.tote?_dropTote (s.updWin w fun x => { x with fetch := none }) id x,
      fun l => (s.loseRecords w id).task?_tasksToWaiting id l, fun a => (s.loseRecords w id).tasksToWaiting_named id a, fun _ => rfl,
      fun v => (congrArg Window.glow (hwin v) :), fun v => (congrArg Window.lift (hwin v) :), fun v hv => ?_,
      fun v => (congrArg Window.holds (hwin v) :)⟩
    rw [hwin]
    dsimp only
    rw [hv, ite_self]
  exact hd.fits_toWaiting hs h fun w hw => by cases hplace.symm.trans hw

/-! ### Delivery (R86) -/

/-- Each READY task of a delivered tote going ACTIVE, found by its id (R46). -/
theorem State.task?_tasksToActive (s : State) (id : ToteId) (l : TaskId) : (s.tasksToActive id).task? l =
    (s.task? l).map fun t => if t.tote = id ∧ t.state = .ready then { t with state := .active } else t :=
  s.task?_mapTasks _ (fun t => by split <;> rfl) l

theorem State.named_mapTasks (s : State) (f : Task → Task) (hf : ∀ x, (f x).tote = x.tote) (a : ToteId) :
    State.named { s with tasks := s.tasks.map f } a = s.named a := by
  simp only [State.named, List.any_map, Function.comp_def, hf]

/-- The records of a delivery at a window with nothing lit. -/
theorem Fits.deliverRecords (hs : Ground s) (h : Fits g s) {w : Win} {id : ToteId} (hplace : s.place id = some (.fetching w))
    (hdark : (s.win w).lit = none) : Fits g ((s.deliverRecords w id).tasksToActive id) := by
  obtain ⟨old, hold, hst⟩ := State.place_eq_some.1 hplace
  have hself := s.deliverRecords_win w id
  have hother : ∀ {v}, v ≠ w → (s.deliverRecords w id).win v = s.win v := fun hv => s.deliverRecords_win_ne hv id
  have hlitNe : ∀ {v}, (s.win v).lit ≠ none → v ≠ w := fun hv he => hv (he ▸ hdark)
  have htote : ∀ x, ((s.deliverRecords w id).tasksToActive id).tote? x = if x = id then (s.tote? x).map fun t => { t with
      state := .onLift w } else s.tote? x := fun x =>
    State.tote?_updTote (s.updWin w fun x => { x with lift := id :: x.lift, fetch := none, confirms := 0, blockTimer := none }) id x
      (fun t => { t with state := .onLift w }) fun _ => rfl
  have hglow : ∀ v, (((s.deliverRecords w id).tasksToActive id).win v).glow = (s.win v).glow := fun v => by
    change ((s.deliverRecords w id).win v).glow = _
    by_cases hv : v = w
    · subst hv; rw [hself]; rfl
    · rw [hother hv]
  have hr : Relocates s ((s.deliverRecords w id).tasksToActive id) id fun t =>
      if t.tote = id ∧ t.state = .ready then { t with state := .active } else t := by
    refine ⟨fun x hx => by rw [htote, if_neg hx], fun l => (s.deliverRecords w id).task?_tasksToActive id l,
      fun x hx => if_neg fun k => hx k.1, fun a => ?_, fun _ => rfl, hglow, fun v hv => ?_, hs.dark_of_place fun v hv => by
        cases hplace.symm.trans hv⟩
    · exact (s.deliverRecords w id).named_mapTasks _ (fun x => by split <;> rfl) a
    · change (s.deliverRecords w id).top? v = _
      rw [State.top?, hother (hlitNe hv)]
      rfl
  refine h.relocate hr (fun _ _ k => k) (fun _ k => k) rfl (fun x hx hid hxf hl => ?_) (fun x hx => ?_) fun v hv k => ⟨k, ?_⟩
  · have hready : x.state = .ready ∨ (g.tote x.tote ∧ x.state = .waiting) := (hxf.unlit hl).imp (fun k => by
      rw [k, hid, hplace]; rfl) fun k => k
    have hlit : ¬ ((s.deliverRecords w id).tasksToActive id).Lit x.id := fun k => hl
      ((State.lit_congr (fun v => Window.lit_of_glow (hglow v)) x.id).1 k)
    have hexp : ∀ y, ((s.deliverRecords w id).tasksToActive id).tote? x.tote = some y → y.expired = true →
        x.state = .waiting ∨ g.tote x.tote := fun y hy he => by
      rw [htote, if_pos hid, hid, hold] at hy
      obtain rfl := Option.some.inj hy
      exact hxf.expired old (hid.symm ▸ hold) he
    obtain hst | ⟨hgap, hst⟩ := hready
    · rw [if_pos ⟨hid, hst⟩]
      refine ⟨fun k => absurd k hlit, fun _ => .inl ?_, ⟨fun k => ?_, nofun⟩, fun y hy he => .inr ?_⟩
      · change _ = taskStateAt (State.place _ x.tote)
        rw [State.place, htote, if_pos hid, hid, hold]
        rfl
      · have hwait := hxf.await.1 k
        rw [hst] at hwait
        cases hwait
      · exact (hexp y hy he).resolve_left (by rw [hst]; nofun)
    · rw [if_neg fun k => by rw [hst] at k; cases k.2]
      exact ⟨fun k => absurd k hlit, fun _ => .inr ⟨hgap, hst⟩, hxf.await, hexp⟩
  · rw [htote, if_pos rfl, hold] at hx
    obtain rfl := Option.some.inj hx
    have hof := h.tote id old hold
    have hleave := hof.leaving
    rw [hst] at hleave
    refine ⟨fun ho => ?_, nofun, hleave⟩
    have hlane := (hof.orphan ho).1
    rw [hst] at hlane
    cases hlane
  · change (_ → ((s.deliverRecords w id).win v).fetch = none) ∧ (s.deliverRecords w id).held v = _
    rw [State.held, hother (hlitNe hv)]
    exact ⟨fun k => k, rfl⟩

/-! ### A tote enters the lane (R6 to R8) -/

/-- The record of a tote that enters the lane: its tasks stay WAITING, its orphan timer does not run. -/
theorem Fits.admitTote (hs : Ground s) (h : Fits .closed s) {x : Tote} {slot : Slot} (hnew : s.tote? x.id = none)
    (hst : x.state = .inLane slot) (htimers : x.orphanTimer = none ∧ x.laneReturnTimer = none) :
    Fits (Gap.of (fun y => y = x.id) fun y => y = x.id) (s.admitTote x slot) := by
  have hplace : s.place x.id = none := by rw [State.place, hnew]; rfl
  have htote : ∀ y, (s.admitTote x slot).tote? y = if y = x.id then some x else s.tote? y := fun y =>
    State.tote?_insert (s.setSlot slot (some x.id)) hnew y
  have hr : Relocates s (s.admitTote x slot) x.id fun t => t :=
    ⟨fun y hy => by rw [htote, if_neg hy], fun l => Option.map_id'.symm, fun _ _ => rfl, fun _ => rfl, fun _ => rfl, fun _ => rfl,
      fun _ _ => rfl, hs.dark_of_place fun w hw => by cases hplace.symm.trans hw⟩
  refine h.relocate hr (fun _ _ k => k.elim) (fun _ k => k.elim) rfl (fun y hy hid hyf hl => ?_) (fun y hy => ?_)
    fun v _ hd => ⟨hd, fun k => k, rfl⟩
  · have hwait : y.state = .waiting := h.waiting_of_place hs (State.mem_of_task? hy) (by rw [hid, hplace]; rfl)
    exact ⟨fun k => absurd k hl, fun _ => .inr ⟨hid, hwait⟩, hyf.await, fun _ _ _ => .inl hwait⟩
  · rw [htote, if_pos rfl] at hy
    obtain rfl := Option.some.inj hy
    obtain ⟨horphan, hleave⟩ := htimers
    refine ⟨fun k => (by rw [horphan] at k; cases k), fun _ _ => .inr rfl, ?_⟩
    rw [hleave, hst]
    rfl

/-- A tote on no lift that is released can start its orphan timer only. -/
theorem State.releaseTote_of_away (hs : Ground s) {id : ToteId} (hplace : ∀ w, s.place id ≠ some (.onLift w)) :
    s.releaseTote id = s.startOrphan id := by
  have htop : ∀ w, (s.startOrphan id).top? w ≠ some id := fun w hw => by
    refine hplace w (hs.place_of_top ?_)
    obtain h | ⟨ms, h⟩ := s.startOrphan_cases id <;> rw [h] at hw <;> exact hw
  rw [State.releaseTote, State.finishIfTop, if_neg (htop .w0), if_neg (htop .w1), ite_self]

end

end Sys2Proof.Machine

/-! PROOFS. What is lit where at TOTEIN: the class check, the tasks going READY, the threshold test (R6 to R8). -/

namespace Sys2Proof.Machine

section
variable {g : Gap} {s : State}

/-- Where a tote stands, and whether it is EXPIRED (R2, R31). -/
def State.stand (s : State) (id : ToteId) : Option (ToteState × Bool) := (s.tote? id).map fun x => (x.state, x.expired)

theorem State.place_eq_stand (s : State) (id : ToteId) : s.place id = (s.stand id).map Prod.fst := by
  rw [State.place, State.stand, Option.map_map]
  rfl

theorem State.startOrphan_stand (s : State) (id a : ToteId) : (s.startOrphan id).stand a = s.stand a := by
  obtain h | ⟨ms, h⟩ := s.startOrphan_cases id
  · rw [h]
  · rw [h, State.stand, State.stand, State.tote?_updTote s id a (fun t => { t with orphanTimer := ms }) fun _ => rfl]
    split
    · rw [Option.map_map]
      rfl
    · rfl

/-- The end of a task whose tote is on no lift leaves the totes where they stand. -/
theorem State.endWith_unlit_stand (hs : Ground s) {swap : Pos → State → State} {o : TaskOutcome} {c : UnlitCause} {id : TaskId}
    (haway : ∀ x, s.task? id = some x → ∀ w, s.place x.tote ≠ some (.onLift w)) (a : ToteId) :
    (s.endWith swap o c none id).stand a = s.stand a := by
  unfold State.endWith
  split
  · rfl
  next t ht =>
    have htotes : (s.endRecord o none t).totes = s.totes :=
      (s.notedEnd_records (.taskEnded o (t.beforeEnd none) (s.positionOf t.orderTote)) o t).2.1
    have hstand : ∀ b, (s.endRecord o none t).stand b = s.stand b := fun b => by rw [State.stand, State.tote?, htotes]; rfl
    dsimp only
    rw [State.releaseTote_of_away ((Moves.endRecord s o none t).ground hs), State.startOrphan_stand, hstand]
    intro w hw
    rw [State.place_eq_stand, hstand, ← State.place_eq_stand] at hw
    exact haway t ht w hw

/-- The end of a task that no window has lit. -/
theorem State.endTask_of_unlit {id : TaskId} (hl : ¬ s.Lit id) (o : TaskOutcome) :
    s.endTask o id = s.endWith State.swapOut o (.ended o) none id := by
  rw [State.endTask, State.litAt_none_of_not_lit hl]

theorem Ends.endTask (o : TaskOutcome) (id : TaskId) (s : State) : Ends s (s.endTask o id) := .endWith Ends.swapOut _ _ _ _ _

/-- The ends of tasks of a lane tote leave it where it stands (R8). -/
theorem Fits.endTasks_stand (hs : Ground s) (h : Fits g s) (hg : g.lock = none) (hd : ∀ v, ¬ g.dim v) (o : TaskOutcome) {id : ToteId}
    {l : Slot} (hplace : s.place id = some (.inLane l)) {ids : List TaskId} (hids : ∀ i ∈ ids, ∀ x, s.task? i = some x → x.tote = id) :
    (s.endAll (State.endTask o) ids).stand id = s.stand id := by
  unfold State.endAll
  induction ids generalizing s with
  | nil => rfl
  | cons i ids ih =>
    have haway : ∀ x, s.task? i = some x → ∀ w, s.place x.tote ≠ some (.onLift w) := fun x hx w hw => by
      rw [hids i (by simp) x hx, hplace] at hw
      cases hw
    have hunlit : ¬ s.Lit i := by
      rintro ⟨w, hw⟩
      obtain ⟨x, p, hx, hid⟩ := h.shines_of_lit hw
      exact haway x (hid ▸ hx.task) w (hs.place_of_top hx.top)
    have hstand : (s.endTask o i).stand id = s.stand id := by
      rw [State.endTask_of_unlit hunlit]
      exact State.endWith_unlit_stand hs haway id
    have hends := Ends.endTask o i s
    refine (ih ((Moves.endTask o i s).ground hs) (h.endTask hs hg hd o i) ?_ fun k hk x hx => ?_).trans hstand
    · rw [State.place_eq_stand, hstand, ← State.place_eq_stand]
      exact hplace
    · obtain ⟨y, hy, hyx⟩ := hends.tasks k x hx
      exact (congrArg Task.tote hyx).symm.trans (hids k (by simp [hk]) y hy)

/-! ### The tasks going READY (R45) -/

theorem State.task?_tasksToReady (s : State) (id : ToteId) (l : TaskId) : (s.tasksToReady id).task? l =
    (s.task? l).map fun t => if t.tote = id ∧ t.state = .waiting then { t with state := .ready, awaitTimer := none } else t :=
  s.task?_mapTasks _ (fun t => by split <;> rfl) l

theorem Fits.tasksToReady {O : ToteId → Prop} (hs : Ground s) {id : ToteId} (h : Fits (Gap.of (fun x => x = id) O) s) {slot : Slot}
    (hstand : s.stand id = some (.inLane slot, false)) : Fits (Gap.of (fun _ => False) O) (s.tasksToReady id) := by
  have hplace : s.place id = some (.inLane slot) := by rw [State.place_eq_stand, hstand]; rfl
  have hnamed : ∀ a, (s.tasksToReady id).named a = s.named a := fun a => s.named_mapTasks _ (fun x => by split <;> rfl) a
  have hr : Relocates s (s.tasksToReady id) id fun t =>
      if t.tote = id ∧ t.state = .waiting then { t with state := .ready, awaitTimer := none } else t :=
    ⟨fun _ _ => rfl, fun l => s.task?_tasksToReady id l, fun x hx => if_neg fun k => hx k.1, hnamed, fun _ => rfl, fun _ => rfl,
      fun _ _ => rfl, hs.dark_of_place fun w hw => by cases hplace.symm.trans hw⟩
  refine h.relocate hr (fun x hx k => hx k) (fun _ k => k) rfl (fun x hx hid hxf hl => ?_) (fun x hx => ?_) fun v _ k => ⟨k, fun k => k, rfl⟩
  · have hfresh : ∀ y, s.tote? x.tote = some y → y.expired = false := fun y hy => by
      rw [hid] at hy
      rw [State.stand, hy] at hstand
      exact congrArg Prod.snd (Option.some.inj hstand)
    have hexp : ∀ z : Task, ∀ y, s.tote? x.tote = some y → y.expired = true → z.state = .waiting ∨ False := fun z y hy he => by
      rw [hfresh y hy] at he
      cases he
    by_cases hst : x.state = .waiting
    · rw [if_pos ⟨hid, hst⟩]
      refine ⟨fun k => absurd k hl, fun _ => .inl ?_, ⟨nofun, nofun⟩, hexp _⟩
      change TaskState.ready = taskStateAt (s.place x.tote)
      rw [hid, hplace]
      rfl
    · rw [if_neg fun k => hst k.2]
      exact ⟨fun k => absurd k hl, fun _ => .inl ((hxf.unlit hl).resolve_right fun k => hst k.2), hxf.await, hexp _⟩
  · have hxf := h.tote id x hx
    exact hxf.congr (hnamed _) fun k => k

/-! ### TOTEIN -/

/-- A tote that enters the lane leaves everything fitting (R6 to R8, R11). -/
theorem Fits.arrive (hs : Firm s) (h : Fits .closed s) {id : ToteId} {l : Slot} {c : TempClass} {brought : BitVec 24}
    (hnew : s.tote? id = none) (hslot : s.lane[l] = none) : Fits .closed (s.arrive (s.newTote id l c brought) l) := by
  have hin : Act s (s.admitTote (s.newTote id l c brought) l) := .enterLane (s.newTote id l c brought) l hnew hslot rfl rfl
  have hadmitted := hin.firm hs
  have hfits := h.admitTote hs.ground (x := s.newTote id l c brought) (slot := l) hnew rfl ⟨rfl, rfl⟩
  have hstand : (s.admitTote (s.newTote id l c brought) l).stand id = some (.inLane l, false) := by
    have htote := State.tote?_insert (s.setSlot l (some id)) (t := s.newTote id l c brought) hnew id
    rw [if_pos (show id = (s.newTote id l c brought).id from rfl)] at htote
    exact congrArg (Option.map fun x => (x.state, x.expired)) htote
  unfold State.arrive
  change Fits .closed (State.startOrphan (State.thresholdTest id (State.tasksToReady (State.classCheckTote _ id c) id)) id)
  generalize s.admitTote (s.newTote id l c brought) l = u at *
  have hplace : u.place id = some (.inLane l) := by rw [State.place_eq_stand, hstand]; rfl
  have hmem : ∀ i ∈ ascendingIds ((u.tasksOf id).filter fun t => t.cls != c), ∀ x, u.task? i = some x → x.tote = id :=
    fun i hi x hx => by
      obtain ⟨y, hy, hyi⟩ := mem_ascendingIds.1 hi
      simp only [State.tasksOf, List.mem_filter, beq_iff_eq] at hy
      obtain rfl : y = x := Option.some.inj ((hadmitted.ground.task?_of_mem hy.1.1).symm.trans (hyi.symm ▸ hx))
      exact hy.1.2
  have hclassed : Firm (u.classCheckTote id c) := (Moves.endTasks (.failed .cls) _ u).firm hadmitted
  have hclassfits : Fits (Gap.of (fun x => x = id) fun x => x = id) (u.classCheckTote id c) :=
    hfits.endTasks hadmitted.ground rfl (fun _ k => k) _ _
  have hclassstand : (u.classCheckTote id c).stand id = some (.inLane l, false) :=
    (hfits.endTasks_stand hadmitted.ground rfl (fun _ k => k) (.failed .cls) hplace hmem).trans hstand
  generalize u.classCheckTote id c = v at *
  have hready := hclassfits.tasksToReady hclassed.ground hclassstand
  have htested := hready.thresholdTest ((Moves.tasksToReady v id).firm hclassed) id
  exact Fits.startOrphan (O := fun _ => False) id (htested.widen (fun _ k => k) fun _ k => .inr k)

/-! ### Ends of WAITING tasks -/

/-- A WAITING task that ends changes neither windows nor positions (R48). -/
theorem State.endTask_waiting (hs : Ground s) (h : Fits .closed s) {id : TaskId} (hwait : ∀ x, s.task? id = some x → x.state = .waiting)
    (o : TaskOutcome) : (s.endTask o id).windows = s.windows ∧ (s.endTask o id).positions = s.positions := by
  cases ht : s.task? id with
  | none =>
    have hsame : s.endTask o id = s := by simp only [State.endTask, State.endWith, ht]
    rw [hsame]
    exact ⟨rfl, rfl⟩
  | some t =>
    have hst := hwait t ht
    have hid := State.id_of_task? ht
    subst hid
    have htf := h.task t.id t ht
    have hunlit : ¬ s.Lit t.id := fun k => by cases (htf.lit k).symm.trans hst
    have hplace := h.place_of_waiting hs (State.mem_of_task? ht) hst fun k => k
    obtain ⟨_, htotes, hwindows, hpositions⟩ := s.notedEnd_records (.taskEnded o (t.beforeEnd none) (s.positionOf t.orderTote)) o t
    have hsame : s.endTask o t.id = (s.endRecord o none t).startOrphan t.tote := by
      rw [State.endTask_of_unlit hunlit, State.endWith, ht]
      refine State.releaseTote_of_away ((Moves.endRecord s o none t).ground hs) fun w hw => ?_
      have hplace' : (s.endRecord o none t).place t.tote = s.place t.tote := by
        rw [State.place, State.tote?, show (s.endRecord o none t).totes = s.totes from htotes]
        rfl
      rw [hplace'] at hw
      rw [hw] at hplace
      cases hplace
    rw [hsame]
    obtain h' | ⟨ms, h'⟩ := (s.endRecord o none t).startOrphan_cases t.tote <;> rw [h'] <;> exact ⟨hwindows, hpositions⟩

end

end Sys2Proof.Machine

/-! PROOFS. What is lit where under hold sources, faults, deliveries and ends of returns (R86 to R90, R95 to R97, R138 to R141). -/

namespace Sys2Proof.Machine

section
variable {g : Gap} {s : State}

/-! ### Hold sources (R138 to R141) -/

/-- More windows may be dim, and where none is, none is open. -/
theorem Fits.dimmer (h : Fits g s) {D : Win → Prop} (hdim : ∀ v, g.dim v → D v) : Fits { g with dim := D } s := by
  refine ⟨fun l x hx => ?_, fun id x hx => (h.tote id x hx).congr rfl fun k => k, fun v => ?_,
    fun p => (h.pos p).same (fun _ => rfl) (Keeps.of_eq rfl rfl) rfl⟩
  · exact (h.task l x hx).congr Iff.rfl rfl (fun y hy he => .inl ⟨y, hy, he⟩) fun k => k
  · exact (h.win v).keep (.of_eq rfl rfl v) (fun _ => rfl) (fun _ _ hx hp => ⟨hx.lock, hp⟩) fun x p _ hd => ⟨fun k => hd (hdim v k),
      fun hb => ⟨hb.fetch, hb.held, hb.top, hb.pos⟩⟩

/-- A change of holds, fetches and faults at a set of windows: one that may no longer have its task lit is dim. -/
theorem Fits.updWins (h : Fits g s) (ws : Win → Bool) (f : Window → Window) {D : Win → Prop}
    (hf : ∀ x, (f x).glow = x.glow ∧ (f x).lift = x.lift) (hdim : ∀ v, g.dim v → D v)
    (hwin : ∀ v, ws v = true → ¬ D v → ((s.win v).fetch = none → (f (s.win v)).fetch = none) ∧
      ((s.win v).holds.any = false → (f (s.win v)).holds.any = false)) : Fits { g with dim := D } (s.updWins ws f) := by
  have hone : ∀ {g' : Gap} {u : State} (v : Win), Fits g' u → (∀ x, g'.dim x → D x) → u.win v = s.win v →
      Fits { g' with dim := D } (if ws v then u.updWin v f else u) := fun {g' u} v hu hd hv => by
    split
    next hws =>
      obtain ⟨hglow, hlift⟩ := hf (u.win v)
      simp only [Window.glow, Prod.mk.injEq] at hglow
      obtain ⟨hlit, hconfirm, hguard, _⟩ := hglow
      exact hu.updWin v f hlit hconfirm (fun k => hguard.trans k) (fun _ => by rw [hlift]) hd fun _ k => by
        rw [hv]
        exact hwin v hws k
    next => exact hu.dimmer hd
  unfold State.updWins
  dsimp only
  refine hone (g' := { g with dim := D }) .w1 (hone .w0 h hdim rfl) (fun _ k => k) ?_
  split
  · exact s.win_updWin_ne (by decide) f
  · rfl

/-- A window that is to be unlit, or need not be. -/
theorem Fits.unlightIf (hs : Ground s) {D : Win → Prop} (h : Fits { Gap.closed with dim := D } s) (c : Bool) (w : Win)
    (hc : D w → c = true) : Fits { Gap.closed with dim := fun v => v ≠ w ∧ D v } (if c then s.unlight w .hold else s) := by
  split
  · exact h.unlight hs .hold rfl
  next hno => exact h.dimmer fun v k => ⟨fun he => hno (hc (he ▸ k)), k⟩

theorem Moves.unlightIf (c : Bool) (w : Win) (u : State) : Moves u (if c then u.unlight w .hold else u) := by
  split
  · exact .unlight u w _
  · exact .refl

/-- Windows newly held are unlit (R140). -/
theorem Fits.unlightHeld (hs : Ground s) {before : State}
    (h : Fits { Gap.closed with dim := fun v => before.held v = false ∧ s.held v = true } s) :
    Fits .closed (State.unlightHeld before s s) := by
  have hnew : ∀ w, before.held w = false ∧ s.held w = true → (!before.held w && s.held w) = true := fun w k => by rw [k.1, k.2]; rfl
  have htwo : ∀ (v w : Win) (u : State), v ≠ w → Ground u →
      Fits { Gap.closed with dim := fun v => before.held v = false ∧ s.held v = true } u →
      Fits .closed (if (!before.held w && s.held w) then (if (!before.held v && s.held v) then u.unlight v .hold else u).unlight w .hold
        else (if (!before.held v && s.held v) then u.unlight v .hold else u)) := fun v w u hvw hu hf => by
    have hfirst := hf.unlightIf hu (!before.held v && s.held v) v (hnew v)
    have hsecond := hfirst.unlightIf ((Moves.unlightIf _ v u).ground hu) (!before.held w && s.held w) w fun k => hnew w k.2
    exact hsecond.dimmer fun x k => by
      obtain ⟨hxw, hxv, _⟩ := k
      cases x <;> cases v <;> cases w <;> simp_all
  unfold State.unlightHeld
  dsimp only
  split
  · have hfree : Ground { s with free := s.free + 1 } := (Moves.free s _).ground hs
    have hfreef : Fits { Gap.closed with dim := fun v => before.held v = false ∧ s.held v = true } { s with free := s.free + 1 } :=
      h.congr rfl rfl rfl rfl
    unfold State.bothWays State.eitherOrder
    split
    · exact htwo .w0 .w1 _ (by decide) hfree hfreef
    · exact htwo .w1 .w0 _ (by decide) hfree hfreef
  · exact htwo .w0 .w1 s (by decide) hs h

/-- A change of the holds at a set of windows, with the unlighting that it brings (R140). -/
theorem Fits.holdWins (h : Fits .closed s) (ws : Win → Bool) (f : Window → Window)
    (hf : ∀ x, (f x).glow = x.glow ∧ (f x).lift = x.lift ∧ (f x).fetch = x.fetch) (hfirm : Firm (s.updWins ws f)) :
    Fits .closed (State.unlightHeld s (s.updWins ws f) (s.updWins ws f)) := by
  refine Fits.unlightHeld hfirm.ground ?_
  refine h.updWins ws f (fun x => ⟨(hf x).1, (hf x).2.1⟩) (fun _ k => k.elim) fun v hws hd => ⟨fun k => (hf _).2.2.trans k, fun k => ?_⟩
  have hheld : (s.updWins ws f).held v = (f (s.win v)).holds.any := by rw [State.held, State.updWins_win, if_pos hws]
  rw [hheld] at hd
  simpa using fun hany => hd ⟨k, hany⟩

theorem Acts.updWins (s : State) (ws : Win → Bool) (f : Window → Window) (hf : ∀ x, (f x).held = x.held ∧ (f x).confirms = x.confirms) :
    Acts s (s.updWins ws f) := by
  have hone : ∀ (w : Win) (u : State), Acts u (if ws w then u.updWin w f else u) := fun w u => by
    split
    · exact .updWin u w f (hf _).1 fun k => (hf _).2.symm ▸ k
    · exact .refl
  exact (hone .w0 s).trans (hone .w1 _)

theorem Fits.changeHolds (hs : Firm s) (h : Fits .closed s) (ws : WinSet) (f : Holds → Holds) : Fits .closed (s.changeHolds ws f) := by
  rw [State.changeHolds_eq]
  exact h.holdWins _ _ (fun _ => ⟨rfl, rfl, rfl⟩)
    ((Acts.updWins s ws.has (fun x => { x with holds := f x.holds }) fun _ => ⟨rfl, rfl⟩).firm hs)

theorem Fits.dropFaults (h : Fits .closed s) (ws : WinSet) : Fits .closed (s.dropFaults ws) := by
  rw [State.dropFaults_eq]
  refine h.updWins ws.has _ (fun _ => ⟨rfl, rfl⟩) (fun _ k => k) fun v _ _ => ⟨fun k => k, fun k => ?_⟩
  simp only [Holds.any, Bool.or_eq_false_iff] at k ⊢
  exact ⟨k.1, trivial⟩

/-! ### Faults (R89, R90) -/

/-- The record of a window that takes a fault (R89). -/
def Window.faulted (c : WinFault) (x : Window) : Window := { x with holds := { x.holds with fault := true }, faultCause := some c }

theorem State.takeFault_eq (w : Win) (c : WinFault) (id : ToteId) : s.takeFault w c id =
    (State.unlightHeld s (s.updWins (fun v => v == w) (Window.faulted c)) (s.updWins (fun v => v == w) (Window.faulted c))).noteBoth
      (.windowFault w c id) := by
  have hsame : s.updWin w (Window.faulted c) = s.updWins (fun v => v == w) (Window.faulted c) := by cases w <;> rfl
  rw [← hsame]
  rfl

theorem Fits.takeFault (hs : Firm s) (h : Fits .closed s) (w : Win) (c : WinFault) (id : ToteId) :
    Fits .closed (s.takeFault w c id) := by
  rw [State.takeFault_eq]
  have hfirm := (Acts.updWins s (fun v => v == w) (Window.faulted c) fun _ => ⟨rfl, rfl⟩).firm hs
  have hheld := h.holdWins (fun v => v == w) (Window.faulted c) (fun _ => ⟨rfl, rfl, rfl⟩) hfirm
  exact hheld.noteBoth _

theorem Fits.unlight_closed (hs : Ground s) (h : Fits .closed s) (w : Win) (c : UnlitCause) : Fits .closed (s.unlight w c) :=
  (h.unlight hs c rfl).dimmer (D := Gap.closed.dim) fun _ k => k.2

theorem Fits.pulledFault (hs : Firm s) (h : Fits .closed s) (w : Win) : Fits .closed (s.pulledFault w) := by
  unfold State.pulledFault
  split
  · exact (h.unlight_closed hs.ground w .windowPulled).takeFault ((Moves.unlight s w _).firm hs) w _ _
  · exact h

/-! ### Ends of returns and fetches (R86 to R88, R95 to R97) -/

theorem Fits.endReturn (hs : Firm s) (h : Fits .closed s) (w : Win) : Fits .closed (s.endReturn w) := by
  unfold State.endReturn
  split
  · exact h.pulledFault hs w
  · exact h

/-- A window's fetch is of a tote that its record has FETCHING (R81). -/
theorem Ground.place_of_fetch (hs : Ground s) {w : Win} {f : Fetch} (hf : (s.win w).fetch = some f) :
    s.place f.tote = some (.fetching w) :=
  (hs.placed.agree f.tote (.fetching w)).1 (by rw [State.claims, hf]; rfl)

/-- A window's return is of a tote that its record has LEAVING (R94). -/
theorem Ground.place_of_ret (hs : Ground s) {w : Win} {q : Return} (hq : (s.win w).ret = some q) :
    s.place q.tote = some (.leavingWin w) :=
  (hs.placed.agree q.tote (.leavingWin w)).1 (by rw [State.claims, hq]; rfl)

/-- A window with a fetch in flight has nothing lit (R82, R116). -/
theorem Fits.dark_of_fetch (h : Fits .closed s) {w : Win} {f : Fetch} (hf : (s.win w).fetch = some f) : (s.win w).lit = none := by
  by_contra hlit
  obtain ⟨l, hl⟩ := Option.ne_none_iff_exists'.1 hlit
  obtain ⟨x, p, _, _, hb⟩ := (h.win w).lit l hl
  cases hf.symm.trans (hb fun k => k).fetch

/-- A change of what a window's fetch has seen. -/
theorem Fits.seeFetch (h : Fits .closed s) {w : Win} {f : Fetch} (hf : (s.win w).fetch = some f) (k : Window → Window)
    (hk : ∀ x, (k x).glow = x.glow ∧ (k x).lift = x.lift) : Fits .closed (s.updWin w k) := by
  obtain ⟨hglow, hlift⟩ := hk (s.win w)
  simp only [Window.glow, Prod.mk.injEq] at hglow
  obtain ⟨hlit, hconfirm, hguard, _⟩ := hglow
  exact h.updWin w k hlit hconfirm (fun k => hguard.trans k) (fun _ => by rw [hlift]) (fun _ k => k) fun hl =>
    absurd (h.dark_of_fetch hf) hl

/-- The event TOTE_PRESENTED of a tote, if its record is there (R86). -/
def State.offerPresented (w : Win) (id : ToteId) (s : State) : State :=
  match s.tote? id with
  | some t => s.offer (toteEvent .totePresented t (some w))
  | none => s

theorem State.deliver_of_fetch {w : Win} {f : Fetch} (hf : (s.win w).fetch = some f) (settled : Bool) :
    s.deliver w settled =
      let u := State.offerPresented w f.tote { (s.deliverRecords w f.tote).tasksToActive f.tote with
        counters := { s.counters with presentations := raise s.counters.presentations 1 } }
      if settled then u.takeFault w .sensor f.tote else u := by
  simp only [State.deliver, hf]
  rfl

theorem Moves.offerPresented (w : Win) (id : ToteId) (s : State) : Moves s (s.offerPresented w id) := by
  unfold State.offerPresented
  split
  · exact .offer s _
  · exact .refl

theorem Fits.offerPresented (h : Fits g s) (w : Win) (id : ToteId) : Fits g (s.offerPresented w id) := by
  unfold State.offerPresented
  split
  · exact h.offer _
  · exact h

theorem Fits.deliver (hs : Firm s) (h : Fits .closed s) (w : Win) (settled : Bool) : Fits .closed (s.deliver w settled) := by
  cases hf : (s.win w).fetch with
  | none => simpa only [State.deliver, hf] using h
  | some f =>
    rw [State.deliver_of_fetch hf]
    have hrecords := h.deliverRecords hs.ground (hs.ground.place_of_fetch hf) (h.dark_of_fetch hf)
    have hfirm := ((Act.deliver w f hf).acts.trans (Moves.tasksToActive _ f.tote).acts).firm hs
    dsimp only
    generalize (s.deliverRecords w f.tote).tasksToActive f.tote = u at *
    generalize raise s.counters.presentations 1 = n
    have hcounted := (Acts.count u { s.counters with presentations := n }).firm hfirm
    have hcountedf : Fits .closed { u with counters := { s.counters with presentations := n } } := hrecords.congr rfl rfl rfl rfl
    split
    · exact (hcountedf.offerPresented w f.tote).takeFault ((Moves.offerPresented w f.tote _).firm hcounted) w _ _
    · exact hcountedf.offerPresented w f.tote

theorem Fits.loseFetch (hs : Firm s) (h : Fits .closed s) {w : Win} {f : Fetch} (hf : (s.win w).fetch = some f) :
    Fits .closed (s.loseFetch w f) := by
  rw [State.loseFetch_eq]
  have hnoted : Firm (s.noteLost w f) := (Moves.noteLost s w f).firm hs
  have hnotedf : Fits .closed (s.noteLost w f) := by
    unfold State.noteLost
    split
    · exact h.congr rfl rfl rfl rfl
    · exact h
  have hf' : ((s.noteLost w f).win w).fetch = some f := by rw [State.noteLost_win]; exact hf
  have hlost := (Act.lose w f hf').acts.trans (Moves.tasksToWaiting _ f.tote).acts
  exact (hnotedf.loseRecords hnoted.ground w (hnoted.ground.place_of_fetch hf')).takeFault (hlost.firm hnoted) w _ _

theorem Fits.goneFromWindow (hs : Firm s) (h : Fits .closed s) {id : ToteId} {t : Tote} {w : Win} (ht : s.tote? id = some t)
    (hst : t.state = .leavingWin w) : Fits .closed (s.goneFromWindow t w) := by
  have hid := (State.mem_of_tote? ht).2
  have hplace := State.place_of_tote? ht
  rw [hst] at hplace
  have hrecords := (Act.endReturn w t.id (.inr ⟨t, hid ▸ ht, hst⟩)).firm hs
  exact ((h.returnRecords hs.ground w hplace rfl).offer _).endReturn ((Moves.offer _ _).firm hrecords) w

theorem Fits.loseReturn (hs : Firm s) (h : Fits .closed s) {w : Win} {q : Return} (hq : (s.win w).ret = some q) :
    Fits .closed (s.loseReturn w q.tote) := by
  have hrecords := (Act.endReturn w q.tote (.inl ⟨q, hq, rfl⟩)).firm hs
  have hfits := h.returnRecords hs.ground w (hs.ground.place_of_ret hq) rfl
  exact Fits.endReturn ((Moves.noteOrder _ _).firm hrecords) (hfits.congr rfl rfl rfl rfl) w

end

end Sys2Proof.Machine

/-! PROOFS. What is lit where under changes of task and position records (R64, R68, R70 to R74, R120, R122). -/

namespace Sys2Proof.Machine

section
variable {g : Gap} {s t : State}

/-! ### Records that change where it is no matter -/

/-- Tasks, totes and windows of `t` are those of `s`, but for what does not count for what is lit where. -/
structure Alike (s t : State) : Prop where
  totes : ∀ id y, t.tote? id = some y → ∃ x, s.tote? id = some x ∧ y.id = x.id ∧ y.state = x.state ∧ y.expired = x.expired ∧
    y.orphanTimer.isSome = x.orphanTimer.isSome ∧ y.laneReturnTimer.isSome = x.laneReturnTimer.isSome
  place : ∀ id, t.place id = s.place id
  finished : ∀ w, t.topFinished w = s.topFinished w
  tasks : ∀ l y, t.task? l = some y → ∃ x, s.task? l = some x ∧ y.id = x.id ∧ y.tote = x.tote ∧ y.state = x.state ∧
    y.awaitTimer.isSome = x.awaitTimer.isSome
  named : ∀ a, t.named a = s.named a
  keeps : ∀ w, Keeps s t w
  fetch : ∀ w, (s.win w).fetch = none → (t.win w).fetch = none
  held : ∀ w, t.held w = s.held w

/-- The same tasks, totes and windows. -/
theorem Alike.of_eq (htasks : t.tasks = s.tasks) (htotes : t.totes = s.totes) (hwindows : t.windows = s.windows) : Alike s t := by
  have hwin : ∀ w, t.win w = s.win w := fun w => by rw [State.win, hwindows]; rfl
  have htote : ∀ id, t.tote? id = s.tote? id := fun id => by rw [State.tote?, htotes]; rfl
  refine ⟨fun id y hy => ⟨y, htote id ▸ hy, rfl, rfl, rfl, rfl, rfl⟩, fun id => by rw [State.place, htote]; rfl,
    fun w => State.topFinished_congr (by rw [hwin]) htotes, fun l y hy => ⟨y, ?_, rfl, rfl, rfl, rfl⟩,
    fun a => by rw [State.named, htasks]; rfl, Keeps.of_eq hwindows htasks, fun w => by rw [hwin]; exact fun k => k,
    fun w => by rw [State.held, hwin]; rfl⟩
  rw [State.task?, htasks] at hy
  exact hy

/-- What the state of a position says of its binding, its swap timer and its state before pull (R60, R61). -/
def Position.Sound (q : Position) : Prop := (q.binding.isSome = true ↔ q.state ≠ .empty) ∧
  (q.swapTimer.isSome = true ↔ q.state = .swapping) ∧ (q.beforePull.isSome = true ↔ q.state = .pulled)

theorem State.PosFits.sound {p : Pos} (h : s.PosFits g p) : (s.pos p).Sound := ⟨h.bound, h.swap, h.pull⟩

/-- Alike records under the same bindings and locks fit alike; a window whose position may no longer be BOUND or CLOSING is dim. -/
theorem Fits.alike (h : Fits g s) (ha : Alike s t) {D : Win → Prop} (hbinding : ∀ p, (t.pos p).binding = (s.pos p).binding)
    (hlock : ∀ p, (t.pos p).lock = (s.pos p).lock) (hsound : ∀ p, (s.pos p).Sound → (t.pos p).Sound) (hdim : ∀ v, g.dim v → D v)
    (hbright : ∀ p w, (s.pos p).lock = some w → (s.pos p).state = .bound ∨ (s.pos p).state = .closing → ¬ D w →
      (t.pos p).state = .bound ∨ (t.pos p).state = .closing) : Fits { g with dim := D } t := by
  have hlit : ∀ l, t.Lit l ↔ s.Lit l := State.lit_congr fun w => (ha.keeps w).lit
  refine ⟨fun l y hy => ?_, fun id y hy => ?_, fun w => ?_, fun p => ?_⟩
  · obtain ⟨x, hx, hid, htote, hst, haw⟩ := ha.tasks l y hy
    have hxf := h.task l x hx
    refine ⟨fun k => ?_, fun k => ?_, ?_, fun z hz he => ?_⟩
    · rw [hst]
      exact hxf.lit ((hlit _).1 (hid ▸ k))
    · rw [hst, htote, ha.place]
      exact hxf.unlit fun k' => k ((hlit _).2 (hid.symm ▸ k'))
    · rw [haw, hst]
      exact hxf.await
    · obtain ⟨z', hz', _, _, hexp, _⟩ := ha.totes y.tote z hz
      rw [hst, htote]
      exact hxf.expired z' (htote ▸ hz') (hexp.symm.trans he)
  · obtain ⟨x, hx, hid, hst, _, horphan, hleave⟩ := ha.totes id y hy
    have hxf := h.tote id x hx
    refine ⟨?_, ?_, ?_⟩
    · rw [horphan, hst, hid, ha.named]
      exact hxf.orphan
    · rw [horphan, hst, hid, ha.named]
      exact hxf.alone
    · rw [hleave, hst]
      exact hxf.leaving
  · refine (h.win w).keep (ha.keeps w) hbinding (fun x p hx hp => ⟨(hlock p).trans hx.lock, hp⟩) fun x p hx hd =>
      ⟨fun k => hd (hdim w k), fun hb => ⟨ha.fetch w hb.fetch, (ha.held w).trans hb.held, ?_, hbright p w hx.lock hb.pos hd⟩⟩
    rw [ha.finished]
    exact hb.top
  · have hpf := h.pos p
    obtain ⟨hb, hs, hp⟩ := hsound p hpf.sound
    refine ⟨hb, fun b k => ?_, hs, hp, fun w hw => ?_⟩
    · rw [State.positionOf_congr hbinding]
      exact hpf.names b (hbinding p ▸ k)
    · rw [hlock] at hw
      refine (hpf.lock w hw).imp_right fun ⟨x, hx⟩ => ?_
      obtain ⟨y, hy, _⟩ := hx.keep (ha.keeps w) hbinding ((hlock p).trans hw)
      exact ⟨y, hy⟩

/-! ### One position -/

/-- A change of a position's record that leaves its binding and its lock. -/
theorem Fits.updPos (h : Fits g s) (p : Pos) (f : Position → Position) {D : Win → Prop}
    (hbinding : (f (s.pos p)).binding = (s.pos p).binding) (hlock : (f (s.pos p)).lock = (s.pos p).lock)
    (hsound : (s.pos p).Sound → (f (s.pos p)).Sound) (hdim : ∀ v, g.dim v → D v)
    (hbright : ∀ w, (s.pos p).lock = some w → (s.pos p).state = .bound ∨ (s.pos p).state = .closing → ¬ D w →
      (f (s.pos p)).state = .bound ∨ (f (s.pos p)).state = .closing) : Fits { g with dim := D } (s.updPos p f) := by
  have hself := s.pos_updPos p f
  have hother : ∀ {q}, q ≠ p → (s.updPos p f).pos q = s.pos q := fun hq => s.pos_updPos_ne hq f
  refine h.alike (t := s.updPos p f) (.of_eq rfl rfl rfl) (fun q => ?_) (fun q => ?_) (fun q => ?_) hdim fun q => ?_
  all_goals
    by_cases hq : q = p
    · subst hq
      rw [hself]
      assumption
    rw [hother hq]
  · exact fun k => k
  · exact fun _ _ k _ => k

theorem Fits.closed_of_dim {D : Win → Prop} (h : Fits { Gap.closed with dim := D } s) (hD : ∀ v, ¬ D v) : Fits .closed s :=
  h.dimmer (D := Gap.closed.dim) fun v k => hD v k

/-- A position that goes CLOSING, on to SWAPPING when its lock is free (R68). -/
theorem Fits.enterClosing (hs : Ground s) (h : Fits .closed s) {p : Pos}
    (hstate : (s.pos p).state = .bound ∨ (s.pos p).state = .pulled) : Fits .closed (s.enterClosing p) := by
  have hfirst : Fits .closed (s.updPos p fun q => { q with state := .closing, beforePull := none }) := by
    refine h.updPos p _ (D := Gap.closed.dim) rfl rfl (fun ⟨hb, hsw, _⟩ => ⟨⟨fun _ => nofun, fun _ => ?_⟩, ⟨fun k => ?_, nofun⟩, nofun, nofun⟩)
      (fun _ k => k) fun _ _ _ _ => .inr rfl
    · refine hb.2 fun k => ?_
      rw [k] at hstate
      exact hstate.elim nofun nofun
    · rw [hsw.1 k] at hstate
      exact hstate.elim nofun nofun
  have hground := (Moves.updPos s p (fun q => { q with state := .closing, beforePull := none }) fun _ => rfl).ground hs
  unfold State.enterClosing
  dsimp only
  generalize s.updPos p (fun q => { q with state := .closing, beforePull := none }) = u at *
  split
  next hready =>
    simp only [State.swapReady, Option.any_some, Bool.and_eq_true, beq_iff_eq, Option.isNone_iff_eq_none] at hready
    exact Fits.swapOut .closed u p hground hfirst rfl (fun _ k => k) hready.1 hready.2
  next => exact hfirst

/-- A position whose order tote is pulled: its window is dim until its task is unlit (R74). -/
theorem Fits.pull (h : Fits .closed s) (p : Pos) (before : PrePull)
    (hstate : (s.pos p).state = .bound ∨ (s.pos p).state = .closing) :
    Fits { Gap.closed with dim := fun v => (s.pos p).lock = some v }
      (s.updPos p fun q => { q with present := false, state := .pulled, beforePull := some before }) := by
  refine h.updPos p _ rfl rfl (fun ⟨hb, hsw, _⟩ => ⟨⟨fun _ => nofun, fun _ => ?_⟩, ⟨fun k => ?_, nofun⟩, fun _ => rfl, fun _ => rfl⟩)
    (fun _ k => k.elim) fun w hw _ hd => absurd hw hd
  · refine hb.2 fun k => ?_
    rw [k] at hstate
    exact hstate.elim nofun nofun
  · rw [hsw.1 k] at hstate
    exact hstate.elim nofun nofun

/-- An unlighting of the one window that is dim. -/
theorem Fits.unlight_dim (hs : Ground s) {w : Win} {D : Win → Prop} (h : Fits { Gap.closed with dim := D } s) (hD : ∀ v, D v → v = w)
    (c : UnlitCause) : Fits .closed (s.unlight w c) :=
  (h.unlight hs c rfl).closed_of_dim fun v k => k.1 (hD v k.2)

/-! ### Bindings that come and go (R64, R71, R72) -/

/-- Only a position that is BOUND or CLOSING has a lock (R62). -/
theorem Fits.lock_none (h : Fits .closed s) {p : Pos} (hstate : ¬ ((s.pos p).state = .bound ∨ (s.pos p).state = .closing)) :
    (s.pos p).lock = none := by
  cases hl : (s.pos p).lock with
  | none => rfl
  | some w =>
    obtain ⟨x, hx⟩ := ((h.pos p).lock w hl).resolve_left nofun
    obtain ⟨y, q, hy, _, hb⟩ := (h.win w).lit x.id hx.lit
    obtain ⟨rfl, rfl⟩ := hx.same hy
    exact absurd (hb fun k => k).pos hstate

/-- A position without a lock takes or loses its binding. -/
theorem Fits.rebind (h : Fits .closed s) (p : Pos) (f : Position → Position) (hold : (s.pos p).lock = none)
    (hnew : (f (s.pos p)).lock = none) (hsound : (f (s.pos p)).Sound)
    (hkept : ∀ k q, q ≠ p → s.positionOf k = some q → (s.updPos p f).positionOf k = some q)
    (hnames : ∀ b, (f (s.pos p)).binding = some b → (s.updPos p f).positionOf b.orderTote = some p) : Fits .closed (s.updPos p f) := by
  have hself := s.pos_updPos p f
  have hother : ∀ {q}, q ≠ p → (s.updPos p f).pos q = s.pos q := fun hq => s.pos_updPos_ne hq f
  have hne : ∀ {w x q}, s.Shines w x q → q ≠ p := fun hx he => by
    subst he
    cases hold.symm.trans hx.lock
  have hshines : ∀ {w x q}, s.Shines w x q → (s.updPos p f).Shines w x q := fun hx =>
    ⟨hx.lit, hx.task, hx.top, hkept _ _ (hne hx) hx.pos, by rw [hother (hne hx)]; exact hx.lock, hx.timer⟩
  refine ⟨fun l x hx => (h.task l x hx).congr Iff.rfl rfl (fun y hy he => .inl ⟨y, hy, he⟩) fun k => k,
    fun id x hx => (h.tote id x hx).congr rfl fun k => k, fun w => ⟨(h.win w).dark, fun l hl => ?_⟩, fun q => ?_⟩
  · obtain ⟨x, q, hx, _, hb⟩ := (h.win w).lit l hl
    have hbright := hb fun k => k
    exact ⟨x, q, hshines hx, nofun, fun _ => ⟨hbright.fetch, hbright.held, hbright.top, by rw [hother (hne hx)]; exact hbright.pos⟩⟩
  · by_cases hq : q = p
    · subst hq
      obtain ⟨hb, hsw, hp⟩ := hsound
      refine ⟨by rw [hself]; exact hb, by rw [hself]; exact hnames, by rw [hself]; exact hsw, by rw [hself]; exact hp, fun w hw => ?_⟩
      rw [hself, hnew] at hw
      cases hw
    · have hqf := h.pos q
      refine ⟨by rw [hother hq]; exact hqf.bound, fun b hb => ?_, by rw [hother hq]; exact hqf.swap, by rw [hother hq]; exact hqf.pull,
        fun w hw => ?_⟩
      · rw [hother hq] at hb
        exact hkept _ q hq (hqf.names b hb)
      · rw [hother hq] at hw
        exact (hqf.lock w hw).imp id fun ⟨x, hx⟩ => ⟨x, hshines hx⟩

/-- A position keeps being the first of its order tote where others stop naming it. -/
theorem State.positionOf_of_imp {k : OrderToteId} {q : Pos} (hq : s.positionOf k = some q)
    (himp : ∀ r, ((t.pos r).binding.any fun b => b.orderTote == k) = true → ((s.pos r).binding.any fun b => b.orderTote == k) = true)
    (hkeep : ((t.pos q).binding.any fun b => b.orderTote == k) = true) : t.positionOf k = some q := by
  obtain ⟨_, as, bs, hlist, hno⟩ := List.find?_eq_some_iff_append.1 hq
  refine List.find?_eq_some_iff_append.2 ⟨hkeep, as, bs, hlist, fun a ha => ?_⟩
  have hfalse := hno a ha
  simp only [Bool.not_eq_true'] at hfalse ⊢
  rw [← Bool.not_eq_true] at hfalse ⊢
  exact fun k => hfalse (himp a k)

theorem State.positionOf_names {k : OrderToteId} {q : Pos} (hq : s.positionOf k = some q) :
    ((s.pos q).binding.any fun b => b.orderTote == k) = true := by
  have hfound := List.find?_some hq
  exact hfound

/-- A position goes EMPTY (R71, R72). -/
theorem Fits.emptyPosition (h : Fits .closed s) {p : Pos} (hstate : (s.pos p).state = .swapping) : Fits .closed (s.emptyPosition p) := by
  refine h.rebind p _ (h.lock_none (by rw [hstate]; exact fun k => k.elim nofun nofun)) rfl
    ⟨⟨nofun, fun k => absurd rfl k⟩, ⟨nofun, nofun⟩, nofun, nofun⟩ (fun k q hq hpos => ?_) nofun
  refine State.positionOf_of_imp hpos (fun r hr => ?_) ?_
  · by_cases hrp : r = p
    · subst hrp
      rw [s.pos_updPos] at hr
      cases hr
    · rwa [s.pos_updPos_ne hrp] at hr
  · rw [s.pos_updPos_ne hq]
    exact State.positionOf_names hpos

/-- An EMPTY position takes an order tote that no other has (R64). -/
theorem Fits.bindRecord (h : Fits .closed s) {p : Pos} (b : Binding) (hempty : (s.pos p).state = .empty)
    (hnew : s.positionOf b.orderTote = none) : Fits .closed (s.bindRecord p b) := by
  have hpf := h.pos p
  have hunnamed : ∀ r, ((s.pos r).binding.any fun x => x.orderTote == b.orderTote) = false := fun r => by
    have hno := List.find?_eq_none.1 hnew r (by fin_cases r <;> decide)
    simpa using hno
  have hswap : (s.pos p).swapTimer.isSome = true ↔ (s.pos p).state = .swapping := hpf.swap
  have hpull : (s.pos p).beforePull.isSome = true ↔ (s.pos p).state = .pulled := hpf.pull
  rw [hempty] at hswap hpull
  refine h.rebind p _ (h.lock_none (by rw [hempty]; exact fun k => k.elim nofun nofun)) rfl
    ⟨⟨fun _ => nofun, fun _ => rfl⟩, ⟨fun k => absurd (hswap.1 k) nofun, nofun⟩, fun k => absurd (hpull.1 k) nofun, nofun⟩
    (fun k q hq hpos => ?_) fun b' hb' => ?_
  · have hk : b.orderTote ≠ k := fun he => by
      rw [he] at hnew
      cases hnew.symm.trans hpos
    refine State.positionOf_of_imp hpos (fun r hr => ?_) ?_
    · by_cases hrp : r = p
      · subst hrp
        rw [s.pos_updPos] at hr
        exact absurd (by simpa using hr) hk
      · rwa [s.pos_updPos_ne hrp] at hr
    · rw [s.pos_updPos_ne hq]
      exact State.positionOf_names hpos
  · obtain rfl : b = b' := Option.some.inj hb'
    cases hfound : (s.updPos p fun q => { q with state := .bound, binding := some b, fill := 0, floor := 0, lock := none }).positionOf
        b.orderTote with
    | none =>
      have hno := List.find?_eq_none.1 hfound p (by fin_cases p <;> decide)
      rw [s.pos_updPos] at hno
      exact absurd (by simp) hno
    | some r =>
      by_cases hrp : r = p
      · rw [hrp]
      · have hnamed := State.positionOf_names hfound
        rw [s.pos_updPos_ne hrp, hunnamed r] at hnamed
        cases hnamed

end

end Sys2Proof.Machine

/-! PROOFS. What is lit where at POST, at confirms, at TOTEBAD and at CLEAR (R43, R64, R122, R127, R142). -/

namespace Sys2Proof.Machine

section
variable {g : Gap} {s : State}

/-! ### POST (R43) -/

/-- Finding a task is finding its record. -/
theorem Ground.task?_eq_some (hs : Ground s) {l : TaskId} {x : Task} : s.task? l = some x ↔ x ∈ s.tasks ∧ x.id = l :=
  ⟨fun h => ⟨State.mem_of_task? h, State.id_of_task? h⟩, fun ⟨hx, hid⟩ => hid ▸ hs.task?_of_mem hx⟩

theorem State.mem_post {t x : Task} : x ∈ insertByNo Task.recNo t s.tasks ↔ x = t ∨ x ∈ s.tasks := by
  rw [(insertByNo_perm Task.recNo t s.tasks).mem_iff, List.mem_cons]

/-- A new task, its tote's orphan timer stopped. -/
theorem Fits.insertTask (hs : Ground s) {t : Task} (hu : Ground { s with tasks := insertByNo Task.recNo t s.tasks })
    (h : Fits (Gap.of (fun _ => False) fun x => x = t.tote) s) (hnew : s.task? t.id = none)
    (hstate : t.state = taskStateAt (s.place t.tote)) (hawait : t.awaitTimer.isSome = true ↔ t.state = .waiting)
    (hfresh : ∀ x, s.tote? t.tote = some x → x.expired = false ∧ x.orphanTimer = none) :
    Fits .closed { s with tasks := insertByNo Task.recNo t s.tasks } := by
  generalize hv : ({ s with tasks := insertByNo Task.recNo t s.tasks } : State) = v at *
  have hmem : ∀ x, x ∈ v.tasks ↔ x = t ∨ x ∈ s.tasks := fun x => by rw [← hv]; exact State.mem_post
  have hrest : v.totes = s.totes ∧ v.windows = s.windows ∧ v.positions = s.positions := by rw [← hv]; exact ⟨rfl, rfl, rfl⟩
  obtain ⟨htotes, hwindows, hpositions⟩ := hrest
  have hwin : ∀ w, v.win w = s.win w := fun w => by rw [State.win, hwindows]; rfl
  have hpos : ∀ p, v.pos p = s.pos p := fun p => by rw [State.pos, hpositions]; rfl
  have htote : v.tote? = s.tote? := funext fun id => by rw [State.tote?, htotes]; rfl
  have hkeeps : ∀ w, Keeps s v w := fun w => .of_same (by rw [hwin]) (by rw [hwin]) (fun k => by rw [hwin]; exact k)
    (fun x _ hx => ⟨x, hu.task?_eq_some.2 ⟨(hmem x).2 (.inr (State.mem_of_task? hx)), rfl⟩, rfl, rfl, fun k => k⟩)
    fun _ => by rw [State.top?, hwin]; rfl
  have hlit : ∀ l, v.Lit l ↔ s.Lit l := State.lit_congr fun w => by rw [hwin]
  refine ⟨fun l x hx => ?_, fun id x hx => ?_, fun w => ?_, fun p => (h.pos p).same hpos hkeeps rfl⟩
  · obtain ⟨hmemx, rfl⟩ := hu.task?_eq_some.1 hx
    obtain rfl | hx := (hmem x).1 hmemx
    · have hunlit : ¬ v.Lit x.id := fun k => by
        obtain ⟨w, hw⟩ := (hlit _).1 k
        obtain ⟨y, p, hy, hid⟩ := h.shines_of_lit hw
        rw [← hid, hy.task] at hnew
        cases hnew
      refine ⟨fun k => absurd k hunlit, fun _ => .inl ?_, hawait, fun y hy he => ?_⟩
      · rw [hstate, State.place, State.place, htote]
      · rw [htote] at hy
        cases (hfresh y hy).1.symm.trans he
    · refine (h.task x.id x (hs.task?_of_mem hx)).congr (hlit _) (by rw [State.place, State.place, htote]) (fun y hy he => .inl ⟨y, ?_, he⟩)
        fun k => k
      rwa [← htote]
  · rw [htote] at hx
    have hxf := h.tote id x hx
    have hid := (State.mem_of_tote? hx).2
    by_cases hxt : x.id = t.tote
    · have hnone := (hfresh x (by rw [← hxt, hid]; exact hx)).2
      refine ⟨fun k => (by rw [hnone] at k; cases k), fun _ k => ?_, hxf.leaving⟩
      rw [State.named_iff.2 ⟨t, (hmem t).2 (.inl rfl), hxt.symm⟩] at k
      cases k
    · have hnamed : v.named x.id = s.named x.id := by
        rw [Bool.eq_iff_iff, State.named_iff, State.named_iff]
        constructor
        · rintro ⟨y, hy, hyx⟩
          obtain rfl | hy := (hmem y).1 hy
          · exact absurd hyx.symm hxt
          · exact ⟨y, hy, hyx⟩
        · rintro ⟨y, hy, hyx⟩
          exact ⟨y, (hmem y).2 (.inr hy), hyx⟩
      exact hxf.congr hnamed fun k => absurd k hxt
  · refine (h.win w).keep (hkeeps w) (fun q => by rw [hpos]) (fun x p hx hp => ⟨by rw [hpos]; exact hx.lock, hp⟩) fun x p _ hd =>
      ⟨hd, fun hb => ⟨by rw [hwin]; exact hb.fetch, by rw [State.held, hwin]; exact hb.held, ?_, by rw [hpos]; exact hb.pos⟩⟩
    rw [State.topFinished_congr (by rw [hwin]) htotes]
    exact hb.top

/-- The orphan timer of a tote stops. -/
theorem Fits.stopOrphan (h : Fits .closed s) (id : ToteId) :
    Fits (Gap.of (fun _ => False) fun x => x = id) (s.updTote id fun x => { x with orphanTimer := none }) := by
  refine h.mapTotes (T := fun _ => False) (O := fun x => x = id) (fun x => if x.id = id then { x with orphanTimer := none } else x)
    (fun x => ?_) (fun x _ he => .inl ?_) (fun _ _ _ x _ _ he => .inl ?_) (fun x _ hxf => ?_) fun _ k => k
  · split <;> exact ⟨rfl, rfl⟩
  · split at he <;> exact he
  · split at he <;> exact he
  · split
    next hid => exact ⟨nofun, fun _ _ => .inr hid, hxf.leaving⟩
    next => exact hxf.congr rfl fun k => k.elim

theorem Fits.postTask (hs : Firm s) (h : Fits .closed s) {t : Task} (hu : Ground (s.postTask t)) (hnew : s.task? t.id = none)
    (hstate : t.state = taskStateAt (s.place t.tote)) (hawait : t.awaitTimer.isSome = true ↔ t.state = .waiting)
    (hfresh : ∀ x, s.tote? t.tote = some x → x.expired = false) : Fits .closed (s.postTask t) := by
  have hstopped := h.stopOrphan t.tote
  have hground := ((Acts.updTote s t.tote (fun x => { x with orphanTimer := none }) fun _ => ⟨rfl, rfl, rfl⟩).firm hs).ground
  refine Fits.insertTask hground hu hstopped hnew (hstate.trans ?_) hawait fun x hx => ?_
  · exact congrArg taskStateAt (s.place_mapTotes (fun x => if x.id = t.tote then { x with orphanTimer := none } else x) (fun x => by
      split <;> exact ⟨rfl, rfl⟩) t.tote).symm
  · rw [s.tote?_updTote t.tote t.tote (fun x => { x with orphanTimer := none }) fun _ => rfl, if_pos rfl] at hx
    obtain ⟨y, hy, rfl⟩ := Option.map_eq_some_iff.1 hx
    exact ⟨hfresh y hy, rfl⟩

theorem State.postState_eq_place (s : State) (id : ToteId) : s.postState id = taskStateAt (s.place id) := by
  unfold State.postState State.place
  cases s.tote? id with
  | none => rfl
  | some x => cases hst : x.state <;> simp [hst, taskStateAt]

/-! ### Confirms (R122) -/

/-- A change of a task's record that leaves its totes and its state. -/
theorem Fits.updTask (h : Fits g s) (id : TaskId) (f : Task → Task) (hf : ∀ x, (f x).id = x.id ∧ (f x).tote = x.tote ∧
      (f x).orderTote = x.orderTote ∧ (f x).state = x.state ∧ (f x).awaitTimer = x.awaitTimer ∧
      (x.overdue = true → (f x).overdue = true)) : Fits g (s.updTask id f) := by
  have htask : ∀ l, (s.updTask id f).task? l = if l = id then (s.task? l).map f else s.task? l := fun l =>
    s.task?_updTask id l f fun x => (hf x).1
  have hone : ∀ l x, s.task? l = some x → ∃ y, (s.updTask id f).task? l = some y ∧ (y = f x ∨ y = x) := fun l x hx => by
    rw [htask, hx]
    split
    · exact ⟨f x, rfl, .inl rfl⟩
    · exact ⟨x, rfl, .inr rfl⟩
  refine h.alike (t := s.updTask id f) (D := g.dim) ⟨fun _ y hy => ⟨y, hy, rfl, rfl, rfl, rfl, rfl⟩, fun _ => rfl, fun _ => rfl,
    fun l y hy => ?_, fun a => ?_, fun w => .of_same rfl rfl (fun k => k) (fun x _ hx => ?_) fun _ => rfl, fun _ k => k, fun _ => rfl⟩
    (fun _ => rfl) (fun _ => rfl) (fun _ k => k) (fun _ k => k) fun _ _ _ k _ => k
  · rw [htask] at hy
    split at hy
    · obtain ⟨x, hx, rfl⟩ := Option.map_eq_some_iff.1 hy
      obtain ⟨hid, htote, _, hst, haw, _⟩ := hf x
      exact ⟨x, hx, hid, htote, hst, by rw [haw]⟩
    · exact ⟨y, hy, rfl, rfl, rfl, rfl⟩
  · refine s.named_mapTasks _ (fun x => ?_) a
    split
    · exact (hf x).2.1
    · rfl
  · obtain ⟨y, hy, rfl | rfl⟩ := hone x.id x hx
    · obtain ⟨_, htote, horder, _, _, hover⟩ := hf x
      exact ⟨f x, hy, htote, horder, hover⟩
    · exact ⟨y, hy, rfl, rfl, fun k => k⟩

theorem Ground.updPos (hs : Ground s) (p : Pos) (f : Position → Position) : Ground (s.updPos p f) :=
  ⟨hs.placed.congr rfl rfl (fun _ => rfl) fun _ => rfl, hs.numbered, hs.distinct, hs.ascending, hs.below⟩

theorem Ground.updTask (hs : Ground s) (id : TaskId) (f : Task → Task) (hf : ∀ x, (f x).id = x.id ∧ (f x).recNo = x.recNo) :
    Ground (s.updTask id f) := by
  have hsame : ∀ x : Task, (if x.id = id then f x else x).id = x.id ∧ (if x.id = id then f x else x).recNo = x.recNo := fun x => by
    split
    · exact hf x
    · exact ⟨rfl, rfl⟩
  refine ⟨hs.placed.congr rfl rfl (fun _ => rfl) fun _ => rfl, hs.numbered, ?_, ?_, fun x hx => ?_⟩
  · have hids : (s.updTask id f).tasks.map (fun x => x.id) = s.tasks.map fun x => x.id := by
      rw [State.updTask, List.map_map]
      exact List.map_congr_left fun x _ => (hsame x).1
    rw [State.tasksDistinct, hids]
    exact hs.distinct
  · have hnos : (s.updTask id f).tasks.map (fun x => x.recNo) = s.tasks.map fun x => x.recNo := by
      rw [State.updTask, List.map_map]
      exact List.map_congr_left fun x _ => (hsame x).2
    rw [hnos]
    exact hs.ascending
  · obtain ⟨y, hy, rfl⟩ := List.mem_map.1 hx
    rw [(hsame y).2]
    exact hs.below y hy

theorem Fits.putUnits (hs : Ground s) (h : Fits .closed s) (p : Pos) (units volume crushClass : Nat) :
    Fits .closed (s.putUnits p units volume crushClass) := by
  have hput : Fits .closed (s.updPos p fun q => { q with
      fill := min (q.fill + volume * units) 255, floor := max q.floor crushClass }) :=
    h.updPos p _ (D := Gap.closed.dim) rfl rfl (fun k => k) (fun _ k => k) fun _ _ k _ => k
  have hground := hs.updPos p fun q => { q with fill := min (q.fill + volume * units) 255, floor := max q.floor crushClass }
  unfold State.putUnits
  dsimp only
  split
  next hfull => exact hput.enterClosing hground (.inl hfull.1)
  next => exact hput

theorem Fits.confirm (hs : Firm s) (h : Fits .closed s) {w : Win} {id : TaskId} {t : Task} (ht : s.task? id = some t) (count : Nat) :
    Fits .closed (s.confirm w t count) := by
  have htaken := (Acts.takeUnits s w ht count).firm hs
  have htask : Fits .closed (s.updTask t.id (t.confirmedBy count)) :=
    h.updTask t.id _ fun _ => ⟨rfl, rfl, rfl, rfl, rfl, fun k => k⟩
  have hground := hs.ground.updTask t.id (t.confirmedBy count) fun _ => ⟨rfl, rfl⟩
  have hput : Fits .closed ((s.updTask t.id (t.confirmedBy count)).putTask t (unitsTaken t count)) := by
    unfold State.putTask
    split
    · exact htask.putUnits hground _ _ _ _
    · exact htask
  have hfits : Fits .closed (s.takeUnits w t count) := by
    have hwin := hput.updWin w Window.confirmedOnce (D := Gap.closed.dim) rfl rfl (fun k => k) (fun _ => rfl) (fun _ k => k)
      fun _ _ => ⟨fun k => k, fun k => k⟩
    exact Fits.congr hwin rfl rfl rfl rfl
  rw [State.confirm_eq]
  split
  · exact hfits.endTask htaken.ground rfl (fun _ k => k) _ _
  · exact hfits

/-! ### TOTEBAD (R127) -/

theorem Fits.condemn (hs : Ground s) (h : Fits .closed s) {w : Win} {id : ToteId} (htop : s.top? w = some id) :
    Fits .closed (s.condemn w id) := by
  have hopen : Fits (Gap.of (fun x => x = id) fun _ => False) s := h.widen (fun _ k => k.elim) fun _ k => k
  have hmarked := hopen.markFinished hs w fun x p hx => Option.some.inj (hx.top.symm.trans htop)
  have hmarkedGround := (Moves.markFinished s w).ground hs
  have hmoves := Moves.endTasks (.failed .toteBad) (ascendingIds (s.tasksOf id)) (s.markFinished w)
  have hended := hmarked.endTasks hmarkedGround rfl (fun _ k => k) (.failed .toteBad) (ascendingIds (s.tasksOf id))
  have hground := hmoves.ground hmarkedGround
  have htasks : (s.markFinished w).tasks = s.tasks := (congrArg State.tasks (s.markFinished_totes w) :)
  have hnarrow : Fits .closed ((s.markFinished w).endAll (State.endTask (.failed .toteBad)) (ascendingIds (s.tasksOf id))) := by
    refine hended.narrow fun x hx hxt => ?_
    obtain ⟨y, hy, hyx⟩ := hmoves.mem_tasks hx
    obtain ⟨hid, htote⟩ := Task.of_core hyx
    rw [htasks] at hy
    have hyt : y.tote = id := htote.trans hxt
    have hin : y ∈ s.tasksOf id := by simp [State.tasksOf, hy, hyt]
    have hdead := State.endAll_task? (Moves.endTask (.failed .toteBad)) (fun i u => State.endWith_task? Moves.swapOut _ _ _ i u)
      (mem_ascendingIds.2 ⟨y, hin, rfl⟩) (s.markFinished w)
    rw [hid, hground.task?_of_mem hx] at hdead
    cases hdead
  exact hnarrow.sendIfDue hground w fun hfin => hnarrow.dark_of_finished (fun _ k => k) (fun _ k => k) hfin

/-! ### CLEAR (R142) -/

/-- Nothing is lit, and no position is locked, without a task. -/
theorem Fits.dark_of_noTasks (h : Fits g s) (htasks : s.tasks = []) (w : Win) : (s.win w).lit = none := by
  by_contra hlit
  obtain ⟨l, hl⟩ := Option.ne_none_iff_exists'.1 hlit
  obtain ⟨x, p, hx, _⟩ := h.shines_of_lit hl
  have hmem := State.mem_of_task? hx.task
  rw [htasks] at hmem
  cases hmem

theorem Fits.lock_of_noTasks (h : Fits .closed s) (htasks : s.tasks = []) (p : Pos) : (s.pos p).lock = none := by
  cases hl : (s.pos p).lock with
  | none => rfl
  | some w =>
    obtain ⟨x, hx⟩ := ((h.pos p).lock w hl).resolve_left nofun
    cases (h.dark_of_noTasks htasks w).symm.trans hx.lit

/-- No task is left; the orphan timers of lane totes that had one are still to start. -/
theorem Fits.clearTasks (h : Fits .closed s) : Fits (Gap.of (fun _ => False) fun id => s.named id = true) s.clearTasks := by
  have hbinding : ∀ p, (s.clearTasks.pos p).binding = (s.pos p).binding := fun p => by rw [State.clearTasks_pos]
  refine ⟨nofun, fun id x hx => ?_, fun w => ⟨fun _ => ?_, fun l hl => ?_⟩, fun p => ?_⟩
  · have hxf := h.tote id x hx
    refine ⟨fun k => ⟨(hxf.orphan k).1, rfl⟩, fun k _ => ?_, hxf.leaving⟩
    cases hn : s.named x.id with
    | true => exact .inr hn
    | false => exact .inl ((hxf.alone k hn).resolve_right fun k => k)
  · rw [State.clearTasks_win]
    exact ⟨rfl, rfl⟩
  · rw [State.clearTasks_win] at hl
    cases hl
  · have hpf := h.pos p
    refine ⟨?_, fun b hb => ?_, ?_, ?_, fun w hw => ?_⟩
    · rw [State.clearTasks_pos]
      exact hpf.bound
    · rw [State.positionOf_congr hbinding]
      exact hpf.names b (hbinding p ▸ hb)
    · rw [State.clearTasks_pos]
      exact hpf.swap
    · rw [State.clearTasks_pos]
      exact hpf.pull
    · rw [State.clearTasks_pos] at hw
      cases hw

/-- What each part of a CLEAR's step 7 keeps: what it swaps out is CLOSING still, or SWAPPING already. -/
def State.Clears (swaps : List Pos) (u : State) : Prop := Ground u ∧ Fits .closed u ∧ u.tasks = [] ∧
  ∀ p ∈ swaps, (u.pos p).state = .closing ∨ (u.pos p).state = .swapping

theorem Moves.noTasks {t : State} (h : Moves s t) (htasks : s.tasks = []) : t.tasks = [] := by
  refine List.eq_nil_iff_forall_not_mem.2 fun x hx => ?_
  obtain ⟨y, hy, _⟩ := h.mem_tasks hx
  rw [htasks] at hy
  cases hy

theorem State.Clears.step7 {swaps : List Pos} (h : s.Clears swaps) : (s.clearStep7 swaps).Clears swaps := by
  refine State.clearStep7_keep (P := State.Clears swaps) (fun u n hu => ?_) (fun u w hu => ?_) (fun u w hu => ?_) (fun u p hp hu => ?_) h
  · obtain ⟨hg, hf, ht, hp⟩ := hu
    exact ⟨(Moves.free u n).ground hg, hf.congr rfl rfl rfl rfl, ht, hp⟩
  · obtain ⟨hg, hf, ht, hp⟩ := hu
    have hpos : (u.finishTest w).positions = u.positions := (congrArg State.positions (u.finishTest_totes w) :)
    refine ⟨(Moves.finishTest u w).ground hg, hf.finishTest hg w, (Moves.finishTest u w).noTasks ht, fun p k => ?_⟩
    rw [State.pos, hpos]
    exact hp p k
  · obtain ⟨hg, hf, ht, hp⟩ := hu
    refine ⟨(Moves.sendIfDue u w).ground hg, hf.sendIfDue hg w fun _ => hf.dark_of_noTasks ht w, (Moves.sendIfDue u w).noTasks ht,
      fun p k => ?_⟩
    rw [State.pos, State.sendIfDue_positions]
    exact hp p k
  · obtain ⟨hg, hf, ht, hpos⟩ := hu
    refine ⟨(Moves.swapOut p u).ground hg, hf.swapOut_of hg rfl (fun _ k => k) (hpos p hp) (hf.lock_of_noTasks ht p),
      (Moves.swapOut p u).noTasks ht, fun q hq => ?_⟩
    cases hb : (u.pos p).binding with
    | none => simpa only [State.swapOut, hb] using hpos q hq
    | some b =>
      have hdirect : ∀ d, (u.direct d).pos q = u.pos q := fun d => by
        unfold State.direct
        split <;> rfl
      rw [State.swapOut_of_noTasks ht hb]
      by_cases hqp : q = p
      · subst hqp
        rw [State.pos_updPos]
        exact .inr rfl
      · rw [State.pos_updPos_ne _ hqp, hdirect]
        exact hpos q hq

/-- The orphan timers of lane totes start (R18). -/
theorem Fits.clearOrphans {before : List Task} (htasks : s.tasks = [])
    (h : Fits (Gap.of (fun _ => False) fun id => (before.any fun x => x.tote == id) = true) s) : Fits .closed (s.clearOrphans before) := by
  have hnamed : ∀ id, s.named id = false := State.named_of_noTasks htasks
  refine h.mapTotes (T := fun _ => False) (O := fun _ => False) (fun x => match x.state with
      | .inLane _ => if before.any (fun y => y.tote == x.id) then { x with orphanTimer := some s.orphanMs } else x
      | _ => x) (fun x => ?_) (fun x _ he => .inl ?_) (fun _ _ _ x _ _ he => .inl ?_) (fun x _ hxf => ?_) fun _ k => k
  · split
    · split <;> exact ⟨rfl, rfl⟩
    · exact ⟨rfl, rfl⟩
  · split at he
    · split at he <;> exact he
    · exact he
  · split at he
    · split at he <;> exact he
    · exact he
  · split
    next l hst =>
      split
      next hbefore => exact ⟨fun _ => ⟨by rw [hst]; rfl, hnamed _⟩, fun _ _ => .inl rfl, hxf.leaving⟩
      next hbefore => exact ⟨hxf.orphan, fun k hn => (hxf.alone k hn).imp id fun k => absurd k hbefore, hxf.leaving⟩
    next hst =>
      refine ⟨hxf.orphan, fun k _ => ?_, hxf.leaving⟩
      cases hs : x.state with
      | inLane l => exact absurd hs (hst l)
      | _ => rw [hs] at k; cases k

theorem Fits.clearBench (hs : Firm s) (h : Fits .closed s) : Fits .closed s.clearBench := by
  have htasks := (Moves.clearTasks s).firm hs
  have hreleased : Firm s.clearReleased ∧ Fits (Gap.of (fun _ => False) fun id => s.named id = true) s.clearReleased := by
    have hmode : Acts (s.clearTasks.noteBoth .benchCleared) { s.clearTasks.noteBoth .benchCleared with mode := .drain } :=
      (Act.mode .drain nofun).acts
    refine ⟨((Moves.noteBoth _ _).acts.trans (hmode.trans (Acts.updWins _ bothWindows.has
      (fun x => { x with holds := x.holds.released }) fun _ => ⟨rfl, rfl⟩))).firm htasks, ?_⟩
    have hnoted : Fits (Gap.of (fun _ => False) fun id => s.named id = true)
      { s.clearTasks.noteBoth .benchCleared with mode := .drain } := h.clearTasks.congr rfl rfl rfl rfl
    refine hnoted.updWins (D := fun _ => False) bothWindows.has (fun x => { x with holds := x.holds.released }) (fun _ => ⟨rfl, rfl⟩)
      (fun _ k => k) fun v _ _ => ⟨fun k => k, fun k => ?_⟩
    simp only [Holds.any, Holds.released, Bool.or_eq_false_iff, Bool.false_or] at k ⊢
    exact ⟨k.1.2, k.2⟩
  have hnotasks : s.clearReleased.tasks = [] := (congrArg State.tasks s.clearReleased_rest :)
  have hpos : s.clearReleased.positions = s.clearTasks.positions := (congrArg State.positions s.clearReleased_rest :)
  have hsent : Firm s.clearReleased.sendBoth ∧ Fits (Gap.of (fun _ => False) fun id => s.named id = true) s.clearReleased.sendBoth ∧
      s.clearReleased.sendBoth.tasks = [] ∧ s.clearReleased.sendBoth.positions = s.clearTasks.positions := by
    refine State.sendBoth_keep (P := fun u => Firm u ∧ Fits (Gap.of (fun _ => False) fun id => s.named id = true) u ∧ u.tasks = [] ∧
      u.positions = s.clearTasks.positions) (fun u n hu => ?_) (fun u w hu => ?_) ⟨hreleased.1, hreleased.2, hnotasks, hpos⟩
    · obtain ⟨hg, hf, ht, hp⟩ := hu
      exact ⟨(Moves.free u n).firm hg, hf.congr rfl rfl rfl rfl, ht, hp⟩
    · obtain ⟨hg, hf, ht, hp⟩ := hu
      exact ⟨(Moves.sendIfDue u w).firm hg, hf.sendIfDue hg.ground w fun _ => hf.dark_of_noTasks ht w, (Moves.sendIfDue u w).noTasks ht,
        (u.sendIfDue_positions w).trans hp⟩
  have horphans : ∀ u : State, Moves u (u.clearOrphans s.tasks) := fun u => .single (.totes _ fun t => by
    split
    · split <;> exact ⟨rfl, rfl⟩
    · exact ⟨rfl, rfl⟩)
  unfold State.clearBench
  rw [State.clearModeHolds_eq]
  obtain ⟨hg, hf, ht, hp⟩ := hsent
  generalize s.clearReleased.sendBoth = u at *
  have hwatches : Acts u u.clearWatchesCursors := .other rfl
  have hcleared : Fits .closed (u.clearWatchesCursors.clearOrphans s.tasks) := Fits.clearOrphans (by exact ht) (hf.congr rfl rfl rfl rfl)
  refine (State.Clears.step7 ⟨(horphans _).ground (hwatches.ground hg), hcleared, ht, fun p hmem => .inl ?_⟩).2.1
  change (u.pos p).state = .closing
  rw [State.pos, hp]
  exact (congrArg Position.state (s.clearTasks_pos p)).trans (State.closing_of_closingLocked hmem)

end

end Sys2Proof.Machine

/-! PROOFS. What is lit where at every event, at the passing of a millisecond and under the lights (R68, R93), and the statement
O59. -/

namespace Sys2Proof.Machine

section
variable {s t : State}

/-! ### What the end of an event has made good -/

theorem Sharp.of (h : Sharp s) (hwin : ∀ w, (t.win w).lit ≠ none → (s.win w).lit ≠ none ∧
      ((s.win w).blockTimer = none → (t.win w).blockTimer = none))
    (hpos : ∀ p, (t.pos p).state = (s.pos p).state ∧ (t.pos p).lock = (s.pos p).lock) : Sharp t := by
  refine ⟨fun w p hlit hlock => ?_, fun p hclosing => ?_⟩
  · obtain ⟨hst, hl⟩ := hpos p
    obtain ⟨hlit', hblock⟩ := hwin w hlit
    rw [hst]
    exact (h.block w p hlit' (hl.symm.trans hlock)).imp_left hblock
  · obtain ⟨hst, hl⟩ := hpos p
    rw [hl]
    exact h.closing p (hst.symm.trans hclosing)

theorem Sharp.of_eq (h : Sharp s) (hwindows : t.windows = s.windows) (hpositions : t.positions = s.positions) : Sharp t := by
  have hwin : ∀ w, t.win w = s.win w := fun w => by rw [State.win, hwindows]; rfl
  refine h.of (fun w k => ?_) fun p => ?_
  · rw [hwin] at k ⊢
    exact ⟨k, fun k => k⟩
  · rw [State.pos, hpositions]
    exact ⟨rfl, rfl⟩

/-- A change of one window's record that lights nothing and starts no block timer. -/
theorem Sharp.updWin (h : Sharp s) (w : Win) (f : Window → Window) (hlit : (f (s.win w)).lit = (s.win w).lit)
    (hblock : (s.win w).blockTimer = none → (f (s.win w)).blockTimer = none) : Sharp (s.updWin w f) := by
  refine h.of (fun v k => ?_) fun _ => ⟨rfl, rfl⟩
  by_cases hv : v = w
  · subst hv
    rw [State.win_updWin] at k ⊢
    rw [hlit] at k
    exact ⟨k, hblock⟩
  · rw [State.win_updWin_ne _ hv] at k ⊢
    exact ⟨k, fun k => k⟩

/-- A change of one position's record that leaves its state and its lock. -/
theorem Sharp.updPos (h : Sharp s) (p : Pos) (f : Position → Position) (hstate : (f (s.pos p)).state = (s.pos p).state)
    (hlock : (f (s.pos p)).lock = (s.pos p).lock) : Sharp (s.updPos p f) := by
  refine h.of (fun _ k => ⟨k, fun k => k⟩) fun q => ?_
  by_cases hq : q = p
  · subst hq
    rw [s.pos_updPos]
    exact ⟨hstate, hlock⟩
  · rw [s.pos_updPos_ne hq]
    exact ⟨rfl, rfl⟩

theorem Sharp.emptyPosition (h : Sharp s) (p : Pos) : Sharp (s.emptyPosition p) := by
  have hself : (s.emptyPosition p).pos p = { s.pos p with
    state := .empty, binding := none, fill := 0, floor := 0, lock := none, beforePull := none, swapTimer := none,
    lastHolder := none } := s.pos_updPos p _
  have hother : ∀ {q}, q ≠ p → (s.emptyPosition p).pos q = s.pos q := fun hq => s.pos_updPos_ne hq _
  refine ⟨fun w q hlit hlock => ?_, fun q hclosing => ?_⟩
  · by_cases hq : q = p
    · subst hq
      rw [hself] at hlock
      cases hlock
    · rw [hother hq] at hlock ⊢
      exact h.block w q hlit hlock
  · by_cases hq : q = p
    · subst hq
      rw [hself] at hclosing
      cases hclosing
    · rw [hother hq] at hclosing ⊢
      exact h.closing q hclosing

/-! ### Events that write little -/

/-- The stage has all that counts. -/
theorem Settled.of_stage (h : Settled s) (hstage : t.stage = s.stage) (hground : Ground t) : Settled t :=
  ⟨hground, h.fits.congr (congrArg Stage.tasks hstage) (congrArg Stage.totes hstage) (congrArg Stage.windows hstage)
    (congrArg Stage.positions hstage), h.sharp.of_eq (congrArg Stage.windows hstage) (congrArg Stage.positions hstage)⟩

/-- Every block at its first values (R144, R145, R160). -/
theorem startUp_settled (pins : Pins) (image : Vector SWord 31) (counters : Counters) (free : Nat) (pending : List Instr) (phase : Phase)
    (line : RstLine) (hground : Ground { startUp pins image counters free pending with phase := phase, rstLine := line }) :
    Settled { startUp pins image counters free pending with phase := phase, rstLine := line } := by
  generalize hu : ({ startUp pins image counters free pending with phase := phase, rstLine := line } : State) = u at *
  have hrecords : u.tasks = [] ∧ u.totes = [] := by rw [← hu]; exact ⟨rfl, rfl⟩
  have hdark : ∀ w, (u.win w).Dark := fun w => by rw [← hu]; cases w <;> exact ⟨rfl, rfl, rfl⟩
  have hpos : ∀ p, (u.pos p).state = .empty ∧ (u.pos p).binding = none ∧ (u.pos p).lock = none ∧ (u.pos p).swapTimer = none ∧
      (u.pos p).beforePull = none := fun p => by rw [← hu]; fin_cases p <;> exact ⟨rfl, rfl, rfl, rfl, rfl⟩
  obtain ⟨htasks, htotes⟩ := hrecords
  refine ⟨hground, ⟨fun l t ht => ?_, fun id x hx => ?_, fun w => ⟨fun _ => (hdark w).2, fun l hl => ?_⟩, fun p => ?_⟩,
    fun w p hlit => absurd (hdark w).1 hlit, fun p hclosing => ?_⟩
  · have hmem := State.mem_of_task? ht
    rw [htasks] at hmem
    cases hmem
  · have hmem := (State.mem_of_tote? hx).1
    rw [htotes] at hmem
    cases hmem
  · cases (hdark w).1.symm.trans hl
  · obtain ⟨hst, hb, hl, hsw, hp⟩ := hpos p
    refine ⟨?_, fun b k => ?_, ?_, ?_, fun w k => ?_⟩
    · rw [hb, hst]; exact ⟨nofun, fun k => absurd rfl k⟩
    · rw [hb] at k; cases k
    · rw [hsw, hst]; exact ⟨nofun, nofun⟩
    · rw [hp, hst]; exact ⟨nofun, nofun⟩
    · rw [hl] at k; cases k
  · cases (hpos p).1.symm.trans hclosing

/-- CONFIRM_PERIOD_EXPIRY marks the lit task OVERDUE (R120). -/
theorem Fits.overdue (h : Fits .closed s) {w : Win} {x : Task} (hx : (s.win w).lit.bind s.task? = some x) :
    Fits .closed (s.overdue w x) := by
  obtain ⟨l, hl, hlx⟩ := Option.bind_eq_some_iff.1 hx
  have hid := State.id_of_task? hlx
  subst hid
  generalize hu : (s.updWin w fun x => { x with confirmTimer := none }).updTask x.id (fun x => { x with overdue := true }) = u
  have hself : u.win w = { s.win w with confirmTimer := none } := by
    rw [← hu]
    exact s.win_updWin w fun x => { x with confirmTimer := none }
  have hother : ∀ {v}, v ≠ w → u.win v = s.win v := fun hv => by
    rw [← hu]
    exact s.win_updWin_ne hv fun x => { x with confirmTimer := none }
  have htask : ∀ l, u.task? l = if l = x.id then (s.task? l).map fun x => { x with overdue := true } else s.task? l := fun l => by
    rw [← hu]
    exact State.task?_updTask (s.updWin w fun x => { x with confirmTimer := none }) x.id l _ fun _ => rfl
  have hrest : u.totes = s.totes ∧ u.positions = s.positions := by rw [← hu]; exact ⟨rfl, rfl⟩
  have hnamed : ∀ a, u.named a = s.named a := fun a => by
    rw [← hu]
    exact State.named_mapTasks (s.updWin w fun x => { x with confirmTimer := none }) _ (fun y => by split <;> rfl) a
  obtain ⟨htotes, hpositions⟩ := hrest
  have hwin : ∀ v, ∃ ms, u.win v = { s.win v with confirmTimer := ms } := fun v => by
    by_cases hv : v = w
    · subst hv; exact ⟨none, hself⟩
    · exact ⟨(s.win v).confirmTimer, hother hv⟩
  have htote : u.tote? = s.tote? := funext fun id => by rw [State.tote?, htotes]; rfl
  have hpos : ∀ p, u.pos p = s.pos p := fun p => by rw [State.pos, hpositions]; rfl
  have halike : Alike s u := by
    refine ⟨fun id y hy => ⟨y, htote ▸ hy, rfl, rfl, rfl, rfl, rfl⟩, fun id => by rw [State.place, htote]; rfl, fun v => ?_,
      fun k y hy => ?_, hnamed, fun v => ?_, fun v => ?_, fun v => ?_⟩
    · obtain ⟨ms, hms⟩ := hwin v
      exact State.topFinished_congr (by rw [hms]) htotes
    · rw [htask] at hy
      split at hy
      · obtain ⟨z, hz, rfl⟩ := Option.map_eq_some_iff.1 hy
        exact ⟨z, hz, rfl, rfl, rfl, rfl⟩
      · exact ⟨y, hy, rfl, rfl, rfl, rfl⟩
    · by_cases hv : v = w
      · subst hv
        refine ⟨by rw [hself], fun _ => by rw [hself], fun k => by rw [hself]; exact k, fun y hy hyt => ?_, fun _ => by
          rw [State.top?, hself]; rfl⟩
        have hyx : y.id = x.id := Option.some.inj (hy.symm.trans hl)
        refine ⟨{ y with overdue := true }, ?_, rfl, rfl, fun _ => .inr rfl⟩
        rw [htask, if_pos hyx, hyt]
        rfl
      · refine .of_same (by rw [hother hv]) (by rw [hother hv]) (fun k => by rw [hother hv]; exact k) (fun y _ hyt => ?_) fun _ => by
          rw [State.top?, hother hv]; rfl
        by_cases hyx : y.id = x.id
        · exact ⟨{ y with overdue := true }, by rw [htask, if_pos hyx, hyt]; rfl, rfl, rfl, fun _ => rfl⟩
        · exact ⟨y, by rw [htask, if_neg hyx, hyt], rfl, rfl, fun k => k⟩
    · obtain ⟨ms, hms⟩ := hwin v
      rw [hms]
      exact fun k => k
    · obtain ⟨ms, hms⟩ := hwin v
      rw [State.held, hms]
      rfl
  have hfits := h.alike halike (D := Gap.closed.dim) (fun p => by rw [hpos]) (fun p => by rw [hpos]) (fun p => by
    rw [hpos]; exact fun k => k) (fun _ k => k) fun p _ _ k _ => by rw [hpos]; exact k
  unfold State.overdue
  rw [hu]
  exact hfits.noteBoth _

theorem Sharp.overdue (h : Sharp s) (w : Win) (x : Task) : Sharp (s.overdue w x) :=
  (h.updWin w (fun x => { x with confirmTimer := none }) rfl fun k => k).of_eq rfl rfl

/-- The presence of a position's order tote (R73, R74). -/
theorem Settled.pposFalls (hs : Firm s) (h : Settled s) (p : Pos) : Settled (s.pposFalls p) := by
  have hpull : ∀ before : PrePull, ((s.pos p).state = .bound ∨ (s.pos p).state = .closing) → Settled (match (s.pos p).lock with
      | some w => (State.unlight w .positionPulled (s.updPos p fun q => { q with
          present := false, state := .pulled, beforePull := some before })).settle
      | none => (s.updPos p fun q => { q with present := false, state := .pulled, beforePull := some before }).settle) := by
    intro before hstate
    have hfits := h.fits.pull p before hstate
    have hground := hs.ground.updPos p fun q => { q with present := false, state := .pulled, beforePull := some before }
    generalize s.updPos p (fun q => { q with present := false, state := .pulled, beforePull := some before }) = u at *
    cases hl : (s.pos p).lock with
    | some w =>
      have hunlit := hfits.unlight_dim hground (fun v k => Option.some.inj (k.symm.trans hl)) .positionPulled
      exact hunlit.settle ((Moves.unlight u w _).ground hground)
    | none => exact (hfits.closed_of_dim fun v k => by cases hl.symm.trans k).settle hground
  unfold State.pposFalls
  dsimp only
  split
  next hst => exact hpull .bound (.inl hst)
  next hst => exact hpull .closing (.inr hst)
  next => exact ⟨hs.ground.updPos p _, h.fits.updPos p _ (D := Gap.closed.dim) rfl rfl (fun k => k) (fun _ k => k) fun _ _ k _ => k,
      h.sharp.updPos p _ rfl rfl⟩

theorem Settled.pposRises (hs : Firm s) (h : Settled s) (p : Pos) : Settled (s.pposRises p) := by
  have hback : Settled (s.updPos p fun q => { q with present := true }) :=
    ⟨hs.ground.updPos p _, h.fits.updPos p _ (D := Gap.closed.dim) rfl rfl (fun k => k) (fun _ k => k) fun _ _ k _ => k,
      h.sharp.updPos p _ rfl rfl⟩
  have hpos : ((s.updPos p fun q => { q with present := true }).pos p).state = (s.pos p).state := by rw [s.pos_updPos]
  unfold State.pposRises
  dsimp only
  generalize s.updPos p (fun q => { q with present := true }) = u at *
  split
  next hst _ =>
    rw [hst] at hpos
    refine Fits.settle (hback.ground.updPos p _) (hback.fits.updPos p _ (D := Gap.closed.dim) rfl rfl (fun ⟨hb, hsw, _⟩ =>
      ⟨⟨fun _ => nofun, fun _ => hb.2 (by rw [hpos]; nofun)⟩, ⟨fun k => ?_, nofun⟩, nofun, nofun⟩) (fun _ k => k) fun _ _ _ _ => .inl rfl)
    cases hpos.symm.trans (hsw.1 k)
  next hst _ =>
    rw [hst] at hpos
    exact (hback.fits.enterClosing hback.ground (.inr hpos)).settle ((Moves.enterClosing u p).ground hback.ground)
  next => exact hback

theorem Settled.press (hs : Firm s) (h : Settled s) (p : Pos) : Settled (s.press p) := by
  unfold State.press
  split
  next w x hlit =>
    have hx : ∃ id, s.task? id = some x := by
      unfold State.litTo at hlit
      split at hlit
      · obtain ⟨y, hy, heq⟩ := Option.map_eq_some_iff.1 hlit
        obtain ⟨id, _, hid⟩ := Option.bind_eq_some_iff.1 hy
        exact ⟨id, by rw [hid, (Prod.mk.inj heq).2]⟩
      · cases hlit
    obtain ⟨id, hx⟩ := hx
    split
    · exact (h.fits.confirm hs hx _).settle ((Acts.confirm s w hx _).ground hs)
    · exact h
  next => exact h

/-- What a window sees of its fetch (R84 to R86). -/
theorem Settled.seeAtWin (hs : Firm s) (h : Settled s) {w : Win} {f : Fetch} (hf : (s.win w).fetch = some f) :
    Settled (s.seeAtWin w f) := by
  have hsee : ∀ f' : Fetch, f'.tote = f.tote → Firm (s.updWin w fun x => { x with fetch := some f' }) ∧
      Fits .closed (s.updWin w fun x => { x with fetch := some f' }) ∧ Sharp (s.updWin w fun x => { x with fetch := some f' }) :=
    fun f' htote => ⟨(Acts.updWin s w _ (by simp [Window.held, hf, htote]) fun k => k).firm hs,
      h.fits.seeFetch hf _ fun _ => ⟨rfl, rfl⟩, h.sharp.updWin w _ rfl fun k => k⟩
  unfold State.seeAtWin
  split
  · obtain ⟨hfirm, hfits, _⟩ := hsee { f with atwinSeen := true, fetchTimer := none } rfl
    exact (hfits.deliver hfirm w false).settle ((Acts.deliver _ w false).ground hfirm)
  · obtain ⟨hfirm, hfits, hsharp⟩ := hsee { f with atwinSeen := true, fetchTimer := none, settleTimer := some Config.settleMs } rfl
    exact ⟨hfirm.ground, hfits, hsharp⟩

/-- A change of a window's presence and of what its fetch has seen. -/
theorem Settled.seePres (hs : Firm s) (h : Settled s) (w : Win) (b : Bool) (f' : Option Fetch)
    (hf : (s.win w).fetch.map (fun f => f.tote) = f'.map fun f => f.tote) :
    Firm (s.updWin w fun x => { x with present := b, fetch := f' }) ∧ Settled (s.updWin w fun x => { x with present := b, fetch := f' }) := by
  have hfirm := (Acts.updWin s w (fun x => { x with present := b, fetch := f' }) (by simp [Window.held, hf]) fun k => k).firm hs
  refine ⟨hfirm, hfirm.ground, h.fits.updWin w _ (D := Gap.closed.dim) rfl rfl (fun k => k) (fun _ => rfl) (fun _ k => k)
    fun _ _ => ⟨fun k => ?_, fun k => k⟩, h.sharp.updWin w _ rfl fun k => k⟩
  rw [k] at hf
  exact Option.map_eq_none_iff.1 hf.symm

theorem Settled.presRises (hs : Firm s) (h : Settled s) (w : Win) : Settled (s.presRises w) := by
  unfold State.presRises
  split
  next hf =>
    have hsee := (h.seePres hs w true none (by rw [hf])).2
    rw [show (s.updWin w fun x => { x with present := true }) = s.updWin w fun x => { x with present := true, fetch := none } from by
      rw [← hf]; rfl]
    exact hsee
  next f hf =>
    obtain ⟨hfirm, hsee⟩ := h.seePres hs w true (some { f with presRisen := true }) (by rw [hf]; rfl)
    dsimp only
    split
    · exact (hsee.fits.deliver hfirm w false).settle ((Acts.deliver _ w false).ground hfirm)
    · exact hsee

theorem Settled.presFalls (hs : Firm s) (h : Settled s) (w : Win) : Settled (s.presFalls w) := by
  unfold State.presFalls
  split
  next f hf => exact (h.seePres hs w false (some { f with presRisen := false }) (by rw [hf]; rfl)).2
  next hf =>
    obtain ⟨hfirm, hsee⟩ := h.seePres hs w false none (by rw [hf])
    rw [show (s.updWin w fun x => { x with present := false, fetch := none }) = s.updWin w fun x => { x with present := false } from by
      rw [← hf]; rfl] at hfirm hsee
    dsimp only
    split
    · exact (hsee.fits.pulledFault hfirm w).settle ((Acts.pulledFault _ w).ground hfirm)
    · exact hsee

end

end Sys2Proof.Machine

/-! PROOFS. What is lit where over a whole step, and the statement O59. -/

namespace Sys2Proof.Machine

section
variable {s t : State}

/-! ### Lights and time -/

/-- The light of a position is no matter here. -/
theorem Settled.of_tables (h : Settled s) (htables : t.tables = s.tables) (hground : Ground t) : Settled t := by
  have htasks : t.tasks = s.tasks := (congrArg State.tasks htables :)
  have htotes : t.totes = s.totes := (congrArg State.totes htables :)
  have hwindows : t.windows = s.windows := (congrArg State.windows htables :)
  have hwin : ∀ w, t.win w = s.win w := fun w => by rw [State.win, hwindows]; rfl
  have hpos : ∀ p, t.pos p = { s.pos p with light := (t.pos p).light } := fun p =>
    congrArg (fun q : Position => { q with light := (t.pos p).light }) (State.unlighted_of_tables htables p)
  refine ⟨hground, h.fits.alike (D := Gap.closed.dim) (.of_eq htasks htotes hwindows) (fun p => by rw [hpos]) (fun p => by rw [hpos])
    (fun p k => by rw [hpos]; exact k) (fun _ k => k) (fun p _ _ k _ => by rw [hpos]; exact k),
    h.sharp.of (fun w k => ?_) fun p => by rw [hpos]; exact ⟨rfl, rfl⟩⟩
  rw [hwin] at k ⊢
  exact ⟨k, fun k => k⟩

/-- The passing of a millisecond starts and ends no timer. -/
theorem Alike.countTimers (s : State) : Alike s s.countTimers := by
  have htote : ∀ id, s.countTimers.tote? id = (s.tote? id).map Tote.tick := s.tote?_mapTotes Tote.tick fun _ => rfl
  have htask : ∀ l, s.countTimers.task? l = (s.task? l).map Task.tick := s.task?_mapTasks Task.tick fun _ => rfl
  have htop : ∀ w, s.countTimers.top? w = s.top? w := fun w => by rw [State.top?, s.countTimers_win]; rfl
  refine ⟨fun id y hy => ?_, s.place_mapTotes Tote.tick fun _ => ⟨rfl, rfl⟩, fun w => ?_, fun l y hy => ?_,
    fun a => s.named_mapTasks Task.tick (fun _ => rfl) a, fun w => ⟨?_, ?_, ?_, fun x _ hx => ?_, fun _ => htop w⟩, fun w => ?_, fun w => ?_⟩
  · rw [htote] at hy
    obtain ⟨x, hx, rfl⟩ := Option.map_eq_some_iff.1 hy
    exact ⟨x, hx, rfl, rfl, rfl, Option.isSome_map, Option.isSome_map⟩
  · rw [State.topFinished, State.topTote?, htop, State.topFinished, State.topTote?]
    cases s.top? w with
    | none => rfl
    | some id =>
      simp only [Option.bind_some, htote, Option.any_map]
      rfl
  · rw [htask] at hy
    obtain ⟨x, hx, rfl⟩ := Option.map_eq_some_iff.1 hy
    exact ⟨x, hx, rfl, rfl, rfl, Option.isSome_map⟩
  · rw [s.countTimers_win]
    rfl
  · rw [s.countTimers_win]
    exact fun k => Option.map_eq_none_iff.2 k
  · rw [s.countTimers_win]
    exact fun k => Option.map_eq_none_iff.2 k
  · refine ⟨x.tick, by rw [htask, hx]; rfl, rfl, rfl, fun k => k.imp_left fun hc => ?_⟩
    rw [s.countTimers_win]
    exact Option.isSome_map.trans hc
  · rw [s.countTimers_win]
    exact fun k => Option.map_eq_none_iff.2 k
  · rw [State.held, s.countTimers_win]
    rfl

theorem Settled.countTimers (h : Settled s) (hground : Ground s.countTimers) : Settled s.countTimers := by
  refine ⟨hground, h.fits.alike (D := Gap.closed.dim) (.countTimers s) (fun p => by rw [s.countTimers_pos]; rfl) (fun p => by
    rw [s.countTimers_pos]; rfl) (fun p ⟨hb, hsw, hp⟩ => ?_) (fun _ k => k) (fun p _ _ k _ => by rw [s.countTimers_pos]; exact k),
    h.sharp.of (fun w k => ?_) fun p => by rw [s.countTimers_pos]; exact ⟨rfl, rfl⟩⟩
  · rw [s.countTimers_pos]
    exact ⟨hb, (Bool.eq_iff_iff.1 Option.isSome_map).trans hsw, hp⟩
  · rw [s.countTimers_win] at k ⊢
    exact ⟨k, fun k => Option.map_eq_none_iff.2 k⟩

/-! ### Events -/

theorem State.laneSendBack_rest (s : State) (id : ToteId) : (s.laneSendBack id).windows = s.windows ∧
    (s.laneSendBack id).positions = s.positions := by
  cases ht : s.tote? id with
  | none => simp only [State.laneSendBack, ht, and_self]
  | some x =>
    cases hst : x.state with
    | inLane slot =>
      rw [State.laneSendBack_of_inLane ht hst]
      unfold State.direct
      split <;> exact ⟨rfl, rfl⟩
    | _ => simp only [State.laneSendBack, ht, hst, and_self]

theorem Settled.laneSendBack (h : Settled s) {id : ToteId} (hran : ((s.tote? id).any fun t => t.orphanTimer.isSome) = true)
    (hground : Ground (s.laneSendBack id)) : Settled (s.laneSendBack id) := by
  obtain ⟨x, hx, horphan⟩ := (Option.any_eq_true _ _).1 hran
  have hid := (State.mem_of_tote? hx).2
  have hnamed := ((h.fits.tote id x hx).orphan horphan).2
  rw [hid] at hnamed
  obtain ⟨hwindows, hpositions⟩ := s.laneSendBack_rest id
  exact ⟨hground, h.fits.laneSendBack hnamed, h.sharp.of_eq hwindows hpositions⟩

/-- AWAIT_EXPIRY ends a WAITING task (R48). -/
theorem Settled.await (h : Settled s) {id : TaskId} (hran : ((s.task? id).any fun t => t.awaitTimer.isSome) = true) (o : TaskOutcome) :
    Settled (s.endTask o id) := by
  have hwait : ∀ x, s.task? id = some x → x.state = .waiting := fun x hx => by
    rw [hx] at hran
    exact (h.fits.task id x hx).await.1 hran
  obtain ⟨hwindows, hpositions⟩ := State.endTask_waiting h.ground h.fits hwait o
  exact ⟨(Moves.endTask o id s).ground h.ground, h.fits.endTask h.ground rfl (fun _ k => k) o id, h.sharp.of_eq hwindows hpositions⟩

/-- A block timer waits for a task lit to a CLOSING position (log entry 13). -/
theorem Settled.blockStands (h : Settled s) {w : Win} (hb : (s.win w).blockTimer.isSome = true)
    (hground : Ground (s.updWin w fun x => { x with blockTimer := some 0 })) :
    Settled (s.updWin w fun x => { x with blockTimer := some 0 }) := by
  refine ⟨hground, h.fits.updWin w _ (D := Gap.closed.dim) rfl rfl (fun k => k) (fun _ => rfl) (fun _ k => k)
    fun _ _ => ⟨fun k => k, fun k => k⟩, fun v p hlit hlock => ?_, h.sharp.closing⟩
  by_cases hv : v = w
  · subst hv
    rw [State.win_updWin] at hlit
    refine .inr ((h.sharp.block v p hlit hlock).resolve_left fun k => ?_)
    rw [k] at hb
    cases hb
  · rw [State.win_updWin_ne _ hv] at hlit ⊢
    exact h.sharp.block v p hlit hlock

theorem Settled.setMode (h : Settled s) (m : Mode) (hmode : Ground { s with mode := m }) : Settled (s.setMode m) := by
  have hset : Settled { s with mode := m } := ⟨hmode, h.fits.congr rfl rfl rfl rfl, h.sharp.of_eq rfl rfl⟩
  unfold State.setMode
  split
  · exact h
  split
  · exact hset.fits.settle hmode
  · exact hset

/-- Every event leaves tasks, totes, windows and positions in agreement. -/
theorem Event.settled {c : Instr} (hevent : Event s c t) (hs : Firm s) (h : Settled s) : Settled t := by
  have hf := h.fits
  have hg := h.ground
  have ht := hevent.acts.ground hs
  cases hevent with
  | nothing => exact h
  | restart _ pins image counters free phase line => exact startUp_settled pins image counters free s.pending phase line ht
  | line | load | setItem | store | storeCompletion | lock | watch | accrualInterval => exact h.of_stage rfl ht
  | post r task tote orderTote sku cls quantity unitVolume crushClass c hmode hrange hnew hroom hfresh =>
    have hposted := ((Act.post (s.newTask task tote orderTote sku c quantity unitVolume crushClass) hroom hnew
      (newTask_boundsWf s hrange) rfl).acts.trans (Moves.updTote _ tote (fun x => { x with orphanTimer := none }) fun _ => ⟨rfl, rfl⟩).acts).ground hs
    refine (hf.postTask hs hposted hnew (s.postState_eq_place tote) ?_ hfresh).settle hposted
    by_cases hwait : s.postState tote = .waiting
    · simp [State.newTask, hwait]
    · simp [State.newTask, hwait]
  | withdraw r task => exact (hf.endTask hg rfl (fun _ k => k) _ _).settle ((Moves.endTask _ _ _).ground hg)
  | rush r tote =>
    exact (hf.updTote tote (fun x => { x with rush := true }) (fun _ => ⟨rfl, rfl, rfl, rfl⟩) fun x _ hx =>
      ⟨hx.orphan, hx.alone, hx.leaving⟩).settle ((Moves.updTote s tote _ fun _ => by exact ⟨rfl, rfl⟩).ground hg)
  | bind r pos orderTote cls capacity p c hempty hnew =>
    have hbound := hg.updPos p fun q => { q with
      state := .bound, binding := some ⟨orderTote, c, capacity.toNat⟩, fill := 0, floor := 0, lock := none }
    exact ((hf.bindRecord _ hempty hnew).endTasks hbound rfl (fun _ k => k) _ _).settle ((Moves.endTasks _ _ _).ground hbound)
  | close r pos p hstate => exact (hf.enterClosing hg hstate).settle ((Moves.enterClosing s p).ground hg)
  | mode r mode m hclear => exact h.setMode m ((Act.mode m hclear).acts.ground hs)
  | clear r => exact (hf.clearBench hs).settle ((Acts.clearBench s).ground hs)
  | toteIn r id slot cls brought l c hnew hslot =>
    exact (hf.arrive hs hnew hslot).settle ((Acts.arrive s id l c brought hnew hslot).ground hs)
  | toteOut r id x slot hx hst =>
    have hplace : s.place id = some (.inLane slot) := by rw [State.place, hx, Option.map_some, hst]
    exact ⟨ht, hf.takeOut hg hplace, h.sharp.of_eq rfl rfl⟩
  | atWin r id window w f hfetch => exact h.seeAtWin hs hfetch
  | goneLane r id x slot hx hst =>
    have hplace := State.place_of_tote? hx
    rw [hst] at hplace
    have hq := ((s.setSlot slot none).dropTote x.id).offer_queues (toteEvent .toteReturned x none)
    exact ⟨ht, (hf.leaveLane hg hplace).offer _, h.sharp.of_eq (congrArg State.windows hq :) (congrArg State.positions hq :)⟩
  | goneWindow r id x w hx hst =>
    have hid := (State.mem_of_tote? hx).2
    exact (hf.goneFromWindow hs hx hst).settle (((Act.endReturn w x.id (.inr ⟨x, hid ▸ hx, hst⟩)).acts.trans
      ((Moves.offer _ _).acts.trans (Acts.endReturn _ w))).ground hs)
  | swapped r pos p hst => exact ⟨ht, hf.emptyPosition hst, h.sharp.emptyPosition p⟩
  | picked r id count x w hx => exact (hf.confirm hs hx _).settle ((Acts.confirm s w hx _).ground hs)
  | short r id =>
    have hcounted : Ground s.countShort := (Acts.count s _).ground hs
    have hcountedf : Fits .closed s.countShort := hf.congr rfl rfl rfl rfl
    exact (hcountedf.endTask hcounted rfl (fun _ k => k) _ _).settle ((Moves.endTask _ _ _).ground hcounted)
  | toteBad r id w htop => exact (hf.condemn hg htop).settle ((Moves.condemn s w id).ground hg)
  | hold r windows ws => exact (hf.changeHolds hs ws _).settle ((Acts.changeHolds s ws _).ground hs)
  | resume r windows ws => exact (hf.changeHolds hs ws _).settle ((Acts.changeHolds s ws _).ground hs)
  | resumeBench r windows ws =>
    exact ((hf.changeHolds hs ws _).dropFaults ws).settle (((Acts.changeHolds s ws _).trans (.dropFaults _ ws)).ground hs)
  | accrual reading => exact (Fits.accrue hs hf reading).settle ((Acts.accrue s reading).ground hs)
  | orphan id hran => exact h.laneSendBack hran ht
  | laneReturn id x slot hx hst =>
    have hplace : s.place id = some (.leavingLane slot) := by rw [State.place, hx, Option.map_some, hst]
    exact ⟨ht, (hf.leaveLane hg hplace).congr rfl rfl rfl rfl, h.sharp.of_eq rfl rfl⟩
  | presRise w => exact h.presRises hs w
  | presFall w => exact h.presFalls hs w
  | settleExpiry w => exact (hf.deliver hs w true).settle ((Acts.deliver s w true).ground hs)
  | fetchTimeout w f hfetch => exact (hf.loseFetch hs hfetch).settle ((Acts.loseFetch s w hfetch).ground hs)
  | windowReturn w q hq =>
    exact (hf.loseReturn hs hq).settle (((Act.endReturn w q.tote (.inl ⟨q, hq, rfl⟩)).acts.trans
      ((Moves.noteOrder _ _).acts.trans (Acts.endReturn _ w))).ground hs)
  | blockStands w hb hlit => exact h.blockStands hb ht
  | blockEnds w hlit =>
    have hstopped := Moves.updWin s w (fun x => { x with blockTimer := none }) fun _ => by rfl
    have hstoppedf : Fits .closed (s.updWin w fun x => { x with blockTimer := none }) :=
      hf.updWin w _ (D := Gap.closed.dim) rfl rfl (fun k => k) (fun _ => rfl) (fun _ k => k) fun _ _ => ⟨fun k => k, fun k => k⟩
    refine (hstoppedf.markFinished (hstopped.ground hg) w fun x p hx => ?_).settle ((hstopped.trans (.markFinished _ w)).ground hg)
    have hl := hx.lit
    rw [State.win_updWin, hlit] at hl
    cases hl
  | swapTimeout p hst =>
    have hnoted : Settled (s.noteUnswapped p) := by
      unfold State.noteUnswapped
      split
      · exact ⟨(Moves.noteOrder s _).ground hg, hf.congr rfl rfl rfl rfl, h.sharp.of_eq rfl rfl⟩
      · exact h
    have hpos : (s.noteUnswapped p).pos p = s.pos p := by
      unfold State.noteUnswapped
      split <;> rfl
    exact ⟨ht, hnoted.fits.emptyPosition (by rw [hpos]; exact hst), hnoted.sharp.emptyPosition p⟩
  | pposFall p => exact h.pposFalls hs p
  | pposRise p => exact h.pposRises hs p
  | press p =>
    have hpressed : Acts s (s.updPos p fun q => { q with pressed := true, armed := false }) := .updPos s p _ fun _ => by exact id
    exact Settled.press (hpressed.firm hs) ⟨hpressed.ground hs, hf.updPos p _ (D := Gap.closed.dim) rfl rfl (fun k => k) (fun _ k => k)
      fun _ _ k _ => k, h.sharp.updPos p _ rfl rfl⟩ p
  | button _ p pressed armed =>
    exact ⟨ht, hf.updPos p _ (D := Gap.closed.dim) rfl rfl (fun k => k) (fun _ k => k) fun _ _ k _ => k, h.sharp.updPos p _ rfl rfl⟩
  | guardEnds w =>
    exact ⟨ht, hf.updWin w _ (D := Gap.closed.dim) rfl rfl (fun _ => rfl) (fun _ => rfl) (fun _ k => k)
      fun _ _ => ⟨fun k => k, fun k => k⟩, h.sharp.updWin w _ rfl fun k => k⟩
  | overdue w x hx => exact ⟨ht, hf.overdue hx, h.sharp.overdue w x⟩
  | await task hran => exact h.await hran _
  | holdLine _ b =>
    have hline : Acts s { s with holdLine := b } := .other rfl
    have hlinef : Fits .closed { s with holdLine := b } := hf.congr rfl rfl rfl rfl
    exact (hlinef.changeHolds (hline.firm hs) _ _).settle ((Acts.changeHolds _ _ _).ground (hline.firm hs))

/-! ### A step -/

theorem Firm.of_tables (hs : Firm s) (h : t.tables = s.tables) : Firm t := by
  have htasks : t.tasks = s.tasks := (congrArg State.tasks h :)
  exact hs.of_tasks (.of_tables h hs.standing) (tablesWf_of_tables h hs.tables) (by rw [htasks])

theorem Firm.countTimers (hs : Firm s) : Firm s.countTimers := by
  refine hs.of_tasks (.countTimers hs.standing) (tablesWf_countTimers hs.tables) ?_
  change (s.tasks.map Task.tick).map _ = _
  rw [List.map_map]
  rfl

/-- Every step keeps the ground, and what is lit where upon it. -/
theorem step_settled (hstep : step s = .next t) (hs : Firm s) (h : Settled s) : Firm t ∧ Settled t := by
  refine step_keeps (P := fun s => Firm s ∧ Settled s) (fun s t ht ⟨hs, h⟩ => ?_) (fun s line pending free ⟨hs, h⟩ => ?_)
    (fun s ⟨hs, h⟩ => ?_) (fun s c t hevent ⟨hs, h⟩ => ?_) hstep ⟨hs, h⟩
  · exact ⟨hs.of_tables ht, h.of_tables ht (hs.of_tables ht).ground⟩
  · have hother : Acts s { s with rstLine := line, pending := pending, free := free } := .other rfl
    exact ⟨hother.firm hs, h.of_stage rfl (hother.ground hs)⟩
  · exact ⟨hs.countTimers, h.countTimers hs.countTimers.ground⟩
  · exact ⟨hevent.acts.firm hs, hevent.settled hs h⟩

/-- Settles O59: between events everything fits and nothing is left open; each event opens what its acts touch, they close it
again, and the work at its end makes good the block timers and the CLOSING positions. -/
theorem stepKeepsLit : Obligations.StepKeepsLit := by
  intro s t hstep htotes hplaces hlifts htables hlit
  have hstanding := (standing_iff htotes.1).2 ⟨hplaces, hlifts⟩
  obtain ⟨hground, hfits, hsharp⟩ := (State.litWf_iff hstanding.placed hstanding.numbered htables.2.1).1 hlit
  obtain ⟨hfirm, hsettled⟩ := step_settled hstep ⟨hstanding, htables, hground.ascending, hground.below⟩ ⟨hground, hfits, hsharp⟩
  have hg := hsettled.ground
  exact (State.litWf_iff hg.placed hg.numbered hg.distinct).2 ⟨hg, hsettled.fits, hsettled.sharp⟩

end

end Sys2Proof.Machine
